-- ==== Sys2Proof/Word.lean ====
section
/-! DEFINITION. The fixed-width values that cross the connections of the JD-3620 (R182): bytes, two-byte, four-byte
and eight-byte values, and the keys of the Key Table. -/

namespace Sys2Proof

/-- One byte of a frame or of a Meter Store row. -/
abbrev Byte := BitVec 8

/-- A two-byte value of R182 (page, width, generation, price, period and their like). -/
abbrev Half := BitVec 16

/-- A four-byte value of R182 (quota, account id, part time, DU amount and their like). -/
abbrev Word := BitVec 32

/-- An eight-byte value of R182 (serial, nonce, challenge response). -/
abbrev Dword := BitVec 64

/-- A cipher key or a check key. DESIGN CHOICE (log entry 4): the spec gives keys no width. -/
abbrev Key := BitVec 128

end Sys2Proof
end

