-- ==== Sys2Proof/Machine/Bytes.lean ====
section
/-! DEFINITION. Byte order, check values and saturating sums (R182): every frame, tag exchange and row image is built
and read with these. -/

namespace Sys2Proof.Machine

/-- A value in `w` bytes, most significant byte first (R182); what does not fit is dropped. -/
def beBytes : Nat → Nat → List Byte
  | 0, _ => []
  | w + 1, v => BitVec.ofNat 8 (v / 256 ^ w) :: beBytes w v

/-- The value of bytes sent most significant byte first (R182). -/
def beNat (l : List Byte) : Nat := l.foldl (fun acc b => acc * 256 + b.toNat) 0

/-- The field of `len` bytes at byte offset `off`, most significant byte first. -/
def fieldAt (l : List Byte) (off len : Nat) : Nat := beNat ((l.drop off).take len)

/-- A 4-byte value. -/
def u32 (x : Nat) : List Byte := beBytes 4 x

/-- One bit step of the reflected CRC-32 with generator 04C11DB7h (EDB88320h reflected). -/
def crc32Bit (c : Nat) : Nat := if c % 2 = 1 then (c / 2) ^^^ 0xEDB88320 else c / 2

/-- One byte step of CRC-32. -/
def crc32Byte (c : Nat) (b : Byte) : Nat :=
  crc32Bit (crc32Bit (crc32Bit (crc32Bit (crc32Bit (crc32Bit (crc32Bit (crc32Bit (c ^^^ b.toNat))))))))

/-- The CRC-32 of frames and rows (R182): initial value and final exclusive-or FFFFFFFFh. -/
def crc32 (l : List Byte) : Nat := (l.foldl crc32Byte 0xFFFFFFFF) ^^^ 0xFFFFFFFF

/-- One bit step of CRC-16 with generator 1021h, no reflection. -/
def crc16Bit (c : Nat) : Nat :=
  if 0x8000 ≤ c then ((c * 2) % 0x10000) ^^^ 0x1021 else c * 2

/-- One byte step of CRC-16. -/
def crc16Byte (c : Nat) (b : Byte) : Nat :=
  crc16Bit (crc16Bit (crc16Bit (crc16Bit (crc16Bit (crc16Bit (crc16Bit (crc16Bit (c ^^^ (b.toNat * 256)))))))))

/-- The CRC-16 of tag frames (R182): initial value FFFFh, no final exclusive-or. -/
def crc16 (l : List Byte) : Nat := l.foldl crc16Byte 0xFFFF

/-- A frame of the controller, engine or scanner link: kind and body, then their CRC-32 (R182). -/
def frameOf (kindAndBody : List Byte) : List Byte := kindAndBody ++ u32 (crc32 kindAndBody)

/-- The kind and body of a frame whose CRC-32 agrees, or none (R2, R21, R121). -/
def checkFrame (frame : List Byte) : Option (List Byte) :=
  let n := frame.length - 4
  if 5 ≤ frame.length ∧ frame.drop n = u32 (crc32 (frame.take n)) then some (frame.take n) else none

/-- A tag frame: kind and fields, then their CRC-16 (section 12.4). -/
def tagFrameOf (kindAndFields : List Byte) : List Byte := kindAndFields ++ beBytes 2 (crc16 kindAndFields)

/-- The kind and fields of a tag frame whose CRC-16 agrees, or none (R103). -/
def checkTagFrame (frame : List Byte) : Option (List Byte) :=
  let n := frame.length - 2
  if 3 ≤ frame.length ∧ frame.drop n = beBytes 2 (crc16 (frame.take n)) then some (frame.take n) else none

/-- A sum that stops at its stated maximum (section 4.2 of 00_scope.md). -/
def satAdd (limit a b : Nat) : Nat := min limit (a + b)

/-- The greatest value of a 32-bit quantity. -/
def max32 : Nat := 4294967295

/-- The greatest value of a 16-bit quantity. -/
def max16 : Nat := 65535

end Sys2Proof.Machine
end

