-- ==== Sys2Proof/Syntax.lean ====
section
/-! DEFINITION. The commands of the block: one constructor of Instr for each row of spec/opcode_table.json. The first
rows are events at the connections and inside the part; the last forty-four are the controller's commands, each with its
command tag and its arguments at the widths of R182, so that every value a frame can carry is a term. -/

namespace Sys2Proof

/-- The arguments of OPEN JOB, in the order of R25. -/
structure OpenJobArgs where
  kind : Byte
  account : Byte
  mode : Byte
  size : Byte
  stall : Byte
  slot : Byte
  generation : Half
  dest : Byte
  deriving DecidableEq, Repr

/-- The arguments of LOAD ACCOUNT, in the order of R53. -/
structure LoadAccountArgs where
  index : Byte
  id : Word
  state : Byte
  privileges : Byte
  quota : Word
  charged : Word
  base1 : Byte
  limit1 : Byte
  base2 : Byte
  limit2 : Byte
  deriving DecidableEq, Repr

/-- A scanner BAND frame whose CRC-32 is good (section 12.3). -/
structure ScannerBand where
  page : Half
  plane : Byte
  last : Bool
  index : Half
  lines : Byte
  width : Half
  payload : List Byte
  deriving DecidableEq, Repr

/-- The forty-four commands of the command index of section 11.3, with their arguments. -/
inductive Command where
  | openJob (a : OpenJobArgs)
  | resumeJob (handle : Byte)
  | closeJob (handle : Byte)
  | cancelJob (handle : Byte)
  | readJob (handle : Byte)
  | loadTariff (prices : Vector Half 7) (postscale : Byte)
  | readTariff
  | adjustQuota (index : Byte) (quota : Word)
  | loadAccount (a : LoadAccountArgs)
  | unloadAccount (index : Byte)
  | setAccountState (index state : Byte)
  | readAccount (index : Byte)
  | openSession (index : Byte)
  | touchSession
  | closeSession
  | readSession
  | loadToneTable (plane : Byte) (weights : Vector Half 17) (gain : Half)
  | setSpotThreshold (threshold : Half)
  | readToneTable (plane : Byte)
  | readPageMeter
  | setNoticeMask (mask : Half)
  | resetPath
  | readTracker
  | readEntry (position : Byte)
  | recheckCartridge (slot : Byte)
  | setCartridgePolicy (policy : Byte) (lowMark : Half) (step : Word)
  | readCartridge (slot : Byte)
  | readHistory (position : Byte)
  | loadEgressClass (cls mode : Byte) (retention releases : Half)
  | readEgressClass (cls : Byte)
  | discardKey (slot : Byte) (generation : Half)
  | readKeySlot (slot : Byte)
  | flushMeters
  | saveSettings
  | lockMeters
  | sanitize (scope : Byte)
  | readRow (row : Half)
  | setTime (seconds : Word)
  | readTime
  | setTrim (trim : Half)
  | setTimer (channel tap : Byte) (period : Half) (run : Byte)
  | readStatus
  | clearStatus (named : Half)
  | readIdentity
  deriving DecidableEq, Repr

/-- The commands of the block: one constructor for each row of the table, in the table's order. -/
inductive Instr where
  /-- Power returns. The line levels stand as the state holds them. -/
  | powerOnReset
  /-- A downstream frame arrives whose first byte is taken for a command frame's; all its bytes, CRC-32 included. -/
  | commandFrameReceived (frame : List Byte)
  /-- A downstream frame arrives whose first byte is taken for a band frame's; all its bytes, CRC-32 included. -/
  | bandFrameReceived (frame : List Byte)
  | bandReexamined
  | stallExpiry
  /-- The engine ready line takes a level. -/
  | engineReadyLine (level : Bool)
  | pendingVoidSend
  | pathClearSend
  | sheetExit (job : Byte) (page : Half) (count : Byte)
  | sheetJam (lost developed : Byte)
  | pathPurge
  | drainCompletion (job : Fin 16)
  | scannerPageBegin (page : Half)
  | scannerBand (band : ScannerBand)
  | scannerPageEnd
  | scanPageCompletion
  | upstreamFrameBegin
  | replySent
  | noticeSent
  | scanFrameSent
  /-- One reference step, with the levels of the four cartridge-present lines as they stand at it. -/
  | referenceStep (presence : Vector Bool 4)
  | channelExpiry (channel : Fin 4)
  | debouncedRise (slot : Fin 4)
  | debouncedFall (slot : Fin 4)
  | fullCheckStart (slot : Fin 4)
  | identifyAnswer (slot : Fin 4) (serial : Dword) (colorant : Byte) (model : Half) (ratedYield : Word)
  | challengeAnswer (slot : Fin 4) (response : Dword)
  | readRationAnswer (slot : Fin 4) (ration : Word) (writeCount : Half)
  | writeRationAnswer (slot : Fin 4) (ration : Word) (writeCount : Half)
  | exchangeLimit (slot : Fin 4)
  | serveWaitingWork (slot : Fin 4)
  | storeOperationStart
  /-- The write under way completes: the array retained the image written (none), or these 64 bytes. -/
  | storeWriteComplete (retained : Option (List Byte))
  | powerWarningRise
  | powerWarningFall
  | pathResetLine
  | pathResetLineFall
  | openJob (tag : Byte) (a : OpenJobArgs)
  | resumeJob (tag handle : Byte)
  | closeJob (tag handle : Byte)
  | cancelJob (tag handle : Byte)
  | readJob (tag handle : Byte)
  | loadTariff (tag : Byte) (prices : Vector Half 7) (postscale : Byte)
  | readTariff (tag : Byte)
  | adjustQuota (tag index : Byte) (quota : Word)
  | loadAccount (tag : Byte) (a : LoadAccountArgs)
  | unloadAccount (tag index : Byte)
  | setAccountState (tag index state : Byte)
  | readAccount (tag index : Byte)
  | openSession (tag index : Byte)
  | touchSession (tag : Byte)
  | closeSession (tag : Byte)
  | readSession (tag : Byte)
  | loadToneTable (tag plane : Byte) (weights : Vector Half 17) (gain : Half)
  | setSpotThreshold (tag : Byte) (threshold : Half)
  | readToneTable (tag plane : Byte)
  | readPageMeter (tag : Byte)
  | readTracker (tag : Byte)
  | readEntry (tag position : Byte)
  | recheckCartridge (tag slot : Byte)
  | setCartridgePolicy (tag policy : Byte) (lowMark : Half) (step : Word)
  | readCartridge (tag slot : Byte)
  | readHistory (tag position : Byte)
  | loadEgressClass (tag cls mode : Byte) (retention releases : Half)
  | readEgressClass (tag cls : Byte)
  | discardKey (tag slot : Byte) (generation : Half)
  | readKeySlot (tag slot : Byte)
  | flushMeters (tag : Byte)
  | saveSettings (tag : Byte)
  | lockMeters (tag : Byte)
  | sanitize (tag scope : Byte)
  | readRow (tag : Byte) (row : Half)
  | setTime (tag : Byte) (seconds : Word)
  | readTime (tag : Byte)
  | setTrim (tag : Byte) (trim : Half)
  | setTimer (tag channel tap : Byte) (period : Half) (run : Byte)
  | readStatus (tag : Byte)
  | clearStatus (tag : Byte) (named : Half)
  | setNoticeMask (tag : Byte) (mask : Half)
  | resetPath (tag : Byte)
  | readIdentity (tag : Byte)
  /-- A frame arrives on the engine link that names no good report; all its bytes. -/
  | engineReportDiscard (frame : List Byte)
  /-- A frame arrives on the scanner link that is no good frame; all its bytes. -/
  | scannerFrameDiscard (frame : List Byte)
  /-- An answer arrives on a cartridge line that is no good answer; all its bytes. -/
  | tagAnswerDiscard (slot : Fin 4) (frame : List Byte)
  deriving DecidableEq, Repr

end Sys2Proof
end

