-- ==== Sys2Proof/Decode.lean ====
section
/-! DEFINITION. Reading commands from bits. The opcode table gives no row any bits, so no word spells a command
(decodeTableWord). A controller command arrives as a command frame (section 12.2): its kind byte and its arguments are
read here, at the widths of R182, and written by the encoder beside it. -/

namespace Sys2Proof

open Sys2Proof.Machine

/-- The command that a word of the opcode table spells: the table gives no row any bits, so none does. -/
def decodeTableWord (_nbits _w : Nat) : Option Instr := none

/-- The kind byte of each command: the place of the command in the index of section 11.3 (R183). -/
def Command.kind : Command → Byte
  | .openJob _ => 1
  | .resumeJob _ => 2
  | .closeJob _ => 3
  | .cancelJob _ => 4
  | .readJob _ => 5
  | .loadTariff _ _ => 6
  | .readTariff => 7
  | .adjustQuota _ _ => 8
  | .loadAccount _ => 9
  | .unloadAccount _ => 10
  | .setAccountState _ _ => 11
  | .readAccount _ => 12
  | .openSession _ => 13
  | .touchSession => 14
  | .closeSession => 15
  | .readSession => 16
  | .loadToneTable _ _ _ => 17
  | .setSpotThreshold _ => 18
  | .readToneTable _ => 19
  | .readPageMeter => 20
  | .setNoticeMask _ => 21
  | .resetPath => 22
  | .readTracker => 23
  | .readEntry _ => 24
  | .recheckCartridge _ => 25
  | .setCartridgePolicy _ _ _ => 26
  | .readCartridge _ => 27
  | .readHistory _ => 28
  | .loadEgressClass _ _ _ _ => 29
  | .readEgressClass _ => 30
  | .discardKey _ _ => 31
  | .readKeySlot _ => 32
  | .flushMeters => 33
  | .saveSettings => 34
  | .lockMeters => 35
  | .sanitize _ => 36
  | .readRow _ => 37
  | .setTime _ => 38
  | .readTime => 39
  | .setTrim _ => 40
  | .setTimer _ _ _ _ => 41
  | .readStatus => 42
  | .clearStatus _ => 43
  | .readIdentity => 44

/-- A two-byte value from its bytes, most significant first. -/
def half (a b : Byte) : Half := a ++ b

/-- A four-byte value from its bytes, most significant first. -/
def word (a b c d : Byte) : Word := a ++ b ++ c ++ d

/-- The bytes of a two-byte value. -/
def halfBytes (x : Half) : List Byte := [x.extractLsb' 8 8, x.extractLsb' 0 8]

/-- The bytes of a four-byte value. -/
def wordBytes (x : Word) : List Byte :=
  [x.extractLsb' 24 8, x.extractLsb' 16 8, x.extractLsb' 8 8, x.extractLsb' 0 8]

/-- The two-byte values of a byte string, two bytes at a time. -/
def halves : List Byte → List Half
  | a :: b :: rest => half a b :: halves rest
  | _ => []

/-- `n` two-byte values that fill a byte string exactly, or none. -/
def halvesOf (n : Nat) (l : List Byte) : Option (Vector Half n) :=
  if l.length = 2 * n then
    if h : (halves l).length = n then some ⟨(halves l).toArray, by simpa using h⟩ else none
  else none

/-- The command a command frame's kind byte and arguments form, or none: the kind names no command, or the length is
not the length that kind requires (R173). The widths of the arguments that section 12.1 does not name are the model's (log
entry 41). -/
def decodeCommand (kind : Byte) (args : List Byte) : Option Command :=
  match kind.toNat, args with
  | 1, [k, a, m, s, t, l, g1, g0, d] => some (.openJob ⟨k, a, m, s, t, l, half g1 g0, d⟩)
  | 2, [h] => some (.resumeJob h)
  | 3, [h] => some (.closeJob h)
  | 4, [h] => some (.cancelJob h)
  | 5, [h] => some (.readJob h)
  | 6, [a1, a0, b1, b0, c1, c0, d1, d0, e1, e0, f1, f0, g1, g0, p] =>
    some (.loadTariff #v[half a1 a0, half b1 b0, half c1 c0, half d1 d0, half e1 e0, half f1 f0, half g1 g0] p)
  | 7, [] => some .readTariff
  | 8, [i, q3, q2, q1, q0] => some (.adjustQuota i (word q3 q2 q1 q0))
  | 9, [i, d3, d2, d1, d0, s, p, q3, q2, q1, q0, c3, c2, c1, c0, b1, l1, b2, l2] =>
    some (.loadAccount ⟨i, word d3 d2 d1 d0, s, p, word q3 q2 q1 q0, word c3 c2 c1 c0, b1, l1, b2, l2⟩)
  | 10, [i] => some (.unloadAccount i)
  | 11, [i, s] => some (.setAccountState i s)
  | 12, [i] => some (.readAccount i)
  | 13, [i] => some (.openSession i)
  | 14, [] => some .touchSession
  | 15, [] => some .closeSession
  | 16, [] => some .readSession
  | 17, p :: rest =>
    match halvesOf 18 rest with
    | some v => some (.loadToneTable p (v.pop) v[17])
    | none => none
  | 18, [a, b] => some (.setSpotThreshold (half a b))
  | 19, [p] => some (.readToneTable p)
  | 20, [] => some .readPageMeter
  | 21, [a, b] => some (.setNoticeMask (half a b))
  | 22, [] => some .resetPath
  | 23, [] => some .readTracker
  | 24, [p] => some (.readEntry p)
  | 25, [s] => some (.recheckCartridge s)
  | 26, [p, m1, m0, s3, s2, s1, s0] => some (.setCartridgePolicy p (half m1 m0) (word s3 s2 s1 s0))
  | 27, [s] => some (.readCartridge s)
  | 28, [p] => some (.readHistory p)
  | 29, [c, m, r1, r0, n1, n0] => some (.loadEgressClass c m (half r1 r0) (half n1 n0))
  | 30, [c] => some (.readEgressClass c)
  | 31, [s, g1, g0] => some (.discardKey s (half g1 g0))
  | 32, [s] => some (.readKeySlot s)
  | 33, [] => some .flushMeters
  | 34, [] => some .saveSettings
  | 35, [] => some .lockMeters
  | 36, [s] => some (.sanitize s)
  | 37, [r1, r0] => some (.readRow (half r1 r0))
  | 38, [t3, t2, t1, t0] => some (.setTime (word t3 t2 t1 t0))
  | 39, [] => some .readTime
  | 40, [t1, t0] => some (.setTrim (half t1 t0))
  | 41, [c, t, p1, p0, r] => some (.setTimer c t (half p1 p0) r)
  | 42, [] => some .readStatus
  | 43, [a, b] => some (.clearStatus (half a b))
  | 44, [] => some .readIdentity
  | _, _ => none

/-- The argument bytes of a command, as R182 lays them out. -/
def encodeArguments : Command → List Byte
  | .openJob a => [a.kind, a.account, a.mode, a.size, a.stall, a.slot] ++ halfBytes a.generation ++ [a.dest]
  | .resumeJob h => [h]
  | .closeJob h => [h]
  | .cancelJob h => [h]
  | .readJob h => [h]
  | .loadTariff v f => v.toList.flatMap halfBytes ++ [f]
  | .readTariff => []
  | .adjustQuota i q => i :: wordBytes q
  | .loadAccount a =>
    a.index :: wordBytes a.id ++ [a.state, a.privileges] ++ wordBytes a.quota ++ wordBytes a.charged ++
      [a.base1, a.limit1, a.base2, a.limit2]
  | .unloadAccount i => [i]
  | .setAccountState i s => [i, s]
  | .readAccount i => [i]
  | .openSession i => [i]
  | .touchSession => []
  | .closeSession => []
  | .readSession => []
  | .loadToneTable p w g => p :: w.toList.flatMap halfBytes ++ halfBytes g
  | .setSpotThreshold t => halfBytes t
  | .readToneTable p => [p]
  | .readPageMeter => []
  | .setNoticeMask m => halfBytes m
  | .resetPath => []
  | .readTracker => []
  | .readEntry p => [p]
  | .recheckCartridge s => [s]
  | .setCartridgePolicy p m s => p :: halfBytes m ++ wordBytes s
  | .readCartridge s => [s]
  | .readHistory p => [p]
  | .loadEgressClass c m r n => [c, m] ++ halfBytes r ++ halfBytes n
  | .readEgressClass c => [c]
  | .discardKey s g => s :: halfBytes g
  | .readKeySlot s => [s]
  | .flushMeters => []
  | .saveSettings => []
  | .lockMeters => []
  | .sanitize s => [s]
  | .readRow r => halfBytes r
  | .setTime t => wordBytes t
  | .readTime => []
  | .setTrim t => halfBytes t
  | .setTimer c t p r => [c, t] ++ halfBytes p ++ [r]
  | .readStatus => []
  | .clearStatus n => halfBytes n
  | .readIdentity => []

/-- A command frame as the controller sends it (section 12.2). -/
def encodeCommandFrame (tag : Byte) (c : Command) : List Byte :=
  frameOf ([0x01#8, c.kind, tag] ++ encodeArguments c)

end Sys2Proof
end

