-- ==== Sys2Proof/Config.lean ====
section
/-! DEFINITION. What the spec leaves without a value: the keyed functions whose construction is not given
(section 3.1 of 00_scope.md, R104, R129, R130), the random generator's draws, and nothing else. Each is a constant
with no body: no proof can see what it is. -/

namespace Sys2Proof

/-- The six values the 128-bit counter of one cipher block is formed from (R129). How they are packed is not given, so
the keyed permutation below takes the six values themselves (log entry 5). -/
structure CipherCounter where
  slot : Nat
  generation : Nat
  page : Nat
  plane : Nat
  band : Nat
  block : Nat
  deriving DecidableEq, Repr

/-- The keyed permutation of R129 applied to a block's counter under a cipher key: 16 bytes of key stream, the byte
numbered 0 combined with the first byte of the block. -/
opaque Config.keyStream : Key → CipherCounter → Fin 16 → Byte

/-- The first 32 bits of the keyed hash of R130 under a check key, over the check header and the payload. -/
opaque Config.bandHash : Key → List Byte → Word

/-- The keyed hash of R104 over a nonce and a serial, under a tag key. -/
opaque Config.tagHash : Key → Dword → Dword → Dword

/-- The tag key of a serial, derived from the part's master secret (the content of row 1; R104). -/
opaque Config.tagKey : List Byte → Dword → Key

/-- The n-th key the random generator supplies (R138). -/
opaque Config.randomKey : Nat → Key

/-- The n-th challenge nonce the random generator supplies (R104). -/
opaque Config.randomNonce : Nat → Dword

end Sys2Proof
end

