-- ==== Sys2Proof/Machine/Types.lean ====
section
/-! DEFINITION. The data types of the blocks of section 2.1 of 00_scope.md: one structure per record, with every field
the field tables of the chapters give it. -/

namespace Sys2Proof.Machine

/-! ### Values with names -/

inductive JobState where | free | active | held | draining
  deriving DecidableEq, Repr

inductive JobKind where | print | release | scan
  deriving DecidableEq, Repr

inductive ColourMode where | mono | color
  deriving DecidableEq, Repr

inductive SizeClass where | small | large
  deriving DecidableEq, Repr

/-- The hold reasons, and SANITIZE (section 2.1). -/
inductive Reason where | quota | account | cartridge | spent | jam | sanitize
  deriving DecidableEq, Repr

/-- The seven tariff classes (section 3.1). -/
inductive TariffClass where | monoS | monoL | spotS | spotL | colorS | colorL | scan
  deriving DecidableEq, Repr

inductive AccountState where | absent | enabled | suspended
  deriving DecidableEq, Repr

inductive EntryStatus where | forwarding | complete | void
  deriving DecidableEq, Repr

inductive FaultKind where | short | skip | unfinished | stray | overcount
  deriving DecidableEq, Repr

inductive RejectReason where | wrongSlot | badResponse
  deriving DecidableEq, Repr

inductive CartridgeState where
  | empty | sensed | checking | genuine | spent
  | rejected (reason : RejectReason)
  | mute
  deriving DecidableEq, Repr

inductive Policy where | strict | tolerant
  deriving DecidableEq, Repr

inductive HistoryEvent where | removed | spent
  deriving DecidableEq, Repr

inductive EgressMode where | clear | cipher
  deriving DecidableEq, Repr

inductive KeyState where | free | active | retained | erasing
  deriving DecidableEq, Repr

inductive EraseCause where | expired | discarded | released | sanitized
  deriving DecidableEq, Repr

inductive RowRequest where | none | commit | erase
  deriving DecidableEq, Repr

inductive Tap where | t1024 | t32 | t1 | t60
  deriving DecidableEq, Repr

inductive RunRequest where | none | start | stop
  deriving DecidableEq, Repr

inductive SanitizeScope where | keys | accounts | all
  deriving DecidableEq, Repr

/-- The three conditions of a row (R150). -/
inductive RowCondition where | valid | blank | corrupt
  deriving DecidableEq, Repr

/-- The seven reply codes (section 11.1). -/
inductive ReplyCode where | ok | busy | noEntry | refused | locked | full | malformed
  deriving DecidableEq, Repr

/-- The thirteen status flags, in the order of R175. -/
inductive Flag where
  | jobHeld | jobDone | pageVoid | bandRefused | cartridgeChange | cartridgeState | rationLow
  | sessionEnded | keyErased | storeFault | trackFault | noticeOverflow | linkFrameError
  deriving DecidableEq, Repr

/-- One value of a reply or a notice, with its width in bytes (R182). -/
inductive Val where
  | num (width value : Nat)
  | absent (width : Nat)
  | present (width value : Nat)
  | raw (bytes : List Byte)
  deriving DecidableEq, Repr

/-! ### Job Table (chapter 2) -/

structure KeyRef where
  slot : Fin 64
  generation : Half
  deriving DecidableEq, Repr

structure Counters where
  started : Nat
  exited : Nat
  jammed : Nat
  voided : Nat
  refused : Nat
  deriving DecidableEq, Repr

/-- A job context (field table of section 2.1). -/
structure Job where
  state : JobState
  kind : JobKind
  account : Fin 256
  mode : ColourMode
  size : Option SizeClass
  key : Option KeyRef
  dest : Option (Fin 256)
  stallLimit : Option Nat
  stallCount : Option Nat
  reason : Option Reason
  cancel : Bool
  lastPage : Option Nat
  counters : Counters
  deriving DecidableEq, Repr

/-! ### Account Table (chapter 3) -/

structure Window where
  base : Nat
  limit : Nat
  deriving DecidableEq, Repr

/-- An account record (field table of section 3.1). Privilege bits: 0 COLOR, 1 SCAN, 2 RELEASE. -/
structure Account where
  id : Nat
  state : AccountState
  privileges : BitVec 3
  quota : Nat
  charged : Nat
  reserved : Nat
  counters : Vector Nat 7
  window1 : Window
  window2 : Window
  lastCharge : Nat
  dirty : Bool
  sinceFlush : Nat
  deriving DecidableEq, Repr

structure Session where
  account : Fin 256
  openTime : Nat
  deriving DecidableEq, Repr

/-- The Account Table: records, tariff, flush postscale F and the panel session (none when CLOSED). -/
structure AccountTable where
  records : Vector Account 256
  prices : Vector Nat 7
  postscale : Nat
  session : Option Session
  deriving DecidableEq, Repr

/-! ### Print Path (chapter 1) -/

/-- A plane record: next expected band index, line total so far, finished flag. -/
structure PlaneRec where
  next : Nat
  lines : Nat
  finished : Bool
  deriving DecidableEq, Repr

/-- A page tag. -/
structure Tag where
  job : Fin 16
  page : Nat
  deriving DecidableEq, Repr

/-- The open page record of section 1.1. A MONO page uses plane record 0 alone; nothing reads the others. -/
structure OpenPage where
  tag : Tag
  kind : JobKind
  mode : ColourMode
  size : SizeClass
  key : Option KeyRef
  width : Nat
  planes : Vector PlaneRec 4
  deriving DecidableEq, Repr

/-- The Print Path: engine page slot (none when EMPTY), refused-page markers, pending void mark, ready line level. -/
structure PrintPath where
  openPage : Option OpenPage
  markers : Vector (Option Nat) 16
  pendingVoid : Option Tag
  engineReady : Bool
  deriving DecidableEq, Repr

/-! ### Deposit Meter (chapter 4) -/

structure ToneTable where
  weights : Vector Nat 17
  gain : Nat
  deriving DecidableEq, Repr

/-- The accumulators of one plane: weighted sum A and raw sum T. -/
structure Accum where
  weighted : Nat
  raw : Nat
  deriving DecidableEq, Repr

structure PlaneResult where
  plane : Fin 4
  weighted : Nat
  raw : Nat
  deposit : Nat
  serial : Option Dword
  residue : Nat
  deriving DecidableEq, Repr

/-- The last completion record (R77). -/
structure CompletionRecord where
  tag : Tag
  mode : ColourMode
  coverage : Option Nat
  final : TariffClass
  planes : List PlaneResult
  deriving DecidableEq, Repr

structure DepositMeter where
  tables : Vector ToneTable 4
  threshold : Nat
  accum : Option (Vector Accum 4)
  lastRecord : Option CompletionRecord
  deriving DecidableEq, Repr

/-! ### Sheet Tracker (chapter 5) -/

/-- A tracker entry (field table of section 5.1). -/
structure Entry where
  tag : Tag
  account : Fin 256
  provisional : TariffClass
  reserved : Nat
  status : EntryStatus
  final : Option TariffClass
  deposits : Vector (Option Nat) 4
  serials : Vector (Option Dword) 4
  deriving DecidableEq, Repr

/-- A report's fields as received. -/
inductive ReportFields where
  | exit (job : Byte) (page : Half) (count : Byte)
  | jam (lost developed : Byte)
  deriving DecidableEq, Repr

structure LastFault where
  kind : FaultKind
  fields : ReportFields
  time : Nat
  deriving DecidableEq, Repr

structure SheetTracker where
  entries : List Entry
  stray : Nat
  lastFault : Option LastFault
  pathClear : Bool
  deriving DecidableEq, Repr

/-! ### Cartridge Unit (chapter 6) -/

/-- The request of an exchange (R104). -/
inductive TagRequest where
  | identify
  | challenge (nonce : Dword)
  | readRation
  | writeRation (value : Nat)
  deriving DecidableEq, Repr

/-- The sequence an exchange belongs to: full check (R106), recheck (R108) or write-back (R111). -/
inductive Sequence where | check | recheck | writeBack
  deriving DecidableEq, Repr

structure Exchange where
  request : TagRequest
  sequence : Sequence
  elapsed : Nat
  deriving DecidableEq, Repr

structure ModelCode where
  colorant : Byte
  number : Half
  deriving DecidableEq, Repr

/-- A cartridge slot record (field table of section 6.1). -/
structure Cartridge where
  state : CartridgeState
  serial : Option Dword
  model : Option ModelCode
  ratedYield : Nat
  rationKnown : Bool
  mirror : Nat
  confirmed : Nat
  writeCount : Nat
  residue : Nat
  developed : Nat
  overdraw : Nat
  unmetered : Nat
  insertions : Nat
  insertionTime : Nat
  lowReported : Bool
  sample : Bool
  level : Bool
  debounce : Nat
  latch : Bool
  changed : Bool
  exchange : Option Exchange
  writePending : Bool
  recheckPending : Bool
  deriving DecidableEq, Repr

/-- A cartridge history row (R116). -/
structure HistoryRow where
  event : HistoryEvent
  slot : Fin 4
  serial : Dword
  mirror : Nat
  insertionTime : Nat
  eventTime : Nat
  developed : Nat
  overdraw : Nat
  deriving DecidableEq, Repr

/-- The Cartridge Unit: slots, the three settings, the history ring with its dirty marks and next-write position, and
the master secret (the content of row 1, none when the row is not valid). -/
structure CartridgeUnit where
  slots : Vector Cartridge 4
  policy : Policy
  lowMark : Nat
  step : Nat
  ring : Vector (Option HistoryRow) 16
  ringDirty : Vector Bool 16
  ringNext : Fin 16
  masterSecret : Option (List Byte)
  deriving DecidableEq, Repr

/-! ### Scan Path (chapter 7) -/

/-- The scan page record when not IDLE; `ended` tells ENDED from OPEN. A mono scan uses plane record 0 alone. -/
structure ScanPage where
  ended : Bool
  tag : Tag
  width : Nat
  planes : Vector PlaneRec 3
  reservation : Nat
  inBuffer : Nat
  deriving DecidableEq, Repr

/-- A formed SCAN frame (section 12.2); `key` and `check` are present for a cipher job. -/
structure ScanFrame where
  tag : Tag
  key : Option KeyRef
  plane : Nat
  index : Nat
  lines : Nat
  width : Nat
  last : Bool
  payload : List Byte
  check : Option Word
  deriving DecidableEq, Repr

structure EgressEntry where
  mode : EgressMode
  retention : Nat
  releases : Nat
  deriving DecidableEq, Repr

/-- The Scan Path: scan page record (none when IDLE), announced page, output buffer (oldest first), class table. -/
structure ScanPath where
  page : Option ScanPage
  announced : Option Nat
  buffer : List ScanFrame
  egress : Vector EgressEntry 256
  deriving DecidableEq, Repr

/-! ### Key Table (chapter 8) -/

/-- A key slot record (field table of section 8.1). A slot without keys holds both as 0. -/
structure KeySlot where
  state : KeyState
  generation : Half
  owner : Nat
  cipherKey : Key
  checkKey : Key
  created : Nat
  expiry : Option Nat
  releases : Nat
  persisted : Bool
  naming : Option (Fin 16)
  cause : Option EraseCause
  rowRequest : RowRequest
  deriving DecidableEq, Repr

/-! ### Meter Store (chapter 9) -/

/-- A row number. -/
abbrev Row := Fin 360

/-- The non-volatile array as (address, byte) pairs: byte `o` of row `r` is at address 64 r + o. -/
abbrev Memory := List Host.Cell

/-- The three ranges a region erase may name (R156). -/
inductive Region where | keys | accounts | all
  deriving DecidableEq, Repr

/-- A request handed to the store (R153); for a row that is no key row the generation is 0. -/
inductive StoreRequest where
  | commit (row : Row) (generation : Half)
  | erase (row : Row) (generation : Half)
  | region (range : Region)
  deriving DecidableEq, Repr

/-- A waiting or held request; `own` marks the ones the long command in progress counts (R157, R158). -/
structure StoreEntry where
  request : StoreRequest
  own : Bool
  deriving DecidableEq, Repr

/-- The operation in flight: the request as it is carried out, the row being written, the attempt number and, for a
region erase, the failed rows so far. -/
structure StoreOp where
  request : StoreRequest
  own : Bool
  row : Row
  attempt : Nat
  failed : Nat
  deriving DecidableEq, Repr

structure MeterStore where
  memory : Memory
  op : Option StoreOp
  latches : List Byte
  queue : List StoreEntry
  held : List StoreEntry
  warning : Bool
  lock : Bool
  lockUnsaved : Bool
  deriving DecidableEq, Repr

/-! ### Time Base (chapter 10) -/

/-- A channel record (section 10.3). -/
structure Channel where
  tap : Tap
  period : Nat
  count : Nat
  running : Bool
  stopPending : Bool
  staged : Option (Tap × Nat)
  deriving DecidableEq, Repr

structure TimeBase where
  seconds : Nat
  accumulator : Nat
  subSecond : Nat
  minute : Nat
  trim : Int
  channels : Vector Channel 4
  deriving DecidableEq, Repr

/-! ### Command Unit, Link Interface, status and notices (chapters 1, 7 and 11) -/

/-- A command frame in the command queue: its kind byte and tag as received, and the command they form with their
arguments, or none where the frame forms no command. -/
structure CommandFrame where
  kind : Byte
  tag : Byte
  command : Option Command
  deriving DecidableEq, Repr

/-- A reply (section 11.1); any code but OK carries no results. -/
structure Reply where
  kind : Byte
  tag : Byte
  code : ReplyCode
  results : List Val
  deriving DecidableEq, Repr

/-- A notice (R178). -/
structure Notice where
  flag : Flag
  time : Nat
  sequence : Half
  fields : List Val
  deriving DecidableEq, Repr

/-- What a long command waits for: the end of `remaining` counted row operations, or of a region erase. -/
inductive Progress where
  | rows (remaining committed dropped : Nat)
  | region
  deriving DecidableEq, Repr

/-- The states of the Command Unit (section 11.1), with the command in progress. -/
inductive UnitState where
  | idle
  | working (kind tag : Byte) (progress : Progress)
  | replying (reply : Reply)
  deriving DecidableEq, Repr

/-- The Command Unit, with row 0 as read at power-on (R180). -/
structure CommandUnit where
  state : UnitState
  identity : List Byte
  identityCondition : RowCondition
  deriving DecidableEq, Repr

/-- A band frame that has passed R2. -/
structure Band where
  job : Fin 16
  page : Nat
  plane : Fin 4
  last : Bool
  index : Nat
  lines : Nat
  width : Nat
  payload : List Byte
  check : Option Word
  deriving DecidableEq, Repr

/-- Why a band waits in the band position (R3); `due` marks one that a void has made ready for examination (R17). -/
inductive WaitReason where | interleave | engine | tracker | due
  deriving DecidableEq, Repr

structure WaitingBand where
  band : Band
  reason : WaitReason
  deriving DecidableEq, Repr

/-- The frame being sent on the upstream half. `queued` and `buffered` tell whether the notice queue and the scan output
buffer still hold it: a path reset empties both while the frame is finished on the link (R120, R178). -/
inductive Sending where
  | reply (r : Reply)
  | notice (n : Notice) (queued : Bool)
  | scan (f : ScanFrame) (buffered : Bool)
  deriving DecidableEq, Repr

structure LinkInterface where
  commandQueue : List CommandFrame
  bandPosition : Option WaitingBand
  errors : Nat
  pathLine : Bool
  sending : Option Sending
  deriving DecidableEq, Repr

/-- The thirteen flags and the twelve notice enables as software reads them (R175, R177), the sequence number and the
notice queue (R178). -/
structure Status where
  flags : BitVec 13
  mask : BitVec 12
  sequence : Half
  notices : List Notice
  deriving DecidableEq, Repr

end Sys2Proof.Machine
end

