-- ==== Sys2Proof/Machine/Defaults.lean ====
section
/-! DEFINITION. The values the records take after power-on and the defaults of the settings. -/

namespace Sys2Proof.Machine

def Counters.zero : Counters := ⟨0, 0, 0, 0, 0⟩

/-- The power-on values of a context (R22). -/
def Job.initial : Job :=
  { state := .free, kind := .print, account := 0, mode := .mono, size := none, key := none, dest := none,
    stallLimit := none, stallCount := none, reason := none, cancel := false, lastPage := none,
    counters := Counters.zero }

/-- The blank values of an ABSENT record (R42). -/
def Account.blank : Account :=
  { id := 0, state := .absent, privileges := 0, quota := 0, charged := 0, reserved := 0,
    counters := Vector.replicate 7 0, window1 := ⟨0, 0⟩, window2 := ⟨0, 0⟩, lastCharge := 0,
    dirty := false, sinceFlush := 0 }

def PlaneRec.initial : PlaneRec := ⟨0, 0, false⟩

/-- The power-on values of a slot (R97). R97 gives the line sample no value: low is the model's DESIGN CHOICE (log entry 2). -/
def Cartridge.initial : Cartridge :=
  { state := .empty, serial := none, model := none, ratedYield := 0, rationKnown := false, mirror := 0,
    confirmed := 0, writeCount := 0, residue := 0, developed := 0, overdraw := 0, unmetered := 0, insertions := 0,
    insertionTime := 0, lowReported := false, sample := false, level := false, debounce := 0, latch := false,
    changed := false, exchange := none, writePending := false, recheckPending := false }

/-- The values of a FREE slot (R135), at a generation. -/
def KeySlot.freed (generation : Half) : KeySlot :=
  { state := .free, generation := generation, owner := 0, cipherKey := 0, checkKey := 0, created := 0,
    expiry := none, releases := 0, persisted := false, naming := none, cause := none, rowRequest := .none }

/-- The default table of every plane (R64). -/
def ToneTable.default : ToneTable :=
  { weights := #v[0, 256, 512, 768, 1024, 1280, 1536, 1792, 2048, 2304, 2560, 2816, 3072, 3328, 3584, 3840, 4095],
    gain := 800 }

/-- The default entry of the egress class table (R122). -/
def EgressEntry.default : EgressEntry := ⟨.cipher, 1440, 1⟩

/-- The default tap and period of each channel (R171). -/
def defaultChannelSettings : Vector (Tap × Nat) 4 := #v[(.t1, 120), (.t60, 1), (.t60, 5), (.t60, 60)]

/-- A channel after power-on: ch0 stopped, the others running (R171). -/
def Channel.afterPowerOn (running : Bool) (settings : Tap × Nat) : Channel :=
  { tap := settings.1, period := settings.2, count := 0, running := running, stopPending := false, staged := none }

/-- The content of rows 0 and 1 as the model takes them from manufacture: 60 bytes of zero.
DESIGN CHOICE (log entry 1): the spec gives neither row a content. -/
def manufactureContent : List Byte := List.replicate 60 0

/-- Rows 0 and 1 as manufactured: the content and its row check. -/
def manufactureRow : List Byte := manufactureContent ++ [0x04, 0x12, 0x89, 0x08]

end Sys2Proof.Machine
end

