-- ==== Sys2Proof/Machine/State.lean ====
section
/-! DEFINITION. The state of the JD-3620: one structure per block of section 2.1 of 00_scope.md, the queue of waiting
commands, and three logs of what has left on the links (the model's own, log entry 3). Everything is plain data. -/

namespace Sys2Proof.Machine

/-- No command of this block stops with a fault: the spec gives every command, in every state, an effect, a reply or
a discard, so this type has no value. -/
inductive Fault
  deriving DecidableEq, Repr

/-- The refusals. -/
inductive Refusal where
  /-- Raised by an arm of exec whose command has no meaning yet; safe. No arm does. -/
  | notModelled (mnemonic : String)
  deriving DecidableEq, Repr

/-- The whole part. -/
structure State where
  li : LinkInterface
  cu : CommandUnit
  jt : Vector Job 16
  acct : AccountTable
  pp : PrintPath
  dm : DepositMeter
  st : SheetTracker
  tu : CartridgeUnit
  sp : ScanPath
  kt : Vector KeySlot 64
  ms : MeterStore
  tb : TimeBase
  status : Status
  /-- Draws made of the random generator so far: the model's own counter (log entry 6). -/
  draws : Nat
  /-- Marks sent on the engine link, oldest first, as bytes: the model's own log (log entry 3). -/
  engineOut : List (List Byte)
  /-- Frames the upstream half has finished sending, oldest first, as bytes: the model's own log. -/
  upstreamOut : List (List Byte)
  /-- Requests sent on the cartridge lines, oldest first: the model's own log. -/
  tagOut : List (Fin 4 × List Byte)
  /-- The commands that wait, first in, first out. -/
  pending : List Instr
  deriving DecidableEq, Repr

/-- The part right after power-on reset with a store that nothing has been written to since manufacture: rows 0 and 1 as
manufactured, every other row blank (log entry 1), so every setting is at its default and nothing is loaded. -/
def State.reset : State :=
  { li := { commandQueue := [], bandPosition := none, errors := 0, pathLine := false, sending := none }
    cu := { state := .idle, identity := manufactureRow, identityCondition := .valid }
    jt := Vector.replicate 16 Job.initial
    acct := { records := Vector.replicate 256 Account.blank, prices := Vector.replicate 7 0, postscale := 8,
              session := none }
    pp := { openPage := none, markers := Vector.replicate 16 none, pendingVoid := none, engineReady := false }
    dm := { tables := Vector.replicate 4 ToneTable.default, threshold := 50, accum := none, lastRecord := none }
    st := { entries := [], stray := 0, lastFault := none, pathClear := false }
    tu := { slots := Vector.replicate 4 Cartridge.initial, policy := .strict, lowMark := 100, step := 1048576,
            ring := Vector.replicate 16 none, ringDirty := Vector.replicate 16 false, ringNext := 0,
            masterSecret := some manufactureContent }
    sp := { page := none, announced := none, buffer := [], egress := Vector.replicate 256 EgressEntry.default }
    kt := Vector.replicate 64 (KeySlot.freed 0)
    ms := { memory := [], op := none, latches := List.replicate 64 0, queue := [], held := [], warning := false,
            lock := false, lockUnsaved := false }
    tb := { seconds := 0, accumulator := 0, subSecond := 0, minute := 0, trim := 0,
            channels := #v[Channel.afterPowerOn false (.t1, 120), Channel.afterPowerOn true (.t60, 1),
                           Channel.afterPowerOn true (.t60, 5), Channel.afterPowerOn true (.t60, 60)] }
    status := { flags := 0, mask := 0, sequence := 0, notices := [] }
    draws := 0
    engineOut := []
    upstreamOut := []
    tagOut := []
    pending := [] }

end Sys2Proof.Machine
end

