-- ==== Sys2Proof/Machine/Operands.lean ====
section
/-! DEFINITION. Operand forms: the encodings of named values (R182: enumerations are numbered from 0 in the order in
which the owning rule names their values), the index and enumeration operands of commands, and the clamps and
substitutions the rules give for settings out of range (section 4.3 of 00_scope.md). -/

namespace Sys2Proof.Machine

/-! ### Codes of named values -/

def JobState.code : JobState → Nat
  | .free => 0 | .active => 1 | .held => 2 | .draining => 3

def JobKind.code : JobKind → Nat
  | .print => 0 | .release => 1 | .scan => 2

def ColourMode.code : ColourMode → Nat
  | .mono => 0 | .color => 1

def SizeClass.code : SizeClass → Nat
  | .small => 0 | .large => 1

/-- The hold reasons in the order of the field table of section 2.1 (QUOTA first), not of R29's table (CARTRIDGE first).
DEDUCED (log entry 49). -/
def Reason.code : Reason → Nat
  | .quota => 0 | .account => 1 | .cartridge => 2 | .spent => 3 | .jam => 4 | .sanitize => 5

/-- The classes in the tariff order of section 3.1, wherever a class is reported; section 5.1 names four of them for the
provisional class and six for the final one. DEDUCED (log entry 56). -/
def TariffClass.code : TariffClass → Nat
  | .monoS => 0 | .monoL => 1 | .spotS => 2 | .spotL => 3 | .colorS => 4 | .colorL => 5 | .scan => 6

def AccountState.code : AccountState → Nat
  | .absent => 0 | .enabled => 1 | .suspended => 2

def EntryStatus.code : EntryStatus → Nat
  | .forwarding => 0 | .complete => 1 | .void => 2

def FaultKind.code : FaultKind → Nat
  | .short => 0 | .skip => 1 | .unfinished => 2 | .stray => 3 | .overcount => 4

def RejectReason.code : RejectReason → Nat
  | .wrongSlot => 0 | .badResponse => 1

def CartridgeState.code : CartridgeState → Nat
  | .empty => 0 | .sensed => 1 | .checking => 2 | .genuine => 3 | .spent => 4 | .rejected _ => 5 | .mute => 6

def Policy.code : Policy → Nat
  | .strict => 0 | .tolerant => 1

def HistoryEvent.code : HistoryEvent → Nat
  | .removed => 0 | .spent => 1

def EgressMode.code : EgressMode → Nat
  | .clear => 0 | .cipher => 1

def KeyState.code : KeyState → Nat
  | .free => 0 | .active => 1 | .retained => 2 | .erasing => 3

def EraseCause.code : EraseCause → Nat
  | .expired => 0 | .discarded => 1 | .released => 2 | .sanitized => 3

def RowRequest.code : RowRequest → Nat
  | .none => 0 | .commit => 1 | .erase => 2

def Tap.code : Tap → Nat
  | .t1024 => 0 | .t32 => 1 | .t1 => 2 | .t60 => 3

def RowCondition.code : RowCondition → Nat
  | .valid => 0 | .blank => 1 | .corrupt => 2

/-- The reply codes of section 12.2. -/
def ReplyCode.code : ReplyCode → Nat
  | .ok => 0 | .busy => 1 | .noEntry => 2 | .refused => 3 | .locked => 4 | .full => 5 | .malformed => 6

/-- The exchanges in the order of R104. -/
def TagRequest.code : TagRequest → Nat
  | .identify => 0 | .challenge _ => 1 | .readRation => 2 | .writeRation _ => 3

/-- The kind of operation a STORE FAULT notice carries, in the order of R153. -/
def StoreRequest.code : StoreRequest → Nat
  | .commit _ _ => 0 | .erase _ _ => 1 | .region _ => 2

/-! ### Named values from bytes -/

def JobKind.ofByte (b : Byte) : Option JobKind :=
  match b.toNat with | 0 => some .print | 1 => some .release | 2 => some .scan | _ => none

def ColourMode.ofByte (b : Byte) : Option ColourMode :=
  match b.toNat with | 0 => some .mono | 1 => some .color | _ => none

def SizeClass.ofByte (b : Byte) : Option SizeClass :=
  match b.toNat with | 0 => some .small | 1 => some .large | _ => none

/-- ENABLED or SUSPENDED, the two states LOAD ACCOUNT and SET ACCOUNT STATE may carry, at their codes in the state
field (ABSENT 0, ENABLED 1, SUSPENDED 2). DEDUCED (log entry 14). -/
def AccountState.ofByte (b : Byte) : Option AccountState :=
  match b.toNat with | 1 => some .enabled | 2 => some .suspended | _ => none

def Policy.ofByte (b : Byte) : Option Policy :=
  match b.toNat with | 0 => some .strict | 1 => some .tolerant | _ => none

def EgressMode.ofByte (b : Byte) : Option EgressMode :=
  match b.toNat with | 0 => some .clear | 1 => some .cipher | _ => none

def SanitizeScope.ofByte (b : Byte) : Option SanitizeScope :=
  match b.toNat with | 0 => some .keys | 1 => some .accounts | 2 => some .all | _ => none

def Tap.ofCode : Nat → Option Tap
  | 0 => some .t1024 | 1 => some .t32 | 2 => some .t1 | 3 => some .t60 | _ => none

def RunRequest.ofByte (b : Byte) : Option RunRequest :=
  match b.toNat with | 0 => some .none | 1 => some .start | 2 => some .stop | _ => Option.none

/-- An index operand of a table with `n` entries, or none where it names nothing. -/
def indexOf (n : Nat) (b : Byte) : Option (Fin n) :=
  if h : b.toNat < n then some ⟨b.toNat, h⟩ else none

/-- An account index or an egress class: every byte names one. -/
def byteIndex (b : Byte) : Fin 256 := ⟨b.toNat, b.isLt⟩

/-! ### Clamps and substitutions -/

/-- F is brought into 1 to 16 (R44). -/
def clampPostscale (f : Nat) : Nat := min 16 (max 1 f)

/-- A stall limit of 0 is stored as 1 (R25). -/
def storedStall (n : Nat) : Nat := max 1 n

/-- W[0] is stored as 0 and the others at most 4,095 (R65). -/
def storedWeights (w : Vector Nat 17) : Vector Nat 17 :=
  Vector.ofFn fun i => if i.val = 0 then 0 else min 4095 w[i]

/-- A gain of 0 is stored as 1 (R65). -/
def storedGain (g : Nat) : Nat := max 1 g

/-- A threshold above 1,000 is stored as 1,000 (R66). -/
def storedThreshold (t : Nat) : Nat := min 1000 t

/-- A low mark above 1,000 is stored as 1,000 (R115). -/
def storedLowMark (m : Nat) : Nat := min 1000 m

/-- A write-back step is brought into 1 to 16,777,216 (R115). -/
def storedStep (n : Nat) : Nat := min 16777216 (max 1 n)

/-- An egress entry as stored for a class: retention and release count at least 1, class 0 always CIPHER (R122). A release
count above 255 is brought to 255, the limit of section 7.1. DEDUCED (log entry 50). -/
def storedEgress (cls : Nat) (mode : EgressMode) (retention releases : Nat) : EgressEntry :=
  { mode := if cls = 0 then .cipher else mode, retention := max 1 retention,
    releases := min 255 (max 1 releases) }

/-- A trim is brought into −1,023 to +1,023 (R164). -/
def storedTrim (t : Int) : Int := min 1023 (max (-1023) t)

/-- A period of 0 is stored as 1 (R169). -/
def storedPeriod (p : Nat) : Nat := max 1 p

/-! ### Values of replies and notices -/

namespace Val

def u8 (n : Nat) : Val := .num 1 n
def u16 (n : Nat) : Val := .num 2 n
def u32 (n : Nat) : Val := .num 4 n
def u64 (x : Dword) : Val := .num 8 x.toNat
/-- A value that is set or clear, yes or no, high or low: one byte, 01h or 00h. DEDUCED (log entry 47). -/
def flag (b : Bool) : Val := .num 1 b.toNat
/-- A value that may be absent: a presence byte, then the value, or zeros (R182). -/
def opt (width : Nat) : Option Nat → Val
  | none => .absent width
  | some v => .present width v

/-- The bytes of a value (R182). -/
def bytes : Val → List Byte
  | .num w v => beBytes w v
  | .absent w => 0x00#8 :: List.replicate w 0x00#8
  | .present w v => 0x01#8 :: beBytes w v
  | .raw l => l

end Val

/-- The bytes of a list of values, in order. -/
def valBytes (l : List Val) : List Byte := l.flatMap Val.bytes

/-- A signed two-byte value in two's complement (R182). -/
def Val.s16 (t : Int) : Val := .num 2 (t % 65536).toNat

end Sys2Proof.Machine
end

