-- ==== Sys2Proof/Machine/Ops.lean ====
section
/-! DEFINITION. Named operations over the records and the Meter Store's array: reading and replacing one record, the
lookups the blocks make of one another's state, and the bytes of the non-volatile rows. -/

namespace Sys2Proof.Machine

/-! ### One record of a table -/

namespace State

def job (s : State) (h : Fin 16) : Job := s.jt[h]
def setJob (s : State) (h : Fin 16) (j : Job) : State := { s with jt := s.jt.set h j }
def modJob (s : State) (h : Fin 16) (f : Job → Job) : State := s.setJob h (f (s.job h))

def account (s : State) (i : Fin 256) : Account := s.acct.records[i]
def setAccount (s : State) (i : Fin 256) (a : Account) : State :=
  { s with acct := { s.acct with records := s.acct.records.set i a } }
def modAccount (s : State) (i : Fin 256) (f : Account → Account) : State := s.setAccount i (f (s.account i))

def slot (s : State) (c : Fin 4) : Cartridge := s.tu.slots[c]
def setSlot (s : State) (c : Fin 4) (x : Cartridge) : State :=
  { s with tu := { s.tu with slots := s.tu.slots.set c x } }
def modSlot (s : State) (c : Fin 4) (f : Cartridge → Cartridge) : State := s.setSlot c (f (s.slot c))

def key (s : State) (k : Fin 64) : KeySlot := s.kt[k]
def setKey (s : State) (k : Fin 64) (x : KeySlot) : State := { s with kt := s.kt.set k x }
def modKey (s : State) (k : Fin 64) (f : KeySlot → KeySlot) : State := s.setKey k (f (s.key k))

def channel (s : State) (c : Fin 4) : Channel := s.tb.channels[c]
def setChannel (s : State) (c : Fin 4) (x : Channel) : State :=
  { s with tb := { s.tb with channels := s.tb.channels.set c x } }

def marker (s : State) (h : Fin 16) : Option Nat := s.pp.markers[h]
def setMarker (s : State) (h : Fin 16) (m : Option Nat) : State :=
  { s with pp := { s.pp with markers := s.pp.markers.set h m } }

/-- The current part time: the seconds count alone (section 10.1). -/
def now (s : State) : Nat := s.tb.seconds

/-! ### Counters of a job (R38) -/

def countStarted (s : State) (h : Fin 16) : State :=
  s.modJob h fun j => { j with counters := { j.counters with started := satAdd max32 j.counters.started 1 } }
def countExited (s : State) (h : Fin 16) : State :=
  s.modJob h fun j => { j with counters := { j.counters with exited := satAdd max32 j.counters.exited 1 } }
def countJammed (s : State) (h : Fin 16) : State :=
  s.modJob h fun j => { j with counters := { j.counters with jammed := satAdd max32 j.counters.jammed 1 } }
def countVoided (s : State) (h : Fin 16) : State :=
  s.modJob h fun j => { j with counters := { j.counters with voided := satAdd max32 j.counters.voided 1 } }
def countRefused (s : State) (h : Fin 16) : State :=
  s.modJob h fun j => { j with counters := { j.counters with refused := satAdd max32 j.counters.refused 1 } }

/-! ### What a job has (section 2.1) -/

/-- The open page belongs to the job. -/
def hasOpenPage (s : State) (h : Fin 16) : Bool := s.pp.openPage.any fun p => p.tag.job == h

/-- The scan page in progress belongs to the job. -/
def hasScanPage (s : State) (h : Fin 16) : Bool := s.sp.page.any fun p => p.tag.job == h

/-- The number of tracker entries with the job's handle. -/
def entryCount (s : State) (h : Fin 16) : Nat := (s.st.entries.filter fun e => e.tag.job == h).length

/-- A band of the job waits in the scan output buffer. -/
def hasBuffered (s : State) (h : Fin 16) : Bool := s.sp.buffer.any fun f => f.tag.job == h

/-- Every job handle, in order. -/
def handles : List (Fin 16) := List.finRange 16

/-- The one SCAN job that is ACTIVE, if there is one (section 2.1). -/
def activeScan (s : State) : Option (Fin 16) :=
  handles.find? fun h => (s.job h).kind == .scan && (s.job h).state == .active

/-- Every context is FREE. -/
def allFree (s : State) : Bool := handles.all fun h => (s.job h).state == .free

/-! ### What has left on the links (the model's own logs, log entry 3) -/

def emitEngine (s : State) (mark : List Byte) : State := { s with engineOut := s.engineOut ++ [mark] }
def emitUpstream (s : State) (frame : List Byte) : State := { s with upstreamOut := s.upstreamOut ++ [frame] }
def emitTag (s : State) (c : Fin 4) (request : List Byte) : State := { s with tagOut := s.tagOut ++ [(c, request)] }

end State

/-! ### The non-volatile array (R150) -/

/-- What an address of the array reads as when nothing has been written to it: rows 0 and 1 as manufactured, every
other row erased (all ones). DESIGN CHOICE (log entry 1). -/
def unlisted (a : Nat) : Byte := if a < 128 then manufactureRow.getD (a % 64) 0 else 0xFF#8

namespace Memory

/-- The byte at an address. -/
def read : Memory → Nat → Byte
  | [], a => unlisted a
  | (b, x) :: rest, a => if a = b then x else read rest a

/-- Store one byte: the list stays sorted by address, and an entry equal to what an unlisted address reads as is left
out. -/
def write : Memory → Nat → Byte → Memory
  | [], a, x => if x = unlisted a then [] else [(a, x)]
  | (b, y) :: rest, a, x =>
    if a < b then (if x = unlisted a then (b, y) :: rest else (a, x) :: (b, y) :: rest)
    else if a = b then (if x = unlisted a then rest else (a, x) :: rest)
    else (b, y) :: write rest a x

/-- The canonical form: addresses strictly rising, no entry equal to what an unlisted address reads as. -/
def wf : Memory → Bool
  | [] => true
  | (a, x) :: rest => decide (x ≠ unlisted a) && rest.all (fun c => decide (a < c.1)) && wf rest

/-- The 64 bytes of a row. -/
def row (m : Memory) (r : Row) : List Byte := (List.range 64).map fun o => read m (64 * r.val + o)

/-- Store a row image; an image of fewer than 64 bytes leaves the rest erased. -/
def writeRow (m : Memory) (r : Row) (image : List Byte) : Memory :=
  (List.range 64).foldl (fun m o => write m (64 * r.val + o) (image.getD o 0xFF#8)) m

end Memory

/-- The image an erase writes (R150). -/
def erasedRow : List Byte := List.replicate 64 0xFF#8

/-- A row image: content, fill to 60 bytes, and the row check (section 12.5). -/
def rowImage (content : List Byte) : List Byte :=
  let body := (content ++ List.replicate (60 - content.length) 0x00#8).take 60
  body ++ u32 (crc32 body)

/-- The condition in which the store finds a row (R150). -/
def rowCondition (bytes : List Byte) : RowCondition :=
  if bytes.all (· == 0xFF#8) then .blank
  else if bytes.drop 60 = u32 (crc32 (bytes.take 60)) then .valid
  else .corrupt

/-! ### Row numbers and their owners (R150) -/

def accountRow (i : Fin 256) : Row := ⟨24 + i.val, by omega⟩
def keyRow (k : Fin 64) : Row := ⟨280 + k.val, by omega⟩
def historyRow (p : Fin 16) : Row := ⟨344 + p.val, by omega⟩
def settingsRow (k : Fin 6) : Row := ⟨2 + k.val, by omega⟩
def egressRow (k : Fin 16) : Row := ⟨8 + k.val, by omega⟩

/-- The owner of a row. -/
inductive RowOwner where
  | manufacture
  | settings (k : Fin 6)
  | egress (k : Fin 16)
  | account (i : Fin 256)
  | key (k : Fin 64)
  | history (p : Fin 16)
  deriving DecidableEq, Repr

def rowOwner (r : Row) : RowOwner :=
  if r.val < 2 then .manufacture
  else if h1 : r.val < 8 then .settings ⟨r.val - 2, by omega⟩
  else if h2 : r.val < 24 then .egress ⟨r.val - 8, by omega⟩
  else if h3 : r.val < 280 then .account ⟨r.val - 24, by omega⟩
  else if h4 : r.val < 344 then .key ⟨r.val - 280, by omega⟩
  else .history ⟨r.val - 344, by omega⟩

/-- The first and the last row of a region (R156). -/
def Region.first : Region → Row
  | .keys => 280
  | .accounts => 24
  | .all => 2

def Region.last : Region → Row
  | .keys => 343
  | .accounts => 279
  | .all => 359

def Region.contains (g : Region) (r : Row) : Bool := g.first.val ≤ r.val && r.val ≤ g.last.val

end Sys2Proof.Machine
end

