-- ==== Sys2Proof/Machine/Flags.lean ====
section
/-! DEFINITION. Status flags and notices (R175 to R178): raising a condition sets its sticky flag and, where its kind is
enabled, forms a notice with a new sequence number. -/

namespace Sys2Proof.Machine

/-- The bit of a flag in the set of thirteen, in the order of R175. -/
def Flag.bit : Flag → Fin 13
  | .jobHeld => 0 | .jobDone => 1 | .pageVoid => 2 | .bandRefused => 3 | .cartridgeChange => 4
  | .cartridgeState => 5 | .rationLow => 6 | .sessionEnded => 7 | .keyErased => 8 | .storeFault => 9
  | .trackFault => 10 | .noticeOverflow => 11 | .linkFrameError => 12

/-- The bit of a flag's notice kind in the mask: the flags of R175 with NOTICE OVERFLOW left out (R177). -/
def Flag.enable : Flag → Option (Fin 12)
  | .jobHeld => some 0 | .jobDone => some 1 | .pageVoid => some 2 | .bandRefused => some 3
  | .cartridgeChange => some 4 | .cartridgeState => some 5 | .rationLow => some 6 | .sessionEnded => some 7
  | .keyErased => some 8 | .storeFault => some 9 | .trackFault => some 10 | .noticeOverflow => none
  | .linkFrameError => some 11

/-- The notice kind byte, 1 to 12 (section 12.2). -/
def Flag.noticeKind (f : Flag) : Nat := match f.enable with | some b => b.val + 1 | none => 0

/-- The set that holds one flag. -/
def Flag.mask (f : Flag) : BitVec 13 := 1#13 <<< f.bit.val

namespace Status

def has (t : Status) (f : Flag) : Bool := t.flags.getLsbD f.bit.val

/-- The flag is set; every other flag keeps its value. -/
def set (t : Status) (f : Flag) : Status := { t with flags := t.flags ||| f.mask }

/-- The notice kind of the flag is enabled. -/
def enabled (t : Status) (f : Flag) : Bool := match f.enable with | some b => t.mask.getLsbD b.val | none => false

/-- A notice is formed (R178): it takes the next sequence number, and is queued, or dropped with NOTICE OVERFLOW where
32 notices wait. -/
def formNotice (t : Status) (f : Flag) (time : Nat) (fields : List Val) : Status :=
  let n := t.sequence + 1
  let t' := { t with sequence := n }
  if t.notices.length < 32 then { t' with notices := t.notices ++ [⟨f, time, n, fields⟩] }
  else t'.set .noticeOverflow

end Status

/-- A condition of R175 occurs: its flag is set, and where its kind is enabled a notice is formed. -/
def State.raise (s : State) (f : Flag) (fields : List Val) : State :=
  let t := s.status.set f
  { s with status := if t.enabled f then t.formNotice f s.now fields else t }

/-- The flag alone is set, with no notice (R102, R176). -/
def State.setFlag (s : State) (f : Flag) : State := { s with status := s.status.set f }

/-- The link of a LINK FRAME ERROR notice: controller 0, engine 1, scanner 2. -/
inductive LinkName where | controller | engine | scanner
  deriving DecidableEq, Repr

def LinkName.code : LinkName → Nat
  | .controller => 0 | .engine => 1 | .scanner => 2

/-- A frame is discarded on a link: the link error count rises by one, saturating at 65,535, and LINK FRAME ERROR is
set (R2, R21, R121, R183). -/
def State.linkError (s : State) (l : LinkName) : State :=
  let n := satAdd max16 s.li.errors 1
  { s with li := { s.li with errors := n } }.raise .linkFrameError [.u8 l.code, .u16 n]

end Sys2Proof.Machine
end

