-- ==== Sys2Proof/Machine/Frames.lean ====
section
/-! DEFINITION. The layouts of chapter 12: marks, reports, replies, notices, scan frames and tag exchanges as bytes, and
the row images of the Meter Store with the records they hold. -/

namespace Sys2Proof.Machine

/-- A handle, plane or other one-byte number. -/
def u8 (n : Nat) : Byte := BitVec.ofNat 8 n

/-- A two-byte number. -/
def u16 (n : Nat) : List Byte := beBytes 2 n

/-! ### Engine link (section 12.3) -/

def markPageBegin (t : Tag) (mode : ColourMode) (size : SizeClass) : List Byte :=
  frameOf ([0x11#8, u8 t.job] ++ u16 t.page ++ [u8 mode.code, u8 size.code])

/-- The band mark of R13: plane, flags, band index, lines, width, tones. Section 12.3 lists the flags byte with no content;
its bit 0 is the last-band flag of the band, as in a band frame. DEDUCED (log entry 44). -/
def markBand (plane : Fin 4) (last : Bool) (index lines width : Nat) (tones : List Byte) : List Byte :=
  frameOf ([0x12#8, u8 plane, u8 last.toNat] ++ u16 index ++ [u8 lines] ++ u16 width ++ tones)

def markPageEnd (t : Tag) : List Byte := frameOf ([0x13#8, u8 t.job] ++ u16 t.page)

def markPageVoid (t : Tag) : List Byte := frameOf ([0x14#8, 0x00#8, u8 t.job] ++ u16 t.page)

/-- The path-clear instruction of R95: a PAGE VOID of whole-path scope. -/
def markPathClear : List Byte := frameOf [0x14#8, 0x01#8, 0xFF#8, 0xFF#8, 0xFF#8]

/-- A good report of the engine. -/
inductive EngineReport where
  | exit (job : Byte) (page : Half) (count : Byte)
  | jam (lost developed : Byte)
  | purge
  deriving DecidableEq, Repr

/-- The report a frame on the engine link carries, or none (R21, R183): its check fails, its kind names no report, or its
length is not the one its layout gives. -/
def decodeReport (frame : List Byte) : Option EngineReport :=
  match checkFrame frame with
  | some [k, j, p1, p0, c] => if k = 0x91#8 then some (.exit j (p1 ++ p0) c) else none
  | some [k, l, d] => if k = 0x92#8 then some (.jam l d) else none
  | some [k] => if k = 0x93#8 then some .purge else none
  | _ => none

/-! ### Scanner link (section 12.3) -/

/-- A good frame of the scanner. -/
inductive ScannerFrame where
  | pageBegin (page : Half)
  | band (b : ScannerBand)
  | pageEnd
  deriving DecidableEq, Repr

/-- A scanner band's fields lie in the ranges of the print band frame, and its payload has width × lines bytes
(R121). -/
def bandInRange (b : ScannerBand) : Bool :=
  b.plane.toNat < 4 && b.index.toNat ≤ 16383 && 1 ≤ b.lines.toNat && b.lines.toNat ≤ 64 &&
  1 ≤ b.width.toNat && b.width.toNat ≤ 8192 && b.payload.length == b.width.toNat * b.lines.toNat

/-- The frame bytes on the scanner link carry, or none (R121, R183). Bits 1 to 7 of a band's flags byte are ignored (log entry
36). -/
def decodeScanner (frame : List Byte) : Option ScannerFrame :=
  match checkFrame frame with
  | some (k :: body) =>
    match k.toNat, body with
    | 0x21, [p1, p0] => some (.pageBegin (p1 ++ p0))
    | 0x22, p1 :: p0 :: plane :: flags :: i1 :: i0 :: lines :: w1 :: w0 :: payload =>
      let b : ScannerBand :=
        { page := p1 ++ p0, plane := plane, last := flags.getLsbD 0, index := i1 ++ i0, lines := lines,
          width := w1 ++ w0, payload := payload }
      if bandInRange b then some (.band b) else none
    | 0x23, [] => some .pageEnd
    | _, _ => none
  | _ => none

/-! ### Controller link (section 12.2) -/

/-- The band frame in the body of a downstream frame, or none where a field is out of range or the length is not the
one implied by width × lines, with a band check if and only if the job is of kind RELEASE (R2). Bits 1 to 7 of the flags
byte are ignored (log entry 36). -/
def parseBand (isRelease : Fin 16 → Bool) (body : List Byte) : Option Band :=
  match body with
  | _ :: h :: p1 :: p0 :: plane :: flags :: i1 :: i0 :: lines :: w1 :: w0 :: rest =>
    if hh : h.toNat < 16 then
      if hp : plane.toNat < 4 then
        let job : Fin 16 := ⟨h.toNat, hh⟩
        let index := beNat [i1, i0]
        let width := beNat [w1, w0]
        let n := width * lines.toNat
        let release := isRelease job
        if index ≤ 16383 ∧ 1 ≤ lines.toNat ∧ lines.toNat ≤ 64 ∧ 1 ≤ width ∧ width ≤ 8192 ∧
            rest.length = n + (if release then 4 else 0) then
          some { job := job, page := beNat [p1, p0], plane := ⟨plane.toNat, hp⟩, last := flags.getLsbD 0,
                 index := index, lines := lines.toNat, width := width, payload := rest.take n,
                 check := if release then some (BitVec.ofNat 32 (beNat (rest.drop n))) else none }
        else none
      else none
    else none
  | _ => none

/-- A reply frame. -/
def encodeReply (r : Reply) : List Byte :=
  frameOf ([0x81#8, r.kind, r.tag, u8 r.code.code] ++ valBytes r.results)

/-- A notice frame. -/
def encodeNotice (n : Notice) : List Byte :=
  frameOf ([0x82#8, u8 n.flag.noticeKind] ++ u16 n.sequence.toNat ++ u32 n.time ++ valBytes n.fields)

/-- A scan band frame. -/
def encodeScanFrame (f : ScanFrame) : List Byte :=
  frameOf ([0x83#8, u8 f.tag.job, (match f.key with | some k => u8 k.slot | none => 0xFF#8), 0x00#8] ++
    (match f.key with | some k => u16 k.generation.toNat | none => u16 0) ++ u16 f.tag.page ++
    [u8 f.plane, u8 f.last.toNat] ++ u16 f.index ++ [u8 f.lines] ++ u16 f.width ++ f.payload ++
    (match f.check with | some c => u32 c.toNat | none => []))

/-- The check header of R130: the job handle enters it as 0, and the flags byte as the last-band flag alone (log entry
36). -/
def checkHeader (page plane index lines width : Nat) (last : Bool) : List Byte :=
  [0x00#8] ++ u16 page ++ [u8 plane] ++ u16 index ++ [u8 lines] ++ u16 width ++ [u8 last.toNat]

/-! ### Cartridge lines (section 12.4) -/

/-- A request on a cartridge line. -/
def encodeTagRequest : TagRequest → List Byte
  | .identify => tagFrameOf [0x01#8]
  | .challenge n => tagFrameOf (0x02#8 :: beBytes 8 n.toNat)
  | .readRation => tagFrameOf [0x03#8]
  | .writeRation v => tagFrameOf (0x04#8 :: u32 v)

/-- A good answer of a tag. -/
inductive TagAnswer where
  | identify (serial : Dword) (colorant : Byte) (model : Half) (ratedYield : Word)
  | challenge (response : Dword)
  | readRation (ration : Word) (writeCount : Half)
  | writeRation (ration : Word) (writeCount : Half)
  deriving DecidableEq, Repr

/-- The answer bytes on a cartridge line carry, or none where the check value is wrong or the form is no answer's
(R103). -/
def decodeTagAnswer (frame : List Byte) : Option TagAnswer :=
  match checkTagFrame frame with
  | some (k :: body) =>
    let num (off len : Nat) : Nat := fieldAt body off len
    match k.toNat, body.length with
    | 1, 15 => some (.identify (BitVec.ofNat 64 (num 0 8)) (body.getD 8 0) (BitVec.ofNat 16 (num 9 2))
        (BitVec.ofNat 32 (num 11 4)))
    | 2, 8 => some (.challenge (BitVec.ofNat 64 (num 0 8)))
    | 3, 6 => some (.readRation (BitVec.ofNat 32 (num 0 4)) (BitVec.ofNat 16 (num 4 2)))
    | 4, 6 => some (.writeRation (BitVec.ofNat 32 (num 0 4)) (BitVec.ofNat 16 (num 4 2)))
    | _, _ => none
  | _ => none

/-! ### Row images (section 12.5) -/

/-- The row image of an account record; an ABSENT record gives the blank account image. -/
def encodeAccount (a : Account) : List Byte :=
  if a.state = .absent then rowImage []
  else
    rowImage (u32 a.id ++ [u8 a.state.code, u8 a.privileges.toNat, 0, 0] ++ u32 a.quota ++ u32 a.charged ++
      a.counters.toList.flatMap u32 ++
      [u8 a.window1.base, u8 a.window1.limit, u8 a.window2.base, u8 a.window2.limit] ++ u32 a.lastCharge)

/-- The record a valid account row gives (R42): a state value that names no state, or an id of 0 outside ABSENT, gives an
ABSENT record; a charged above the quota is lowered to it. -/
def decodeAccount (row : List Byte) : Account :=
  let id := fieldAt row 0 4
  let quota := fieldAt row 8 4
  match AccountState.ofByte (row.getD 4 0) with
  | none => Account.blank
  | some state =>
    if id = 0 then Account.blank
    else
      { id := id, state := state, privileges := (row.getD 5 0).extractLsb' 0 3, quota := quota,
        charged := min quota (fieldAt row 12 4), reserved := 0,
        counters := Vector.ofFn fun i => fieldAt row (16 + 4 * i.val) 4,
        window1 := ⟨fieldAt row 44 1, fieldAt row 45 1⟩, window2 := ⟨fieldAt row 46 1, fieldAt row 47 1⟩,
        lastCharge := fieldAt row 48 4, dirty := false, sinceFlush := 0 }

/-- The row image of a ring row; an empty ring row is an erased row. -/
def encodeHistory : Option HistoryRow → List Byte
  | none => erasedRow
  | some h =>
    rowImage ([u8 h.event.code, u8 h.slot, 0, 0] ++ beBytes 8 h.serial.toNat ++ u32 h.mirror ++ u32 h.insertionTime ++
      u32 h.eventTime ++ u32 h.developed ++ u32 h.overdraw)

/-- The ring row a valid history row gives; an event or slot value that names none gives an empty row (R117). -/
def decodeHistory (row : List Byte) : Option HistoryRow :=
  let event : Option HistoryEvent :=
    match (row.getD 0 0).toNat with | 0 => some .removed | 1 => some .spent | _ => none
  match event, indexOf 4 (row.getD 1 0) with
  | some event, some slot =>
    some { event := event, slot := slot, serial := BitVec.ofNat 64 (fieldAt row 4 8), mirror := fieldAt row 12 4,
           insertionTime := fieldAt row 16 4, eventTime := fieldAt row 20 4, developed := fieldAt row 24 4,
           overdraw := fieldAt row 28 4 }
  | _, _ => none

/-- The row image of a key slot. DESIGN CHOICE (log entry 4): no layout of a key row reaches the outside. -/
def encodeKeySlot (k : KeySlot) : List Byte :=
  rowImage (u16 k.generation.toNat ++ u32 k.owner ++ beBytes 16 k.cipherKey.toNat ++ beBytes 16 k.checkKey.toNat ++
    u32 k.created ++ u32 (k.expiry.getD 0) ++ [u8 k.releases])

/-- The RETAINED slot a valid key row gives (R135). -/
def decodeKeySlot (row : List Byte) : KeySlot :=
  { state := .retained, generation := BitVec.ofNat 16 (fieldAt row 0 2), owner := fieldAt row 2 4,
    cipherKey := BitVec.ofNat 128 (fieldAt row 6 16), checkKey := BitVec.ofNat 128 (fieldAt row 22 16),
    created := fieldAt row 38 4, expiry := some (fieldAt row 42 4), releases := fieldAt row 46 1,
    persisted := true, naming := none, cause := none, rowRequest := .none }

/-- The tap and period SAVE SETTINGS stores for a channel: the staged ones where some are staged (R169). -/
def Channel.saved (c : Channel) : Tap × Nat := c.staged.getD (c.tap, c.period)

/-- The row image of a settings row, from the live settings (R158). Row 2 holds the saved time and every setting but the
tone tables, rows 3 to 6 one plane's tone table each, row 7 fill. -/
def encodeSettings (k : Fin 6) (s : State) : List Byte :=
  if k.val = 0 then
    rowImage (u32 s.now ++ [u8 s.ms.lock.toNat] ++ s.acct.prices.toList.flatMap u16 ++ [u8 s.acct.postscale] ++
      u16 s.dm.threshold ++ [u8 s.tu.policy.code] ++ u16 s.tu.lowMark ++ u32 s.tu.step ++
      beBytes 2 (s.tb.trim % 65536).toNat ++
      s.tb.channels.toList.flatMap fun c => u8 c.saved.1.code :: u16 c.saved.2)
  else if h : k.val - 1 < 4 then
    let t := s.dm.tables[k.val - 1]
    rowImage (t.weights.toList.flatMap u16 ++ u16 t.gain)
  else rowImage []

/-- The row image of an egress row: sixteen classes (section 12.5). -/
def encodeEgress (k : Fin 16) (s : State) : List Byte :=
  let e : List EgressEntry := (s.sp.egress.toList.drop (16 * k.val)).take 16
  let modes := (e.mapIdx fun i x => if x.mode = .cipher then 2 ^ i else 0).sum
  rowImage (u16 modes ++ e.flatMap (fun x => u16 x.retention) ++ e.map fun x => u8 x.releases)

/-- The entry of a class in a valid egress row, brought into range as LOAD EGRESS CLASS brings it (R122). -/
def decodeEgress (cls : Fin 256) (row : List Byte) : EgressEntry :=
  let i := cls.val % 16
  storedEgress cls.val (if (fieldAt row 0 2).testBit i then .cipher else .clear) (fieldAt row (2 + 2 * i) 2)
    (fieldAt row (34 + i) 1)

end Sys2Proof.Machine
end

