-- ==== Sys2Proof/Machine/Store.lean ====
section
/-! DEFINITION. The Meter Store's queue and its operation in flight (R153 to R156): taking a request, starting the head
entry with its snapshot, and admitting held requests. What the owners do with a completed or dropped operation stands in
StoreEvents.lean. -/

namespace Sys2Proof.Machine

/-- The commit queue takes a new row while fewer than 16 entries wait (R153). -/
def queueLimit : Nat := 16

/-- The row a row request names; a region erase names none. -/
def StoreRequest.row? : StoreRequest → Option Row
  | .commit r _ => some r
  | .erase r _ => some r
  | .region _ => none

/-- The entry that a row request merges into takes the kind and the generation of the request and keeps its place; it
is the long command's own when either was (R153, R157). -/
def StoreEntry.merge (waiting new : StoreEntry) : StoreEntry :=
  { request := new.request, own := waiting.own || new.own }

/-- A waiting entry names the row of the request. -/
def StoreEntry.sameRow (waiting new : StoreEntry) : Bool :=
  waiting.request.row?.isSome && waiting.request.row? == new.request.row?

/-- The row that a commit or an erase in flight is writing; a region erase takes later requests in the ordinary way
(R153, R156; log entry 35). -/
def MeterStore.writing (m : MeterStore) : Option Row := m.op.bind fun o => o.request.row?

/-- A request meets the queue (R153): merged into the waiting entry of its row, appended where its row is the one being
written (`writing`), which makes the entry one more than 16 where 16 wait (log entry 35), appended while fewer than 16
wait, or not queued (none). -/
def enqueue (writing : Option Row) (queue : List StoreEntry) (e : StoreEntry) : Option (List StoreEntry) :=
  if queue.any (·.sameRow e) then some (queue.map fun w => if w.sameRow e then w.merge e else w)
  else if (e.request.row?.isSome && e.request.row? == writing) || queue.length < queueLimit then some (queue ++ [e])
  else none

/-- Held requests are taken in order while the queue takes them; a held request that merges takes no place (R153). -/
def admitHeld (writing : Option Row) (queue : List StoreEntry) : List StoreEntry → List StoreEntry × List StoreEntry
  | [] => (queue, [])
  | e :: rest =>
    match enqueue writing queue e with
    | some q => admitHeld writing q rest
    | none => (queue, e :: rest)

/-- The image a row commit writes, and the state once its owner has been told that the snapshot is taken (R154). A commit
of a key row that is to be carried out as an erase gives none. -/
def snapshot (s : State) (r : Row) (generation : Half) : Option (List Byte) × State :=
  match rowOwner r with
  | .account i => (some (encodeAccount (s.account i)), s.modAccount i fun a => { a with dirty := false })
  | .history p =>
    (some (encodeHistory s.tu.ring[p]), { s with tu := { s.tu with ringDirty := s.tu.ringDirty.set p false } })
  | .settings k =>
    (some (encodeSettings k s), if k.val = 0 then { s with ms := { s.ms with lockUnsaved := false } } else s)
  | .egress k => (some (encodeEgress k s), s)
  | .key k =>
    if (s.key k).state = .retained ∧ (s.key k).generation = generation then (some (encodeKeySlot (s.key k)), s)
    else (none, s)
  | .manufacture => (some (s.ms.memory.row r), s)

/-- The operation an entry becomes, at attempt 1, with the latches filled (R154). -/
def startEntry (s : State) (e : StoreEntry) : State :=
  let begin (s : State) (q : StoreRequest) (row : Row) (image : List Byte) : State :=
    { s with ms := { s.ms with op := some ⟨q, e.own, row, 1, 0⟩, latches := image } }
  match e.request with
  | .commit r g =>
    match snapshot s r g with
    | (some image, s') => begin s' e.request r image
    | (none, s') => begin s' (.erase r g) r erasedRow
  | .erase r _ => begin s e.request r erasedRow
  | .region g => begin s e.request g.first erasedRow

/-- The head entry leaves the queue and starts, and the place it frees takes the first held requests (R153, R154). -/
def startHead (s : State) : State :=
  match s.ms.queue with
  | [] => s
  | e :: rest =>
    let s' := startEntry { s with ms := { s.ms with queue := rest } } e
    let (q, h) := admitHeld s'.ms.writing s'.ms.queue s'.ms.held
    { s' with ms := { s'.ms with queue := q, held := h } }

/-- An operation starts when none is in flight, the queue is not empty and the power warning is low (R154). -/
def startIfReady (s : State) : State :=
  if s.ms.op.isNone && !s.ms.queue.isEmpty && !s.ms.warning then startHead s else s

/-- The store takes a row request: the state after it, and whether it was queued. A request that finds the queue full
leaves the state as it is (R153). -/
def request (s : State) (q : StoreRequest) : State × Bool :=
  match enqueue s.ms.writing s.ms.queue ⟨q, false⟩ with
  | some queue => (startIfReady { s with ms := { s.ms with queue := queue } }, true)
  | none => (s, false)

/-- A row request of a long command: counted as its own, and held where the queue is full (R153, R157, R158). -/
def requestOwn (s : State) (q : StoreRequest) : State :=
  match enqueue s.ms.writing s.ms.queue ⟨q, true⟩ with
  | some queue => startIfReady { s with ms := { s.ms with queue := queue } }
  | none => { s with ms := { s.ms with held := s.ms.held ++ [⟨q, true⟩] } }

/-- A region erase absorbs the waiting entries of its range and is appended at the tail, or held (R156). -/
def requestRegion (s : State) (g : Region) : State :=
  let kept := s.ms.queue.filter fun e => !(e.request.row?.any fun r => g.contains r)
  requestOwn { s with ms := { s.ms with queue := kept } } (.region g)

end Sys2Proof.Machine
end

