-- ==== Sys2Proof/Machine/Timers.lean ====
section
/-! DEFINITION. Starting and stopping the timer channels (R170), which session events, page admissions, SET TIMER and the
resets use. -/

namespace Sys2Proof.Machine

/-- A channel with its staged settings applied (R168, R170). -/
def Channel.applyStaged (c : Channel) : Channel :=
  match c.staged with
  | some (tap, period) => { c with tap := tap, period := period, staged := none }
  | none => c

/-- A channel is started (R170). -/
def Channel.start (c : Channel) : Channel :=
  { c.applyStaged with count := 0, stopPending := false, running := true }

/-- A stop is requested: pending while the channel runs, without effect otherwise (R170). -/
def Channel.requestStop (c : Channel) : Channel := if c.running then { c with stopPending := true } else c

/-- The end of a stop: running and stop pending clear, count 0; staged settings stay staged (R170, R171). -/
def Channel.halt (c : Channel) : Channel := { c with running := false, stopPending := false, count := 0 }

/-- A tap and period are applied at once to a stopped channel and staged on one that runs or has a stop pending
(R169). -/
def Channel.settings (c : Channel) (tap : Tap) (period : Nat) : Channel :=
  if c.running || c.stopPending then { c with staged := some (tap, period) }
  else { c with tap := tap, period := period, staged := none }

def startChannel (s : State) (c : Fin 4) : State := s.setChannel c (s.channel c).start
def stopChannel (s : State) (c : Fin 4) : State := s.setChannel c (s.channel c).requestStop

/-- The session idle channel is restarted when the panel session is OPEN and names the account (R60). -/
def touchIdle (s : State) (i : Fin 256) : State :=
  if s.acct.session.any fun x => x.account == i then startChannel s 0 else s

end Sys2Proof.Machine
end

