-- ==== Sys2Proof/Machine/Accounts.lean ====
section
/-! DEFINITION. The Account Table (chapter 3): admission and reservation, settlement, charge and release, egress windows,
the flush and the session idle expiry. -/

namespace Sys2Proof.Machine

/-- The tariff class of a colour class and a size (section 4.1 of 00_scope.md). -/
def monoClass : SizeClass → TariffClass
  | .small => .monoS | .large => .monoL

def spotClass : SizeClass → TariffClass
  | .small => .spotS | .large => .spotL

def colorClass : SizeClass → TariffClass
  | .small => .colorS | .large => .colorL

/-- The provisional class of a page (R45). -/
def provisionalClass (mode : ColourMode) (size : SizeClass) : TariffClass :=
  match mode with | .mono => monoClass size | .color => colorClass size

/-- The place of a class in tariff order. -/
def TariffClass.index (c : TariffClass) : Fin 7 := ⟨c.code, by cases c <;> decide⟩

/-- The live price of a class. -/
def State.price (s : State) (c : TariffClass) : Nat := s.acct.prices[c.index]

/-- A window is enabled unless its base and limit are both 0, and matches base to limit (R58). -/
def Window.matches (w : Window) (c : Nat) : Bool :=
  !(w.base == 0 && w.limit == 0) && w.base ≤ c && c ≤ w.limit

/-- A class is allowed for an account (R58). -/
def Account.allows (a : Account) (c : Nat) : Bool := c == 0 || a.window1.matches c || a.window2.matches c

/-- A commit of an account's row is requested; a full queue leaves the record dirty (R48). -/
def commitAccount (s : State) (i : Fin 256) : State := (request s (.commit (accountRow i) 0)).1

/-- The outcome of an admission: the state with the price reserved, or the reason of the hold. -/
inductive Admission where
  | admitted (s : State) (price : Nat)
  | refused (reason : Reason)
  deriving DecidableEq, Repr

/-- Admission of a page of the account at a price: SUSPENDED, then over quota, else reserved, with the session idle
channel restarted for the session's account (R45, R50). `allowed` is the window test of a scan page. -/
def admissionOf (s : State) (i : Fin 256) (price : Nat) (allowed : Bool) : Admission :=
  let a := s.account i
  if a.state = .suspended then .refused .account
  else if !allowed then .refused .account
  else if a.quota < a.charged + a.reserved + price then .refused .quota
  else .admitted (touchIdle (s.setAccount i { a with reserved := a.reserved + price }) i) price

/-- A reservation is released: reserved falls by the amount, nothing else changes (R49). -/
def releaseReservation (s : State) (i : Fin 256) (amount : Nat) : State :=
  s.modAccount i fun a => { a with reserved := a.reserved - amount }

/-- A page is charged (R47, R51): the amount moves from reserved to charged, the class counter rises, the last-charge time
and the dirty flag are set, and the charges-since-flush count is advanced against F (R48). A commit that falls due is
requested here, at the charge (log entry 38), for the account's row alone: row 2 of an unsaved lock waits for ch2, as R159
has it. DEDUCED (log entry 55). -/
def charge (s : State) (i : Fin 256) (amount : Nat) (cls : TariffClass) : State :=
  let s1 := s.modAccount i fun a =>
    { a with reserved := a.reserved - amount, charged := a.charged + amount,
             counters := a.counters.set cls.index (satAdd max32 a.counters[cls.index] 1),
             lastCharge := s.now, dirty := true, sinceFlush := a.sinceFlush + 1 }
  if s.acct.postscale ≤ (s1.account i).sinceFlush then
    commitAccount (s1.modAccount i fun a => { a with sinceFlush := 0 }) i
  else s1

/-- The accounts whose dirty flag is set, in index order, ABSENT records included (R48, R157). -/
def dirtyAccounts (s : State) : List (Fin 256) := (List.finRange 256).filter fun i => (s.account i).dirty

/-- The meter flush at an expiry of ch2: every dirty record's commit is requested and its count returns to 0, then row 2
while lock unsaved is set (R48, R159). -/
def meterFlush (s : State) : State :=
  let s1 := (dirtyAccounts s).foldl
    (fun s i => commitAccount (s.modAccount i fun a => { a with sinceFlush := 0 }) i) s
  if s1.ms.lockUnsaved then (request s1 (.commit (settingsRow 0) 0)).1 else s1

/-- The expiry of ch0 (R62): an OPEN session is closed with SESSION ENDED. -/
def sessionExpiry (s : State) : State :=
  match s.acct.session with
  | some x => { s with acct := { s.acct with session := none } }.raise .sessionEnded [.u8 x.account, .u32 x.openTime]
  | none => s

/-- The account table after SANITIZE ACCOUNTS steps 1 and 2: every record blank, the session CLOSED, ch0 asked to stop
(R160). -/
def wipeAccounts (s : State) : State :=
  stopChannel
    { s with acct := { s.acct with records := Vector.replicate 256 Account.blank, session := none } } 0

end Sys2Proof.Machine
end

