-- ==== Sys2Proof/Machine/Answers.lean ====
section
/-! DEFINITION. What an owning block answers to a command (section 11.1, R173): a reply at once with its code and results, or the
progress of a long command. -/

namespace Sys2Proof.Machine

/-- The answer of the owning block. -/
inductive Answer where
  | reply (code : ReplyCode) (results : List Val)
  | long (progress : Progress)
  deriving DecidableEq, Repr

/-- OK with its results. -/
def State.ok (s : State) (results : List Val) : State × Answer := (s, .reply .ok results)

/-- Any other code: nothing changed, no results (section 11.1). -/
def State.refuse (s : State) (code : ReplyCode) : State × Answer := (s, .reply code [])

/-- The values of a page tag (section 12.2). -/
def Tag.vals (t : Tag) : List Val := [.u8 t.job, .u16 t.page]

/-- A tag that may be absent: presence, then handle and page (R182). -/
def optTag (t : Option Tag) : Val := .opt 3 (t.map fun x => x.job.val * 65536 + x.page)

/-- A key slot and generation that may be absent: presence, then slot and generation (R182). -/
def optKey (k : Option KeyRef) : Val := .opt 3 (k.map fun x => x.slot.val * 65536 + x.generation.toNat)

end Sys2Proof.Machine
end

