-- ==== Sys2Proof/Machine/AccountCommands.lean ====
section
/-! DEFINITION. The account, tariff and session commands (R44, R52 to R57, R59 to R61, R63). -/

namespace Sys2Proof.Machine

/-- LOAD TARIFF (R44). -/
def cmdLoadTariff (prices : Vector Half 7) (postscale : Byte) (s : State) : State × Answer :=
  { s with acct := { s.acct with prices := prices.map BitVec.toNat, postscale := clampPostscale postscale.toNat } }.ok []

/-- READ TARIFF (R44). -/
def cmdReadTariff (s : State) : State × Answer :=
  s.ok (s.acct.prices.toList.map Val.u16 ++ [.u8 s.acct.postscale])

/-- A record is replaced by a change that sets the dirty flag and requests its commit (R48, R52 to R56). -/
def storeAccount (s : State) (i : Fin 256) (a : Account) : State :=
  commitAccount (s.setAccount i { a with dirty := true }) i

/-- The quota as clamped up to charged + reserved (R52). -/
def Account.quotaFor (a : Account) (sent : Nat) : Nat := max sent (a.charged + a.reserved)

/-- ADJUST QUOTA (R52). -/
def cmdAdjustQuota (index : Byte) (quota : Word) (s : State) : State × Answer :=
  let i := byteIndex index
  let a := s.account i
  if a.state = .absent then s.refuse .noEntry
  else (storeAccount s i { a with quota := a.quotaFor quota.toNat }).ok [.u32 (a.quotaFor quota.toNat)]

/-- Another record that is not ABSENT carries the id (R53). -/
def idInUse (s : State) (i : Fin 256) (id : Nat) : Bool :=
  (List.finRange 256).any fun j => j != i && (s.account j).state != .absent && (s.account j).id == id

/-- The record LOAD ACCOUNT puts at an ABSENT index (R53). -/
def loadedAccount (a : LoadAccountArgs) (state : AccountState) : Account :=
  { id := a.id.toNat, state := state, privileges := a.privileges.extractLsb' 0 3, quota := a.quota.toNat,
    charged := min a.charged.toNat a.quota.toNat, reserved := 0, counters := Vector.replicate 7 0,
    window1 := ⟨a.base1.toNat, a.limit1.toNat⟩, window2 := ⟨a.base2.toNat, a.limit2.toNat⟩, lastCharge := 0,
    dirty := true, sinceFlush := 0 }

/-- LOAD ACCOUNT (R53, R54). -/
def cmdLoadAccount (a : LoadAccountArgs) (s : State) : State × Answer :=
  match AccountState.ofByte a.state with
  | none => s.refuse .malformed
  | some state =>
    if a.id = 0 then s.refuse .malformed
    else
      let i := byteIndex a.index
      let x := s.account i
      if x.state = .absent then
        if idInUse s i a.id.toNat then s.refuse .busy else (storeAccount s i (loadedAccount a state)).ok []
      else if x.id ≠ a.id.toNat then s.refuse .busy
      else
        let q := x.quotaFor a.quota.toNat
        (storeAccount s i
          { x with privileges := a.privileges.extractLsb' 0 3, quota := q,
                   window1 := ⟨a.base1.toNat, a.limit1.toNat⟩, window2 := ⟨a.base2.toNat, a.limit2.toNat⟩ }).ok [.u32 q]

/-- A job that is not FREE names the account (section 2.1). -/
def accountNamed (s : State) (i : Fin 256) : Bool :=
  State.handles.any fun h => (s.job h).state != .free && (s.job h).account == i

/-- UNLOAD ACCOUNT (R55). -/
def cmdUnloadAccount (index : Byte) (s : State) : State × Answer :=
  let i := byteIndex index
  let a := s.account i
  if a.state = .absent then s.refuse .noEntry
  else if 0 < a.reserved ∨ accountNamed s i then s.refuse .busy
  else if s.acct.session.any fun x => x.account == i then s.refuse .busy
  else (storeAccount s i Account.blank).ok []

/-- SET ACCOUNT STATE (R56). -/
def cmdSetAccountState (index state : Byte) (s : State) : State × Answer :=
  match AccountState.ofByte state with
  | none => s.refuse .malformed
  | some st =>
    let i := byteIndex index
    let a := s.account i
    if a.state = .absent then s.refuse .noEntry
    else if a.state = st then s.ok []
    else (storeAccount s i { a with state := st }).ok []

/-- The values of a record, in the order of its field table (R57, R182). -/
def Account.vals (a : Account) : List Val :=
  [.u32 a.id, .u8 a.state.code, .u8 a.privileges.toNat, .u32 a.quota, .u32 a.charged, .u32 a.reserved] ++
    a.counters.toList.map Val.u32 ++
    [.u8 a.window1.base, .u8 a.window1.limit, .u8 a.window2.base, .u8 a.window2.limit, .u32 a.lastCharge,
     .flag a.dirty, .u16 a.sinceFlush]

/-- READ ACCOUNT (R57). -/
def cmdReadAccount (index : Byte) (s : State) : State × Answer := s.ok (s.account (byteIndex index)).vals

/-- OPEN SESSION (R59). -/
def cmdOpenSession (index : Byte) (s : State) : State × Answer :=
  let i := byteIndex index
  if s.acct.session.isSome then s.refuse .busy
  else
    match (s.account i).state with
    | .absent => s.refuse .noEntry
    | .suspended => s.refuse .refused
    | .enabled => (startChannel { s with acct := { s.acct with session := some ⟨i, s.now⟩ } } 0).ok []

/-- TOUCH SESSION (R60). -/
def cmdTouchSession (s : State) : State × Answer :=
  if s.acct.session.isSome then (startChannel s 0).ok [] else s.refuse .noEntry

/-- CLOSE SESSION (R61). -/
def cmdCloseSession (s : State) : State × Answer :=
  if s.acct.session.isSome then (stopChannel { s with acct := { s.acct with session := none } } 0).ok [] else s.ok []

/-- READ SESSION (R63): whether it is OPEN, then account index and open time, which share one presence byte; 5 zero bytes
follow it while the session is CLOSED. DEDUCED (log entry 53). -/
def cmdReadSession (s : State) : State × Answer :=
  s.ok [.opt 5 (s.acct.session.map fun x => x.account.val * 4294967296 + x.openTime)]

end Sys2Proof.Machine
end

