-- ==== Sys2Proof/Machine/Cipher.lean ====
section
/-! DEFINITION. The band cipher and the band check (R129, R130), which the Scan Path uses on the way up and the Print Path on
the way down. -/

namespace Sys2Proof.Machine

/-- The counter of one 16-byte block of a band (R129). -/
def blockCounter (k : KeyRef) (page plane index block : Nat) : CipherCounter :=
  { slot := k.slot, generation := k.generation.toNat, page := page, plane := plane, band := index, block := block }

/-- The key stream byte at a place of a band's payload: place `n` is byte `n mod 16` of block `n div 16` (R129). -/
def streamByte (key : Key) (k : KeyRef) (page plane index n : Nat) : Byte :=
  Config.keyStream key (blockCounter k page plane index (n / 16)) ⟨n % 16, Nat.mod_lt _ (by decide)⟩

/-- The band cipher from place `n` of the payload on (R129). -/
def cipherFrom (key : Key) (k : KeyRef) (page plane index : Nat) : Nat → List Byte → List Byte
  | _, [] => []
  | n, b :: rest => (b ^^^ streamByte key k page plane index n) :: cipherFrom key k page plane index (n + 1) rest

/-- The band cipher: enciphering and deciphering are the same operation (R129). -/
def bandCipher (key : Key) (k : KeyRef) (page plane index : Nat) (payload : List Byte) : List Byte :=
  cipherFrom key k page plane index 0 payload

/-- The band check over the check header and the payload (R130). -/
def bandCheck (key : Key) (page plane index lines width : Nat) (last : Bool) (payload : List Byte) : Word :=
  Config.bandHash key (checkHeader page plane index lines width last ++ payload)

end Sys2Proof.Machine
end

