-- ==== Sys2Proof/Machine/Cartridges.lean ====
section
/-! DEFINITION. The Cartridge Unit (chapter 6): presence, tag exchanges, checks and rechecks, bookings against the ration,
write-back, history and the admission policy. -/

namespace Sys2Proof.Machine

/-- Every cartridge slot, in the order K, C, M, Y. -/
def slots : List (Fin 4) := List.finRange 4

/-- A slot whose cartridge takes bookings: GENUINE or SPENT. -/
def CartridgeState.verified : CartridgeState → Bool
  | .genuine => true
  | .spent => true
  | _ => false

/-- A commit of a history row is requested; a full queue leaves the row dirty (R116). -/
def commitHistory (s : State) (p : Fin 16) : State := (request s (.commit (historyRow p) 0)).1

/-- A history row is appended at the next-write position (R116). -/
def appendHistory (s : State) (c : Fin 4) (event : HistoryEvent) : State :=
  let x := s.slot c
  let p := s.tu.ringNext
  let h : HistoryRow :=
    { event := event, slot := c, serial := x.serial.getD 0, mirror := x.mirror, insertionTime := x.insertionTime,
      eventTime := s.now, developed := x.developed, overdraw := x.overdraw }
  commitHistory
    { s with tu := { s.tu with ring := s.tu.ring.set p (some h), ringDirty := s.tu.ringDirty.set p true,
                               ringNext := p + 1 } } p

/-- The reason a REJECTED state carries. -/
def CartridgeState.reason? : CartridgeState → Option RejectReason
  | .rejected r => some r
  | _ => none

/-- A slot changes into GENUINE, SPENT, REJECTED or MUTE: CARTRIDGE STATE is set (R113). -/
def raiseCartridgeState (s : State) (c : Fin 4) : State :=
  let x := s.slot c
  s.raise .cartridgeState
    [.u8 c, .u8 x.state.code, .opt 1 (x.state.reason?.map RejectReason.code), .opt 8 (x.serial.map BitVec.toNat)]

/-- A slot becomes SPENT: a history row, then CARTRIDGE STATE (R106, R108, R110, R111). -/
def becomeSpent (s : State) (c : Fin 4) : State :=
  raiseCartridgeState (appendHistory (s.modSlot c fun x => { x with state := .spent }) c .spent) c

/-- The RATION LOW test passes (R112). -/
def Cartridge.isLow (x : Cartridge) (lowMark : Nat) : Bool :=
  x.mirror * 1000 < lowMark * x.ratedYield && !x.lowReported

/-- The RATION LOW test (R112). -/
def rationLowTest (s : State) (c : Fin 4) : State :=
  let x := s.slot c
  if x.isLow s.tu.lowMark then
    (s.setSlot c { x with lowReported := true }).raise .rationLow [.u8 c, .u64 (x.serial.getD 0), .u32 x.mirror]
  else s

/-! ### Exchanges -/

/-- A request is sent on a slot's line: the exchange begins (R103). -/
def sendRequest (s : State) (c : Fin 4) (q : TagRequest) (seq : Sequence) : State :=
  (s.modSlot c fun x => { x with exchange := some ⟨q, seq, 0⟩ }).emitTag c (encodeTagRequest q)

/-- CHALLENGE with a fresh nonce (R104). -/
def sendChallenge (s : State) (c : Fin 4) (seq : Sequence) : State :=
  sendRequest { s with draws := s.draws + 1 } c (.challenge (Config.randomNonce s.draws)) seq

/-- WRITE RATION carrying the mirror as it stands (R105, R111). -/
def sendWrite (s : State) (c : Fin 4) : State := sendRequest s c (.writeRation (s.slot c).mirror) .writeBack

/-- The exchange on a line ends. -/
def endExchange (s : State) (c : Fin 4) : State := s.modSlot c fun x => { x with exchange := none }

/-- The write-back test (R111): it passes when the confirmed ration exceeds the mirror by the step or more. The write is
sent on a free line, waits behind another exchange, and is left to the answer of a write in flight. -/
def writeBackTest (s : State) (c : Fin 4) : State :=
  let x := s.slot c
  if x.state.verified && s.tu.step ≤ x.confirmed - x.mirror then
    match x.exchange with
    | none => sendWrite s c
    | some ⟨.writeRation _, _, _⟩ => s
    | some _ => s.setSlot c { x with writePending := true }
  else s

/-- The waiting work of a line that is free (R105): a pending write, else a pending recheck; on a slot that is not
GENUINE or SPENT it is cleared. -/
def serveLine (s : State) (c : Fin 4) : State :=
  let x := s.slot c
  if x.exchange.isSome then s
  else if !x.state.verified then s.setSlot c { x with writePending := false, recheckPending := false }
  else if x.writePending then sendWrite (s.setSlot c { x with writePending := false }) c
  else if x.recheckPending then sendChallenge (s.setSlot c { x with recheckPending := false }) c .recheck
  else s

/-- A slot's check or recheck ends with the cartridge refused. -/
def rejectSlot (s : State) (c : Fin 4) (r : RejectReason) : State :=
  serveLine (raiseCartridgeState (s.modSlot c fun x => { x with state := .rejected r }) c) c

/-- The fields step 3 of R100 clears; the unmetered deposit is kept. -/
def Cartridge.cleared (x : Cartridge) : Cartridge :=
  { x with serial := none, model := none, ratedYield := 0, rationKnown := false, mirror := 0, confirmed := 0,
           writeCount := 0, developed := 0, overdraw := 0, lowReported := false, writePending := false,
           recheckPending := false }

/-- The full check begins: IDENTIFY is sent and the slot is CHECKING (R106). -/
def beginCheck (s : State) (c : Fin 4) : State :=
  if (s.slot c).state = .sensed ∧ (s.slot c).exchange = none then
    sendRequest (s.modSlot c fun x => { x with state := .checking }) c .identify .check
  else s

/-- The answer to IDENTIFY: the continuity test (R107), the identity recorded, a wrong colorant refused, else CHALLENGE
(R106). -/
def takeIdentify (s : State) (c : Fin 4) (serial : Dword) (model : ModelCode) (rated : Nat) : State :=
  let x := s.slot c
  let kept := if x.rationKnown && x.serial == some serial then x else x.cleared
  let s1 := s.setSlot c
    { kept with serial := some serial, model := some model, ratedYield := rated, exchange := none }
  if model.colorant.toNat = c.val then sendChallenge s1 c .check else rejectSlot s1 c .wrongSlot

/-- A response is good when it equals the keyed hash of the nonce and the serial under the tag key; without a master
secret every response is bad (R104, R151). -/
def goodResponse (s : State) (c : Fin 4) (nonce response : Dword) : Bool :=
  match s.tu.masterSecret with
  | some m =>
    let serial := (s.slot c).serial.getD 0
    response == Config.tagHash (Config.tagKey m serial) nonce serial
  | none => false

/-- The answer to CHALLENGE (R106, R108). -/
def takeChallenge (s : State) (c : Fin 4) (nonce response : Dword) (seq : Sequence) : State :=
  let s1 := endExchange s c
  if goodResponse s c nonce response then sendRequest s1 c .readRation seq else rejectSlot s1 c .badResponse

/-- READ RATION at the end of a full check: mirror and confirmed ration set, with the continuity test of R107 where the
ration was known, and the slot GENUINE or SPENT (R106). -/
def finishCheck (s : State) (c : Fin 4) (ration : Nat) : State :=
  let x := s.slot c
  let r := min ration x.ratedYield
  let mirror := if x.rationKnown then min x.mirror r else r
  let s1 := s.setSlot c { x with mirror := mirror, confirmed := r, rationKnown := true, exchange := none }
  let s2 := if mirror = 0 then becomeSpent s1 c
    else raiseCartridgeState (rationLowTest (s1.modSlot c fun y => { y with state := .genuine }) c) c
  serveLine (if x.rationKnown then writeBackTest s2 c else s2) c

/-- READ RATION at the end of a recheck (R108). -/
def finishRecheck (s : State) (c : Fin 4) (ration : Nat) : State :=
  let x := s.slot c
  let r := min ration x.ratedYield
  let s1 := s.setSlot c { x with confirmed := r, mirror := min x.mirror r, rationKnown := true, exchange := none,
                                 writePending := x.writePending || x.mirror < r }
  let s2 := if r < x.mirror then
      rationLowTest (if r = 0 ∧ x.state = .genuine then becomeSpent s1 c else s1) c
    else s1
  serveLine s2 c

/-- The answer to WRITE RATION (R111): the confirmed ration, the mirror limited by it, SPENT at 0, the RATION LOW test where
the mirror fell, and the write-back test again. -/
def takeWrite (s : State) (c : Fin 4) (ration : Nat) : State :=
  let x := s.slot c
  let a := min ration x.ratedYield
  let s1 := s.setSlot c { x with confirmed := a, mirror := min x.mirror a, exchange := none }
  let s2 := if a < x.mirror then
      rationLowTest (if a = 0 ∧ x.state = .genuine then becomeSpent s1 c else s1) c
    else s1
  serveLine (writeBackTest s2 c) c

/-- An exchange ends without an answer: the slot becomes MUTE (R103, R106, R108, R111). -/
def exchangeLimit (s : State) (c : Fin 4) : State :=
  if (s.slot c).exchange.isSome then
    serveLine (raiseCartridgeState (s.modSlot c fun x => { x with state := .mute, exchange := none }) c) c
  else s

/-- One tick of the 1,024/s tap at a line: the 41st ends the exchange (R103). -/
def tickExchange (s : State) (c : Fin 4) : State :=
  match (s.slot c).exchange with
  | none => s
  | some e =>
    let s1 := s.modSlot c fun x => { x with exchange := some { e with elapsed := e.elapsed + 1 } }
    if 41 ≤ e.elapsed + 1 then exchangeLimit s1 c else s1

/-- A recheck is requested (R109): it begins on a line with no exchange and no write pending, and is marked pending
otherwise; one already in progress takes the request with it. -/
def requestRecheck (s : State) (c : Fin 4) : State :=
  let x := s.slot c
  if x.exchange.isNone && !x.writePending then sendChallenge s c .recheck
  else if x.exchange.any fun e => e.sequence == .recheck then s
  else s.setSlot c { x with recheckPending := true }

/-- The expiry of ch3 (R109): GENUINE slots are rechecked, in rising order, so that the lowest draws the next nonce, then
dirty history rows are requested again, in rising ring positions. DESIGN CHOICE: both orders (log entry 39). -/
def recheckExpiry (s : State) : State :=
  let s1 := slots.foldl (fun s c => if (s.slot c).state = .genuine then requestRecheck s c else s) s
  ((List.finRange 16).filter fun p => s1.tu.ringDirty[p]).foldl commitHistory s1

/-! ### Presence -/

/-- The change flag is evaluated and CARTRIDGE CHANGE set (R102); its notice gives the new level as one byte, 01h for high and
00h for low. DEDUCED (log entry 47). -/
def raiseChange (s : State) (c : Fin 4) : State :=
  let x := s.slot c
  (s.setSlot c { x with changed := x.level != x.latch }).raise .cartridgeChange [.u8 c, .flag x.level]

/-- A debounced rise: the level is high and R100 is applied. -/
def debouncedRise (s : State) (c : Fin 4) : State :=
  raiseChange
    (s.modSlot c fun x =>
      { x.cleared with level := true, debounce := 0, insertions := satAdd max16 x.insertions 1,
                       insertionTime := s.now, residue := 0, state := .sensed }) c

/-- A debounced fall: the level is low and R101 is applied. -/
def debouncedFall (s : State) (c : Fin 4) : State :=
  let s1 := s.modSlot c fun x => { x with level := false, debounce := 0 }
  let s2 := if (s.slot c).state.verified then appendHistory s1 c .removed else s1
  raiseChange
    (s2.modSlot c fun x => { x with exchange := none, writePending := false, recheckPending := false, state := .empty }) c

/-- One sample of a presence line (R99). -/
def samplePresence (s : State) (c : Fin 4) (line : Bool) : State :=
  let x := s.slot c
  if line = x.level then s.setSlot c { x with sample := line, debounce := 0 }
  else if x.debounce + 1 < 8 then s.setSlot c { x with sample := line, debounce := x.debounce + 1 }
  else
    let s1 := s.setSlot c { x with sample := line }
    if line then debouncedRise s1 c else debouncedFall s1 c

/-! ### Bookings and admission -/

/-- A deposit is booked against the ration of a slot's cartridge, or to its unmetered deposit (R110). A deposit of 0 booked
against the ration raises the developed impressions and changes nothing else, the write-back test included (log entry
29). -/
def bookDeposit (s : State) (c : Fin 4) (deposit : Nat) (serial : Option Dword) : State :=
  let x := s.slot c
  if serial.isSome && x.serial == serial && x.state.verified then
    let s1 := s.setSlot c
      { x with developed := satAdd max32 x.developed 1, mirror := x.mirror - deposit,
               overdraw := satAdd max32 x.overdraw (deposit - x.mirror) }
    let lowered := x.mirror - deposit < x.mirror
    if deposit = 0 then s1
    else
      let s2 := if x.mirror - deposit = 0 ∧ lowered ∧ x.state = .genuine then becomeSpent s1 c else s1
      let s3 := writeBackTest s2 c
      if lowered then rationLowTest s3 c else s3
  else s.setSlot c { x with unmetered := satAdd max32 x.unmetered deposit }

/-- The slots a page of a mode needs (R114). -/
def neededSlots : ColourMode → List (Fin 4)
  | .mono => [0]
  | .color => slots

/-- Why the slots a page needs are not usable, if they are not (R114). -/
def slotRefusal (s : State) (mode : ColourMode) : Option Reason :=
  if (neededSlots mode).any fun c => (s.slot c).state == .spent then some .spent
  else if s.tu.policy = .strict ∧ (neededSlots mode).any (fun c => (s.slot c).state != .genuine) then some .cartridge
  else none

/-- A path reset at one slot (R98): an exchange in progress is aborted, with its pending work, and a slot CHECKING, GENUINE
or SPENT becomes SENSED. -/
def pathResetSlot (s : State) (c : Fin 4) : State :=
  let x := s.slot c
  if x.exchange.isSome then
    s.setSlot c
      { x with exchange := none, writePending := false, recheckPending := false,
               state := if x.state.verified || x.state == .checking then .sensed else x.state }
  else s

end Sys2Proof.Machine
end

