-- ==== Sys2Proof/Machine/Deposit.lean ====
section
/-! DEFINITION. The Deposit Meter (chapter 4): the weight of a pixel, the page accumulators, coverage and classification,
the conversion to deposit units with residues, and the completion of a page's tracker entry. -/

namespace Sys2Proof.Machine

/-- The planes a page of a mode carries. -/
def modePlanes : ColourMode → List (Fin 4) := neededSlots

/-- The weight of a pixel of a tone under a plane's table (R68). -/
def ToneTable.weight (t : ToneTable) (tone : Byte) : Nat :=
  let i := tone.toNat / 16
  let f := tone.toNat % 16
  (t.weights.toList.getD i 0 * (16 - f) + t.weights.toList.getD (i + 1) 0 * f) / 16

/-- A band's tones are added to the accumulators of its plane (R69). -/
def Accum.add (a : Accum) (t : ToneTable) (tones : List Byte) : Accum :=
  { weighted := a.weighted + (tones.map t.weight).sum, raw := a.raw + (tones.map BitVec.toNat).sum }

/-- The accumulators of a page just admitted (R10, R69). -/
def clearAccum : Vector Accum 4 := Vector.replicate 4 ⟨0, 0⟩

/-- The band's tones enter the Deposit Meter (R13, R69). -/
def accumulate (s : State) (plane : Fin 4) (tones : List Byte) : State :=
  let acc := s.dm.accum.getD clearAccum
  { s with dm := { s.dm with accum := some (acc.set plane (acc[plane].add s.dm.tables[plane] tones)) } }

/-- The colour coverage of a page in per mille (R71): a page with any colour tone has at least 1. -/
def coverage (colourRaw pixels : Nat) : Nat :=
  let p := 1000 * colourRaw / (765 * pixels)
  if 0 < colourRaw ∧ p = 0 then 1 else p

/-- The final class of a COLOR page (R72). -/
def finalClass (coverage threshold : Nat) (size : SizeClass) : TariffClass :=
  if coverage = 0 then monoClass size else if coverage < threshold then spotClass size else colorClass size

/-- The divisor of the conversion (R73). -/
def depositScale : Nat := 2 ^ 28

/-- One plane of a completed page is converted and its slot's residue replaced (R73, R74). -/
def convertPlane (acc : Vector Accum 4) (s : State) (c : Fin 4) : State × PlaneResult :=
  let x := s.slot c
  let total := acc[c].weighted * s.dm.tables[c].gain + x.residue
  let serial := if x.state.verified then x.serial else none
  (s.setSlot c { x with residue := total % depositScale },
   { plane := c, weighted := acc[c].weighted, raw := acc[c].raw, deposit := total / depositScale, serial := serial,
     residue := total % depositScale })

/-- The planes of a completed page are converted in order (R70). -/
def convertPlanes (acc : Vector Accum 4) : State → List (Fin 4) → State × List PlaneResult
  | s, [] => (s, [])
  | s, c :: rest =>
    let (s1, r) := convertPlane acc s c
    let (s2, rs) := convertPlanes acc s1 rest
    (s2, r :: rs)

/-- The results of a page written into its tracker entry (R70, R74). -/
def Entry.completed (e : Entry) (final : TariffClass) (reserved : Nat) (results : List PlaneResult) : Entry :=
  { e with
    status := .complete, final := some final, reserved := reserved,
    deposits := results.foldl (fun v r => v.set r.plane (some r.deposit)) e.deposits,
    serials := results.foldl (fun v r => v.set r.plane r.serial) e.serials }

/-- The entry of the open page. -/
def openEntry? (s : State) (t : Tag) : Option Entry :=
  s.st.entries.find? fun e => e.tag == t && e.status == .forwarding

/-- The tracker with the FORWARDING entry of a tag changed. -/
def modOpenEntry (s : State) (t : Tag) (f : Entry → Entry) : State :=
  { s with st := { s.st with
      entries := s.st.entries.map fun e => if e.tag == t && e.status == .forwarding then f e else e } }

/-- The completion of a page at the Deposit Meter (R70): class, conversion, entry, settlement (R46), record. -/
def meterPage (s : State) (p : OpenPage) : State :=
  let acc := s.dm.accum.getD clearAccum
  let pixels := p.width * p.planes[0].lines
  let cov : Option Nat :=
    match p.mode with
    | .mono => none
    | .color => some (coverage (acc[1].raw + acc[2].raw + acc[3].raw) pixels)
  let final := match cov with
    | none => monoClass p.size
    | some q => finalClass q s.dm.threshold p.size
  let (s1, results) := convertPlanes acc s (modePlanes p.mode)
  let price := s.price final
  let s2 := match openEntry? s p.tag with
    | some e =>
      modOpenEntry (releaseReservation s1 e.account (e.reserved - min price e.reserved)) p.tag
        fun e => e.completed final (min price e.reserved) results
    | none => s1
  { s2 with dm := { s2.dm with
      accum := none, lastRecord := some { tag := p.tag, mode := p.mode, coverage := cov, final := final,
                                           planes := results } } }

end Sys2Proof.Machine
end

