-- ==== Sys2Proof/Machine/Keys.lean ====
section
/-! DEFINITION. The Key Table (chapter 8): key draws and releases, erasing, the sweep, sanitize, and the store's reports
on key rows. -/

namespace Sys2Proof.Machine

/-- Every slot number, in order. -/
def keySlots : List (Fin 64) := List.finRange 64

/-- A request for a slot's row is made (R146). A request that is queued clears the row request; one that finds the queue
full becomes the row request. A request for a FREE slot's row is an erase. -/
def requestKeyRow (s : State) (k : Fin 64) (kind : RowRequest) : State :=
  let x := s.key k
  let erase := kind == .erase || x.state == .free
  let q := if erase then StoreRequest.erase (keyRow k) x.generation else .commit (keyRow k) x.generation
  let (s', queued) := request s q
  s'.modKey k fun y => { y with rowRequest := if queued then .none else if erase then .erase else .commit }

/-- An ERASING slot becomes FREE and KEY ERASED is set, its notice carrying the slot as it was (R145). -/
def freeErased (s : State) (k : Fin 64) : State :=
  let x := s.key k
  (s.setKey k (KeySlot.freed x.generation)).raise .keyErased
    [.u8 k, .u16 x.generation.toNat, .u32 x.owner, .u8 ((x.cause.map EraseCause.code).getD 0)]

/-- A RETAINED slot enters ERASING with a cause (R145). -/
def enterErasing (s : State) (k : Fin 64) (cause : EraseCause) : State :=
  let s1 := s.modKey k fun x =>
    { x with state := .erasing, cipherKey := 0, checkKey := 0, releases := 0, cause := some cause }
  let s2 := requestKeyRow s1 k .erase
  if (s2.key k).persisted then s2 else freeErased s2 k

/-- A slot zeroised from ACTIVE becomes FREE, keeping its generation, with no flag and no request (R136, R139). -/
def zeroiseActive (s : State) (k : Fin 64) : State := s.modKey k fun x => KeySlot.freed x.generation

/-- The lowest-numbered FREE slot (R138). -/
def freeSlot? (s : State) : Option (Fin 64) := keySlots.find? fun k => (s.key k).state == .free

/-- New keys are drawn into a FREE slot for a scan job (R138). -/
def drawKeys (s : State) (k : Fin 64) (owner : Nat) (handle : Fin 16) : State :=
  let s1 := s.modKey k fun x =>
    { x with state := .active, generation := x.generation + 1, cipherKey := Config.randomKey s.draws,
             checkKey := Config.randomKey (s.draws + 1), owner := owner, created := s.now, expiry := none,
             releases := 0, naming := some handle }
  { s1 with draws := s.draws + 2 }

/-- A release is used at the open of a RELEASE job (R140). -/
def useRelease (s : State) (k : Fin 64) (handle : Fin 16) : State :=
  let s1 := s.modKey k fun x => { x with releases := x.releases - 1, naming := some handle }
  requestKeyRow s1 k .commit

/-- A slot is expired: RETAINED with an expiry time not later than the part time (R142). -/
def expired (now : Nat) (x : KeySlot) : Bool := x.state == .retained && x.expiry.any fun e => e ≤ now

/-- The disposal of a closed scan job's slot: RETAINED with the retention and release count of the class entry as it
stands (R139). -/
def retainScan (s : State) (k : Fin 64) (e : EgressEntry) : State :=
  let s1 := s.modKey k fun x =>
    { x with state := .retained, naming := none, expiry := some (min max32 (s.now + 60 * e.retention)),
             releases := e.releases }
  requestKeyRow s1 k .commit

/-- The disposal of a RELEASE job's slot (R141): erased when no release remains or its expiry time has passed, else left
RETAINED and unnamed. -/
def disposeRelease (s : State) (k : Fin 64) : State :=
  let s1 := s.modKey k fun x => { x with naming := none }
  let x := s1.key k
  if x.releases = 0 then enterErasing s1 k .released
  else if x.expiry.any fun e => e ≤ s.now then enterErasing s1 k .expired
  else s1

/-- The key sweep at one slot (R143). -/
def sweepSlot (s : State) (k : Fin 64) : State :=
  let x := s.key k
  let s1 := if expired s.now x && x.naming.isNone then enterErasing s k .expired else s
  match (s1.key k).rowRequest with
  | .none => s1
  | r => requestKeyRow s1 k r

/-- The key sweep: every slot in slot order (R143). -/
def keySweep (s : State) : State := keySlots.foldl sweepSlot s

/-- SANITIZE at one slot (R147). -/
def sanitizeSlot (s : State) (k : Fin 64) : State :=
  let x := s.key k
  match x.state with
  | .free => s
  | .active => s.setKey k { x with cipherKey := 0, checkKey := 0 }
  | .retained =>
    if x.naming.isSome then s.setKey k { x with cipherKey := 0, checkKey := 0, releases := 0 }
    else enterErasing s k .sanitized
  | .erasing => s

/-- SANITIZE at the Key Table, in slot order (R147). -/
def sanitizeKeys (s : State) : State := keySlots.foldl sanitizeSlot s

/-- The report that the erase of the whole key region is complete, at one slot (R147). -/
def regionErasedSlot (s : State) (k : Fin 64) : State :=
  let s1 := s.modKey k fun x => { x with persisted := false }
  if (s1.key k).state = .erasing then freeErased s1 k else s1

/-- The report that the erase of the whole key region is complete (R147, R156). The slots are taken in rising numbers, an
order no rule gives for this report. DESIGN CHOICE (log entry 52). -/
def keyRegionErased (s : State) : State := keySlots.foldl regionErasedSlot s

/-- The store's report on a slot's row: a commit or an erase completed or was dropped (R146). A slot that is FREE or at
another generation ignores it. An erase reported to a slot RETAINED at its generation clears persisted where it completed
and leaves the slot as it is where it was dropped: the cells speak of an ERASING slot. DESIGN CHOICE (log entry 54). -/
def keyReport (s : State) (k : Fin 64) (generation : Half) (erase completed : Bool) : State :=
  let x := s.key k
  if (x.state = .retained ∨ x.state = .erasing) ∧ x.generation = generation then
    match erase, completed with
    | false, true => s.setKey k { x with persisted := true }
    | false, false => s.setKey k { x with persisted := false }
    | true, true =>
      let s1 := s.setKey k { x with persisted := false }
      if x.state = .erasing then freeErased s1 k else s1
    | true, false => if x.state = .erasing then s.setKey k { x with rowRequest := .erase } else s
  else s

end Sys2Proof.Machine
end

