-- ==== Sys2Proof/Machine/Jobs.lean ====
section
/-! DEFINITION. Voiding a page, drain completion and holds (R17, R28, R34 to R36, R128): what every rule that ends a page
or stops a job uses. -/

namespace Sys2Proof.Machine

/-! ### Voids -/

/-- A PAGE VOID mark is sent, or becomes the pending void mark while the ready line is low (R17, R20). -/
def sendVoid (s : State) (t : Tag) : State :=
  if s.pp.engineReady then s.emitEngine (markPageVoid t)
  else { s with pp := { s.pp with pendingVoid := some t } }

/-- A band waiting in the band position is made due for examination (R17, step 6). -/
def markDue (s : State) : State :=
  { s with li := { s.li with bandPosition := s.li.bandPosition.map fun w => { w with reason := .due } } }

/-- The open page, if there is one, is voided (R17). -/
def voidOpenPage (s : State) : State :=
  match s.pp.openPage with
  | none => s
  | some p =>
    let s1 := modOpenEntry (sendVoid s p.tag) p.tag fun e => { e with status := .void }
    let s2 := { s1 with dm := { s1.dm with accum := none } }
    let s3 := (s2.countVoided p.tag.job).raise .pageVoid [.u8 p.tag.job, .u16 p.tag.page, .u8 0]
    markDue { s3 with pp := { s3.pp with openPage := none } }

/-! ### Drain completion -/

/-- The drain of a job is complete (R34): DRAINING, no tracker entry, no scan page in progress, no buffered band. -/
def drained (s : State) (h : Fin 16) : Bool :=
  (s.job h).state == .draining && s.entryCount h == 0 && !s.hasScanPage h && !s.hasBuffered h

/-- The slot a job names: its context records the slot, and the slot records the handle (section 2.1). -/
def namedSlot? (s : State) (h : Fin 16) : Option (Fin 64) :=
  match (s.job h).key with
  | some k => if (s.key k.slot).naming = some h then some k.slot else none
  | none => none

/-- The key slot of a job whose drain is complete is disposed of (R35 step 1, R139, R141). -/
def disposeKey (s : State) (h : Fin 16) : State :=
  match namedSlot? s h with
  | none => s
  | some k =>
    match (s.job h).kind with
    | .release => disposeRelease s k
    | _ =>
      if (s.job h).cancel then zeroiseActive s k
      else retainScan s k (match (s.job h).dest with | some c => s.sp.egress[c] | none => EgressEntry.default)

/-- The ending a JOB DONE notice carries: CLOSED 0, CANCELLED 1, SANITIZED 2 (R36). -/
def endingCode (j : Job) : Nat :=
  if j.cancel then (if j.reason = some .sanitize then 2 else 1) else 0

/-- The fields of the JOB DONE notice (R36). -/
def jobDoneFields (h : Fin 16) (j : Job) : List Val :=
  [.u8 h, .u8 j.kind.code, .u8 j.account, .u8 (endingCode j), .u32 j.counters.started, .u32 j.counters.exited,
   .u32 j.counters.jammed, .u32 j.counters.voided, .u32 j.counters.refused]

/-- A DRAINING job completes its drain (R35). -/
def completeDrain (s : State) (h : Fin 16) : State :=
  let s1 := (disposeKey s h).raise .jobDone (jobDoneFields h (s.job h))
  s1.modJob h fun j => { j with state := .free }

/-- Drain completion is tested (R34). -/
def drainTest (s : State) (h : Fin 16) : State := if drained s h then completeDrain s h else s

/-! ### Scan page voids, holds -/

/-- The scan page in progress, if there is one, is voided (R128); what discards its frames is the cause's. -/
def voidScanPage (s : State) : State :=
  match s.sp.page with
  | none => s
  | some p =>
    let s1 := releaseReservation s (s.job p.tag.job).account p.reservation
    let s2 := (s1.countVoided p.tag.job).raise .pageVoid [.u8 p.tag.job, .u16 p.tag.page, .u8 1]
    drainTest { s2 with sp := { s2.sp with page := none, announced := none } } p.tag.job

/-- The open page and the scan page in progress of a job are voided (R28 step 1, R32). -/
def voidPagesOf (s : State) (h : Fin 16) : State :=
  let s1 := if s.hasOpenPage h then voidOpenPage s else s
  if s1.hasScanPage h then voidScanPage s1 else s1

/-- The announced page becomes absent when the SCAN job leaves ACTIVE (R124). -/
def dropAnnounced (s : State) (h : Fin 16) : State :=
  if (s.job h).kind = .scan ∧ (s.job h).state = .active then { s with sp := { s.sp with announced := none } } else s

/-- A job is put on hold with a reason (R28); a DRAINING or FREE job is not. -/
def holdJob (s : State) (h : Fin 16) (r : Reason) : State :=
  match (s.job h).state with
  | .active | .held =>
    let s1 := dropAnnounced (voidPagesOf s h) h
    (s1.modJob h fun j => { j with state := .held, reason := some r }).raise .jobHeld [.u8 h, .u8 r.code]
  | _ => s

/-- Frames of a job leave the scan output buffer without being sent; one already on the link stays until it is sent
(R33, R131, R147). -/
def discardFrames (s : State) (h : Fin 16) : State :=
  let keepOthers (l : List ScanFrame) : List ScanFrame := l.filter fun f => f.tag.job != h
  let buffer := match s.li.sending, s.sp.buffer with
    | some (.scan _ true), f :: rest => f :: keepOthers rest
    | _, l => keepOthers l
  { s with sp := { s.sp with buffer := buffer } }

/-- CLOSE JOB of an ACTIVE or HELD job up to the drain test (R32); with `cancel`, the further effects of CANCEL JOB
(R33). -/
def beginDrain (s : State) (h : Fin 16) (cancel : Bool) : State :=
  let s1 := dropAnnounced (voidPagesOf s h) h
  let s2 := if cancel then discardFrames s1 h else s1
  s2.modJob h fun j => { j with state := .draining, reason := none, cancel := cancel }

/-- The cancel flag of a DRAINING job is set and its frames discarded (R33, R37). -/
def cancelDraining (s : State) (h : Fin 16) : State :=
  discardFrames (s.modJob h fun j => { j with cancel := true }) h

/-- A SCAN or RELEASE job that is not FREE is cancelled by SANITIZE, up to the drain test (R37). -/
def sanitizeJob (s : State) (h : Fin 16) : State :=
  let j := s.job h
  if j.kind = .print then s
  else
    match j.state with
    | .free => s
    | .draining => (cancelDraining s h).modJob h fun j => { j with reason := some .sanitize }
    | _ => (beginDrain s h true).modJob h fun j => { j with reason := some .sanitize }

/-- SANITIZE at the Job Table: every SCAN and RELEASE job that is not FREE is cancelled, and then each of them is tested
for drain completion (R37). The order among the jobs, rising handles, is the model's (log entry 37). -/
def sanitizeJobs (s : State) : State :=
  let hit := State.handles.filter fun h => (s.job h).kind != .print && (s.job h).state != .free
  hit.foldl drainTest (hit.foldl sanitizeJob s)

end Sys2Proof.Machine
end

