-- ==== Sys2Proof/Machine/Pages.lean ====
section
/-! DEFINITION. The page stream (chapter 1): examining a band, opening a page, the bands of the open page, completion, and the
waiting band's next examination. -/

namespace Sys2Proof.Machine

/-- The Sheet Tracker holds at most 24 entries (R79). -/
def trackerLimit : Nat := 24

/-- A band waits in the band position (R3). -/
def waitBand (s : State) (b : Band) (r : WaitReason) : State :=
  { s with li := { s.li with bandPosition := some ⟨b, r⟩ } }

/-- BAND REFUSED is raised once per page number of a handle (R4). -/
def raiseRefused (s : State) (h : Fin 16) (page : Nat) : State :=
  if s.marker h = some page then s
  else (s.setMarker h (some page)).raise .bandRefused [.u8 h, .u16 page]

/-- A band is discarded under R4 or as an opening band with an index other than 0 (R8). -/
def refuseBand (s : State) (h : Fin 16) (page : Nat) : State := raiseRefused (s.countRefused h) h page

/-- A plane record once a band has been accepted. -/
def PlaneRec.accept (r : PlaneRec) (lines : Nat) (last : Bool) : PlaneRec :=
  { next := r.next + 1, lines := r.lines + lines, finished := last }

/-- The checks of R11 on the plane record and the width. -/
def PlaneRec.admits (r : PlaneRec) (pageWidth index lines width : Nat) : Bool :=
  !r.finished && index == r.next && width == pageWidth && r.lines + lines ≤ 16384

/-- The band check of a RELEASE band, verified before the band is used; a PRINT band has none (R12). -/
def checkAccepts (s : State) (p : OpenPage) (b : Band) : Bool :=
  match p.kind, p.key with
  | .release, some k =>
    b.check == some (bandCheck (s.key k.slot).checkKey b.page b.plane b.index b.lines b.width b.last b.payload)
  | _, _ => true

/-- The tones of a band: deciphered for a RELEASE page, as received for a PRINT page (R12). -/
def bandTones (s : State) (p : OpenPage) (b : Band) : List Byte :=
  match p.kind, p.key with
  | .release, some k => bandCipher (s.key k.slot).cipherKey k b.page b.plane b.index b.payload
  | _, _ => b.payload

/-- A page completes (R16). -/
def completePage (s : State) (p : OpenPage) : State :=
  let s1 := meterPage (s.emitEngine (markPageEnd p.tag)) p
  { s1 with pp := { s1.pp with openPage := none } }

/-- The completion rules of section 1.6, applied when a plane has finished (R14, R15). -/
def judgePage (s : State) (p : OpenPage) : State :=
  match p.mode with
  | .mono => if p.planes[0].finished then completePage s p else s
  | .color =>
    if p.planes.all fun r => r.finished then
      (if p.planes.all fun r => r.lines == p.planes[0].lines then completePage s p else voidOpenPage s)
    else s

/-- A band that has passed its checks is forwarded (R13). -/
def forwardBand (s : State) (p : OpenPage) (b : Band) : State :=
  let p' := { p with planes := p.planes.set b.plane (p.planes[b.plane].accept b.lines b.last) }
  let tones := bandTones s p b
  let s1 := accumulate { s with pp := { s.pp with openPage := some p' } } b.plane tones
  let s2 := s1.emitEngine (markBand b.plane b.last b.index b.lines b.width tones)
  let s3 := s2.modJob b.job fun j => { j with stallCount := some 0 }
  if b.last then judgePage s3 p' else s3

/-- A band of the open page (R11). -/
def bandOfPage (s : State) (p : OpenPage) (b : Band) : State :=
  if !s.pp.engineReady then waitBand s b .engine
  else if p.planes[b.plane].admits p.width b.index b.lines b.width && checkAccepts s p b then forwardBand s p b
  else voidOpenPage s

/-- A page is opened (R10), its price reserved. -/
def openPageFor (s : State) (b : Band) (price : Nat) : State :=
  let j := s.job b.job
  let size := j.size.getD .small
  let tag : Tag := ⟨b.job, b.page⟩
  let e : Entry :=
    { tag := tag, account := j.account, provisional := provisionalClass j.mode size, reserved := price,
      status := .forwarding, final := none, deposits := Vector.replicate 4 none, serials := Vector.replicate 4 none }
  let p : OpenPage :=
    { tag := tag, kind := j.kind, mode := j.mode, size := size, key := j.key, width := b.width,
      planes := Vector.replicate 4 PlaneRec.initial }
  let s1 := { s with st := { s.st with entries := s.st.entries ++ [e] },
                     pp := { s.pp with openPage := some p }, dm := { s.dm with accum := some clearAccum } }
  let s2 := (s1.modJob b.job fun j => { j with lastPage := some b.page, stallCount := some 0 }).countStarted b.job
  bandOfPage (s2.emitEngine (markPageBegin tag j.mode size)) p b

/-- The admission of a page refuses it: the job is held and the opening band counted (R9). -/
def refuseAdmission (s : State) (h : Fin 16) (r : Reason) : State := (holdJob s h r).countRefused h

/-- The admission of a page: the Cartridge Unit, then the Account Table (R9). -/
def admitPage (s : State) (b : Band) : State :=
  let j := s.job b.job
  match slotRefusal s j.mode with
  | some r => refuseAdmission s b.job r
  | none =>
    match admissionOf s j.account (s.price (provisionalClass j.mode (j.size.getD .small))) true with
    | .refused r => refuseAdmission s b.job r
    | .admitted s1 price => openPageFor s1 b price

/-- A band that would open a page: index 0, the engine ready, room in the tracker, then admission (R8, R9). Where the engine
is not ready and the tracker is full too, it waits with reason ENGINE. DESIGN CHOICE (log entry 51). -/
def openingBand (s : State) (b : Band) : State :=
  if b.index ≠ 0 then refuseBand s b.job b.page
  else if !s.pp.engineReady then waitBand s b .engine
  else if trackerLimit ≤ s.st.entries.length then waitBand s b .tracker
  else admitPage s b

/-- A page number is not above the job's last started page (R6). -/
def staleFor (j : Job) (page : Nat) : Bool := j.lastPage.any fun n => page ≤ n

/-- A band is examined (R4 to R11). It has been taken out of the band position, and is put back where it must wait. -/
def examine (s : State) (b : Band) : State :=
  let j := s.job b.job
  if j.state ≠ .active ∨ j.kind = .scan then refuseBand s b.job b.page
  else if j.mode = .mono ∧ b.plane ≠ 0 then s.countRefused b.job
  else
    match s.pp.openPage with
    | some p =>
      if p.tag.job = b.job then
        if b.page < p.tag.page then s.countRefused b.job
        else if b.page = p.tag.page then bandOfPage s p b
        else openingBand (voidOpenPage s) b
      else if staleFor j b.page then s.countRefused b.job
      else waitBand s b .interleave
    | none => if staleFor j b.page then s.countRefused b.job else openingBand s b

/-- The cause for which a band waits has ended (R3). -/
def waitEnded (s : State) : WaitReason → Bool
  | .interleave => s.pp.openPage.isNone
  | .engine => s.pp.engineReady
  | .tracker => s.st.entries.length < trackerLimit
  | .due => true

/-- The band that waits is examined again if its cause of waiting has ended (R3, R17). -/
def settleBand (s : State) : State :=
  match s.li.bandPosition with
  | some w =>
    if waitEnded s w.reason then examine { s with li := { s.li with bandPosition := none } } w.band else s
  | none => s

/-- The conditions under which the stall count of the open page's job runs (R19). -/
def stallRuns (s : State) : Bool :=
  s.pp.engineReady && s.li.commandQueue.length < 4 &&
    (match s.li.bandPosition with | none => true | some w => w.reason == .interleave)

/-- The stall limit of the open page is reached: the page is voided (R19). -/
def stallExpiry (s : State) : State :=
  match s.pp.openPage with
  | some p =>
    if stallRuns s then
      settleBand (voidOpenPage (s.modJob p.tag.job fun j => { j with stallCount := j.stallLimit }))
    else s
  | none => s

/-- One tick of the 32/s tap at the open page's stall count (R19). -/
def tickStall (s : State) : State :=
  match s.pp.openPage with
  | some p =>
    if stallRuns s then
      let j := s.job p.tag.job
      let n := j.stallCount.getD 0 + 1
      if j.stallLimit = some n then stallExpiry s else s.modJob p.tag.job fun j => { j with stallCount := some n }
    else s
  | none => s

/-- The pending void mark is sent once the ready line is high (R20). -/
def sendPendingVoid (s : State) : State :=
  match s.pp.pendingVoid with
  | some t =>
    if s.pp.engineReady then { s with pp := { s.pp with pendingVoid := none } }.emitEngine (markPageVoid t) else s
  | none => s

/-- The path-clear instruction is sent once the ready line is high, after a pending void mark (R95). -/
def sendPathClear (s : State) : State :=
  let s1 := sendPendingVoid s
  if s1.st.pathClear && s1.pp.engineReady then
    { s1 with st := { s1.st with pathClear := false } }.emitEngine markPathClear
  else s1

/-- The engine ready line takes a level (R20): a rise sends the pending void mark, then the path-clear instruction, and
releases a band waiting for the line. -/
def setReadyLine (s : State) (level : Bool) : State :=
  let s1 := { s with pp := { s.pp with engineReady := level } }
  if level && !s.pp.engineReady then settleBand (sendPathClear s1) else s1

end Sys2Proof.Machine
end

