-- ==== Sys2Proof/Machine/Scans.lean ====
section
/-! DEFINITION. The Scan Path (chapter 7): the scanner link, scan pages, the scan output buffer, and the upstream
multiplexer with its egress test. -/

namespace Sys2Proof.Machine

/-- The scan output buffer holds at most 8 frames (R131). -/
def bufferLimit : Nat := 8

/-- The scanner link is given readiness (R121, R179). -/
def scannerReady (s : State) : Bool :=
  s.activeScan.isSome && s.sp.buffer.length < bufferLimit && !(s.sp.page.any fun p => p.ended) && !s.li.pathLine

/-- An ENDED page whose frames have all left completes (R127): charged, counted as exited, the record IDLE, and the drain
of a DRAINING job tested. -/
def completeScanPage (s : State) : State :=
  match s.sp.page with
  | some p =>
    if p.ended && p.inBuffer == 0 then
      let h := p.tag.job
      let s1 := (charge s (s.job h).account p.reservation .scan).countExited h
      drainTest { s1 with sp := { s1.sp with page := none } } h
    else s
  | none => s

/-- The scanner's PAGE BEGIN (R124). -/
def scannerPageBegin (s : State) (page : Nat) : State :=
  let s1 := if s.sp.page.isSome then voidScanPage s else s
  { s1 with sp := { s1.sp with announced := some page } }

/-- The planes of a scan (section 7.1). -/
def scanPlanes : ColourMode → List (Fin 3)
  | .mono => [0]
  | .color => [0, 1, 2]

/-- The plane record a scanner band belongs to, or none for a plane outside the job's mode (R125 order 1). -/
def scanPlane? (mode : ColourMode) (plane : Byte) : Option (Fin 3) :=
  (scanPlanes mode).find? fun i => i.val == plane.toNat

/-- The frame formed from a band of a job: enciphered with its check for a cipher job, as received for a clear job
(R126, R129, R130). -/
def formFrame (s : State) (h : Fin 16) (b : ScannerBand) : ScanFrame :=
  let key := (s.job h).key
  let page := b.page.toNat
  let index := b.index.toNat
  let payload := match key with
    | some k => bandCipher (s.key k.slot).cipherKey k page b.plane.toNat index b.payload
    | none => b.payload
  let check := key.map fun k =>
    bandCheck (s.key k.slot).checkKey page b.plane.toNat index b.lines.toNat b.width.toNat b.last payload
  { tag := ⟨h, page⟩, key := key, plane := b.plane.toNat, index := index, lines := b.lines.toNat,
    width := b.width.toNat, last := b.last, payload := payload, check := check }

/-- A band of the OPEN scan page that lies in the job's mode (R126). -/
def takeScanBand (s : State) (h : Fin 16) (p : ScanPage) (i : Fin 3) (b : ScannerBand) : State :=
  if b.page.toNat == p.tag.page && p.planes[i].admits p.width b.index.toNat b.lines.toNat b.width.toNat then
    let p' := { p with planes := p.planes.set i (p.planes[i].accept b.lines.toNat b.last), inBuffer := p.inBuffer + 1 }
    { s with sp := { s.sp with page := some p', buffer := s.sp.buffer ++ [formFrame s h b] } }
  else voidScanPage s

/-- A scan page is admitted (R125 order 6) and its opening band taken (R126). -/
def openScanPage (s : State) (h : Fin 16) (i : Fin 3) (b : ScannerBand) (price : Nat) : State :=
  let p : ScanPage :=
    { ended := false, tag := ⟨h, b.page.toNat⟩, width := b.width.toNat,
      planes := Vector.replicate 3 PlaneRec.initial, reservation := price, inBuffer := 0 }
  let s1 := { s with sp := { s.sp with page := some p, announced := none } }
  let s2 := (s1.modJob h fun j => { j with lastPage := some b.page.toNat }).countStarted h
  takeScanBand s2 h p i b

/-- A scan page is refused at admission (R125 orders 4 and 5). -/
def refuseScanPage (s : State) (h : Fin 16) (r : Reason) : State :=
  let s1 := (holdJob s h r).countRefused h
  { s1 with sp := { s1.sp with announced := none } }

/-- The egress entry of a job's destination class. -/
def destEntry (s : State) (j : Job) : EgressEntry :=
  match j.dest with | some c => s.sp.egress[c] | none => EgressEntry.default

/-- The candidate opening band of a scan page (R125), in the job's mode. -/
def openingScanBand (s : State) (h : Fin 16) (i : Fin 3) (b : ScannerBand) : State :=
  let j := s.job h
  let page := b.page.toNat
  if staleFor j page then s.countRefused h
  else if s.sp.announced ≠ some page ∨ b.index.toNat ≠ 0 then refuseBand s h page
  else if j.key.isNone && (destEntry s j).mode == .cipher then refuseScanPage s h .account
  else
    match admissionOf s j.account (s.price .scan) ((s.account j.account).allows (j.dest.getD 0).val) with
    | .refused r => refuseScanPage s h r
    | .admitted s1 price => openScanPage s1 h i b price

/-- A band the scanner link has taken, for the ACTIVE scan job (R125, R126). -/
def scanBand (s : State) (h : Fin 16) (b : ScannerBand) : State :=
  match scanPlane? (s.job h).mode b.plane with
  | none => s.countRefused h
  | some i =>
    match s.sp.page with
    | none => openingScanBand s h i b
    | some p => takeScanBand s h p i b

/-- Every plane of the mode has finished, and their line totals are equal (R127). -/
def ScanPage.whole (p : ScanPage) (mode : ColourMode) : Bool :=
  (scanPlanes mode).all fun i => p.planes[i].finished && p.planes[i].lines == p.planes[0].lines

/-- The scanner's PAGE END (R127). -/
def scannerPageEnd (s : State) : State :=
  match s.sp.page with
  | some p =>
    if p.ended then s
    else if p.whole (s.job p.tag.job).mode then
      completeScanPage { s with sp := { s.sp with page := some { p with ended := true } } }
    else voidScanPage s
  | none => { s with sp := { s.sp with announced := none } }

/-- A good frame arrives on the scanner link: taken while the link has readiness, discarded and counted while it is held
(R121). -/
def scannerFrame (s : State) (f : ScannerFrame) : State :=
  if !scannerReady s then s.linkError .scanner
  else
    match f with
    | .pageBegin page => scannerPageBegin s page.toNat
    | .band b =>
      if bandInRange b then (match s.activeScan with | some h => scanBand s h b | none => s) else s.linkError .scanner
    | .pageEnd => scannerPageEnd s

/-- Bytes arrive on the scanner link (R121, R183). -/
def scannerBytes (s : State) (frame : List Byte) : State :=
  match decodeScanner frame with
  | some f => scannerFrame s f
  | none => s.linkError .scanner

/-! ### The upstream half of the controller link -/

/-- The egress test of a clear frame at the head of the buffer (R132). -/
def egressPasses (s : State) (f : ScanFrame) : Bool :=
  let j := s.job f.tag.job
  f.key.isSome ||
    ((destEntry s j).mode == .clear && (s.account j.account).allows (j.dest.getD 0).val)

/-- A clear frame fails the egress test (R132): the job's frames are discarded, its page voided, and the job held or its
drain tested. -/
def stopAtHead (s : State) (h : Fin 16) : State :=
  let s1 := { s with sp := { s.sp with buffer := s.sp.buffer.filter fun f => f.tag.job != h } }
  let s2 := if s1.hasScanPage h then voidScanPage s1 else s1
  match (s2.job h).state with
  | .active => holdJob s2 h .account
  | _ => drainTest s2 h

/-- The upstream half is free and the controller gives readiness: the multiplexer begins the waiting reply, else the
oldest notice, else the head scan frame once it has passed its egress test (R133). -/
def upstreamBegin (s : State) : State :=
  match s.li.sending with
  | some _ => s
  | none =>
    let send (x : Sending) : State := { s with li := { s.li with sending := some x } }
    match s.cu.state with
    | .replying r => send (.reply r)
    | _ =>
      match s.status.notices, s.sp.buffer with
      | n :: _, _ => send (.notice n true)
      | [], f :: _ => if egressPasses s f then send (.scan f true) else stopAtHead s f.tag.job
      | [], [] => s

/-- The link finishes sending a notice, which leaves the notice queue (R178). -/
def noticeSent (s : State) : State :=
  match s.li.sending with
  | some (.notice n queued) =>
    let s1 := { s with li := { s.li with sending := none } }.emitUpstream (encodeNotice n)
    if queued then { s1 with status := { s1.status with notices := s1.status.notices.tail } } else s1
  | _ => s

/-- The link finishes sending a scan frame (R131): it leaves the buffer, an ENDED page whose last frame this was completes
(R127), and the drain of a DRAINING job is tested (R34). A frame the buffer no longer holds counts for nothing (R120). -/
def scanFrameSent (s : State) : State :=
  match s.li.sending with
  | some (.scan f buffered) =>
    let s1 := { s with li := { s.li with sending := none } }.emitUpstream (encodeScanFrame f)
    if buffered then
      let page := s1.sp.page.map fun p => if p.tag = f.tag then { p with inBuffer := p.inBuffer - 1 } else p
      drainTest
        (completeScanPage { s1 with sp := { s1.sp with buffer := s1.sp.buffer.tail, page := page } }) f.tag.job
    else s1
  | _ => s

end Sys2Proof.Machine
end

