-- ==== Sys2Proof/Machine/Tracker.lean ====
section
/-! DEFINITION. The Sheet Tracker (chapter 5): track faults, the settlement of removed entries, the three engine reports, and the
clearing at a path reset. -/

namespace Sys2Proof.Machine

/-- The manner in which an entry is removed (R81). -/
inductive Manner where | exited | lost | developed | undeveloped | purged | cleared
  deriving DecidableEq, Repr

/-- The fields of a report in a TRACK FAULT notice and in the last fault record, as received. The sheet count, L and D are
counts and take the 2 bytes of section 12.1, not the byte of the report. DEDUCED (log entry 50). -/
def ReportFields.vals : ReportFields → List Val
  | .exit j p c => [.u8 j.toNat, .u16 p.toNat, .u16 c.toNat]
  | .jam l d => [.u16 l.toNat, .u16 d.toNat]

/-- A track fault (R91). -/
def trackFault (s : State) (k : FaultKind) (f : ReportFields) : State :=
  { s with st := { s.st with lastFault := some ⟨k, f, s.now⟩ } }.raise .trackFault (.u8 k.code :: f.vals)

/-- The deposits of a COMPLETE entry are handed to the Cartridge Unit, plane by plane (R82, R110). -/
def debit (s : State) (e : Entry) : State :=
  slots.foldl (fun s c => match e.deposits[c] with | some d => bookDeposit s c d e.serials[c] | none => s) s

/-- One removed entry is settled (R81): charged or released, debited or not, and counted. -/
def settleEntry (s : State) (e : Entry) (m : Manner) : State :=
  let complete := e.status == .complete
  let s1 := if complete && m == .exited then charge s e.account e.reserved (e.final.getD e.provisional)
    else releaseReservation s e.account e.reserved
  let s2 := if complete && (m == .exited || m == .lost || m == .developed || m == .purged) then debit s1 e else s1
  match m with
  | .exited => s2.countExited e.tag.job
  | .cleared => s2
  | _ => s2.countJammed e.tag.job

/-- `n` entries are removed from the head in one manner, each settled before the next (R81). -/
def removeFront (m : Manner) : Nat → State → State
  | 0, s => s
  | n + 1, s =>
    match s.st.entries with
    | [] => s
    | e :: rest => removeFront m n (settleEntry { s with st := { s.st with entries := rest } } e m)

/-- The jobs of a list of entries and possibly one more, each once, in handle order. -/
def jobsOf (entries : List Entry) (extra : Option (Fin 16)) : List (Fin 16) :=
  State.handles.filter fun h => extra == some h || entries.any fun e => e.tag.job == h

/-- Each of the jobs is held with reason JAM (R30). -/
def holdJam (s : State) (hs : List (Fin 16)) : State := hs.foldl (fun s h => holdJob s h .jam) s

/-- After a report: the drain tests of the jobs that had an entry removed, then the band that waits (R90, R17). -/
def afterReport (s : State) (removed : List Entry) : State :=
  settleBand ((jobsOf removed none).foldl drainTest s)

/-- The count of a SHEET EXIT as it is taken: 0 as 1, above 2 as 2 (R83). -/
def exitCount (c : Byte) : Nat := min 2 (max 1 c.toNat)

/-- The place in the queue of the entry a report names. -/
def namedEntry? (s : State) (job : Byte) (page : Half) : Option Nat :=
  s.st.entries.findIdx? fun e => e.tag.job.val == job.toNat && e.tag.page == page.toNat

/-- The entries include the FORWARDING entry of the open page (R87). -/
def includesOpen (s : State) (entries : List Entry) : Bool :=
  entries.any fun e => e.status == .forwarding && s.pp.openPage.any fun p => p.tag == e.tag

/-- A SHEET EXIT that names the entry at place `k` (R84, R85, R87). -/
def exitAt (s : State) (k c : Nat) (f : ReportFields) : State :=
  let removed := s.st.entries.take (k + c)
  let open? := includesOpen s removed
  let openJob := s.pp.openPage.map fun p => p.tag.job
  let s1 := if 0 < k then trackFault s .skip f else s
  let s2 := if open? then voidOpenPage (trackFault s1 .unfinished f) else s1
  let s3 := removeFront .exited c (removeFront .lost k s2)
  let s4 := if s.st.entries.length < k + c then trackFault s3 .short f else s3
  let s5 := if 0 < k then holdJam s4 (jobsOf (removed.take k) (if open? then openJob else none)) else s4
  afterReport s5 removed

/-- A SHEET EXIT (R83 to R87). -/
def sheetExit (s : State) (job : Byte) (page : Half) (count : Byte) : State :=
  match namedEntry? s job page with
  | some k => exitAt s k (exitCount count) (.exit job page count)
  | none =>
    trackFault { s with st := { s.st with stray := satAdd max16 s.st.stray 1 } } .stray (.exit job page count)

/-- A SHEET JAM (R83, R88). -/
def sheetJam (s : State) (lost developed : Byte) : State :=
  let l := min lost.toNat s.st.entries.length
  let d := min developed.toNat l
  let removed := s.st.entries.take l
  let openJob := s.pp.openPage.map fun p => p.tag.job
  let s1 := if l < lost.toNat ∨ d < developed.toNat then trackFault s .overcount (.jam lost developed) else s
  let s2 := removeFront .undeveloped (l - d) (removeFront .developed d (voidOpenPage s1))
  afterReport (holdJam s2 (jobsOf removed openJob)) removed

/-- A PATH PURGE (R89). -/
def pathPurge (s : State) : State :=
  let removed := s.st.entries
  let openJob := s.pp.openPage.map fun p => p.tag.job
  let s1 := removeFront .purged removed.length (voidOpenPage s)
  afterReport (holdJam s1 (jobsOf removed openJob)) removed

/-- Bytes arrive on the engine link (R21, R183). -/
def engineBytes (s : State) (frame : List Byte) : State :=
  match decodeReport frame with
  | some (.exit j p c) => sheetExit s j p c
  | some (.jam l d) => sheetJam s l d
  | some .purge => pathPurge s
  | none => s.linkError .engine

/-- The tracker at a path reset (R95): every entry CLEARED, and the path-clear instruction sent or made pending. -/
def clearTracker (s : State) : State :=
  let s1 := removeFront .cleared s.st.entries.length s
  if s1.pp.engineReady then s1.emitEngine markPathClear else { s1 with st := { s1.st with pathClear := true } }

end Sys2Proof.Machine
end

