-- ==== Sys2Proof/Machine/Reset.lean ====
section
/-! DEFINITION. The two resets: the path reset (R1, R40, R43, R95, R98, R120, R136, R171, R179, R181) and the power-on reset with
its load of the Meter Store (R22, R42, R64, R94, R97, R117, R120, R122, R135, R151, R152, R171, R181). -/

namespace Sys2Proof.Machine

/-! ### Path reset -/

/-- What a path reset found, as the reply of RESET PATH reports it (R179). -/
structure Found where
  jobs : List (Fin 16)
  page : Option Tag
  entries : Nat
  scanVoided : Bool
  zeroised : Nat
  deriving DecidableEq, Repr

/-- What a path reset taken now finds (R179). The handles stand in rising order, an order no rule gives. DESIGN CHOICE (log
entry 46). -/
def findings (s : State) : Found :=
  { jobs := State.handles.filter fun h => (s.job h).state != .free
    page := s.pp.openPage.map fun p => p.tag
    entries := s.st.entries.length
    scanVoided := s.sp.page.isSome
    zeroised := (keySlots.filter fun k => (s.key k).state == .active).length }

/-- The page stream at a path reset (R1): the open page voided, the band position emptied with its band uncounted, every
refused-page marker absent. -/
def resetPageStream (s : State) : State :=
  let s1 := voidOpenPage s
  { s1 with li := { s1.li with bandPosition := none }, pp := { s1.pp with markers := Vector.replicate 16 none } }

/-- The Scan Path at a path reset (R120): the page in progress voided, every buffered frame discarded, the announced page
absent. A scan frame on the link is finished and counts for nothing. -/
def resetScanPath (s : State) : State :=
  let s1 := voidScanPage s
  { s1 with
    sp := { s1.sp with buffer := [], announced := none }
    li := { s1.li with sending := s1.li.sending.map fun x =>
      match x with | .scan f _ => .scan f false | y => y } }

/-- A key slot at a path reset (R40 step 1, R136): the naming removed; an ACTIVE slot zeroised and FREE at its
generation. -/
def KeySlot.afterPathReset (x : KeySlot) : KeySlot :=
  if x.state = .active then KeySlot.freed x.generation else { x with naming := none }

/-- The notice queue at a path reset (R178, R181): emptied without sending. A notice on the link is finished. -/
def resetNotices (s : State) : State :=
  { s with
    status := { s.status with notices := [] }
    li := { s.li with sending := s.li.sending.map fun x =>
      match x with | .notice n _ => .notice n false | y => y } }

/-- The jobs, the key slots and the session at a path reset (R40, R43, R136, R171): every context at its power-on values,
no slot named or ACTIVE, the session CLOSED without SESSION ENDED and ch0 stopped at once. -/
def resetJobs (s : State) : State :=
  let s1 := { s with
    jt := Vector.replicate 16 Job.initial
    kt := s.kt.map KeySlot.afterPathReset
    acct := { s.acct with session := none } }
  s1.setChannel 0 (s1.channel 0).halt

/-- A path reset (R179). -/
def pathReset (s : State) : State :=
  resetNotices (slots.foldl pathResetSlot (resetJobs (resetScanPath (clearTracker (resetPageStream s)))))

/-! ### The load of the Meter Store -/

/-- A row of the array is valid (R150). -/
def validRow (m : Memory) (r : Row) : Bool := rowCondition (m.row r) == .valid

/-- The rows of the array, in order. -/
def rows : List Row := List.finRange 360

/-- The record row 24 + i gives on its own (R42). -/
def loadRecord (m : Memory) (i : Fin 256) : Account :=
  if validRow m (accountRow i) then decodeAccount (m.row (accountRow i)) else Account.blank

/-- A lower index holds a record with the same id (R42). -/
def duplicateBelow (records : Vector Account 256) (i : Fin 256) : Bool :=
  records[i].state != .absent &&
    (List.finRange 256).any fun j => j.val < i.val && records[j].state != .absent && records[j].id == records[i].id

/-- Every record as its own row gives it (R42). -/
def loadRecords (m : Memory) : Vector Account 256 := Vector.ofFn fun i => loadRecord m i

/-- The account records after the load (R42): of the records with one id the lowest index keeps its own, and each of the
others is ABSENT with its dirty flag set. -/
def keepLowest (records : Vector Account 256) : Vector Account 256 :=
  Vector.ofFn fun i => if duplicateBelow records i then { Account.blank with dirty := true } else records[i]

/-- STORE FAULT is set by the load: a corrupt row (R151) or a duplicate account id (R42). -/
def loadFaults (m : Memory) (records : Vector Account 256) : Bool :=
  rows.any (fun r => rowCondition (m.row r) == .corrupt) ||
    (List.finRange 256).any fun i => duplicateBelow records i

/-- The six settings rows form one image, used when all six are valid (R151). -/
def settingsValid (m : Memory) : Bool := (List.finRange 6).all fun k => validRow m (settingsRow k)

/-- The settings of row 2. -/
structure Settings where
  lock : Bool
  prices : Vector Nat 7
  postscale : Nat
  threshold : Nat
  policy : Policy
  lowMark : Nat
  step : Nat
  trim : Int
  channels : Vector (Tap × Nat) 4
  deriving DecidableEq, Repr

/-- The defaults (R42, R64, R97, R159, R171). -/
def Settings.default : Settings :=
  { lock := false, prices := Vector.replicate 7 0, postscale := 8, threshold := 50, policy := .strict, lowMark := 100,
    step := 1048576, trim := 0, channels := defaultChannelSettings }

/-- A two-byte value read as signed two's complement (R182). -/
def signed16 (n : Nat) : Int := (BitVec.ofNat 16 n).toInt

/-- The settings a valid row 2 gives, each value brought into range as its own command brings it (R42, R64, R97, R171). A
lock byte other than 0 is a set lock (log entry 27). -/
def decodeSettings (row : List Byte) : Settings :=
  { lock := fieldAt row 4 1 != 0
    prices := Vector.ofFn fun i => fieldAt row (5 + 2 * i.val) 2
    postscale := clampPostscale (fieldAt row 19 1)
    threshold := storedThreshold (fieldAt row 20 2)
    policy := (Policy.ofByte (row.getD 22 0)).getD .strict
    lowMark := storedLowMark (fieldAt row 23 2)
    step := storedStep (fieldAt row 25 4)
    trim := storedTrim (signed16 (fieldAt row 29 2))
    channels := Vector.ofFn fun c =>
      ((Tap.ofCode (fieldAt row (31 + 3 * c.val) 1)).getD defaultChannelSettings[c].1,
       storedPeriod (fieldAt row (32 + 3 * c.val) 2)) }

/-- The tone table of a plane in its settings row (R64). -/
def decodeToneTable (row : List Byte) : ToneTable :=
  { weights := storedWeights (Vector.ofFn fun i => fieldAt row (2 * i.val) 2), gain := storedGain (fieldAt row 34 2) }

/-- The settings after the load (R151). -/
def loadSettings (m : Memory) : Settings :=
  if settingsValid m then decodeSettings (m.row (settingsRow 0)) else Settings.default

/-- The tone tables after the load (R64). -/
def loadToneTables (m : Memory) : Vector ToneTable 4 :=
  if settingsValid m then Vector.ofFn fun c => decodeToneTable (m.row (settingsRow ⟨c.val + 1, by omega⟩))
  else Vector.replicate 4 ToneTable.default

/-- The entry of a class after the load: each egress row serves its own sixteen classes (R122, R151). -/
def loadEgressEntry (m : Memory) (cls : Fin 256) : EgressEntry :=
  let r := egressRow ⟨cls.val / 16, by omega⟩
  if validRow m r then decodeEgress cls (m.row r) else EgressEntry.default

/-- The ring after the load (R117). -/
def loadRing (m : Memory) : Vector (Option HistoryRow) 16 :=
  Vector.ofFn fun p => if validRow m (historyRow p) then decodeHistory (m.row (historyRow p)) else none

/-- The later of two ring positions by event time, a tie going to the higher (R117). -/
def laterRow (ring : Vector (Option HistoryRow) 16) (best : Option (Fin 16 × Nat)) (p : Fin 16) :
    Option (Fin 16 × Nat) :=
  match ring[p], best with
  | none, b => b
  | some h, none => some (p, h.eventTime)
  | some h, some (q, t) => if t ≤ h.eventTime then some (p, h.eventTime) else some (q, t)

/-- The next-write position after the load (R117). -/
def loadRingNext (ring : Vector (Option HistoryRow) 16) : Fin 16 :=
  match (List.finRange 16).foldl (laterRow ring) none with
  | some (p, _) => p + 1
  | none => 0

/-- A key slot as its row gives it, before the erases of R135 are requested. -/
def loadKeySlot (m : Memory) (k : Fin 64) : KeySlot :=
  if validRow m (keyRow k) then decodeKeySlot (m.row (keyRow k)) else KeySlot.freed 0

/-- A restored slot with no release left becomes ERASING with cause RELEASED (R135). -/
def eraseSpent (s : State) (k : Fin 64) : State :=
  if (s.key k).state = .retained ∧ (s.key k).releases = 0 then enterErasing s k .released else s

/-- The times of record of a row (R152). -/
def rowTimes (r : Row) (row : List Byte) : List Nat :=
  match rowOwner r with
  | .manufacture => if r.val = 0 then [fieldAt row 10 4] else []
  | .settings k => if k.val = 0 then [fieldAt row 0 4] else []
  | .egress _ => []
  | .account _ => [fieldAt row 48 4]
  | .key _ => [fieldAt row 38 4]
  | .history _ => [fieldAt row 16 4, fieldAt row 20 4]

/-- The latest time of record in any valid row, 0 where there is none (R152). -/
def latestRecord (m : Memory) : Nat :=
  rows.foldl (fun t r => if validRow m r then (rowTimes r (m.row r)).foldl max t else t) 0

/-- The state once every volatile item has its power-on value and every owner has taken its rows, before the erases of
R135: memory, line levels, the model's own logs and the queue of commands stay. -/
def loaded (s : State) : State :=
  let m := s.ms.memory
  let c := loadSettings m
  let records := loadRecords m
  let ring := loadRing m
  { s with
    li := { commandQueue := [], bandPosition := none, errors := 0, pathLine := s.li.pathLine, sending := none }
    cu := { state := .idle, identity := m.row 0, identityCondition := rowCondition (m.row 0) }
    jt := Vector.replicate 16 Job.initial
    acct := { records := keepLowest records, prices := c.prices, postscale := c.postscale, session := none }
    pp := { openPage := none, markers := Vector.replicate 16 none, pendingVoid := none, engineReady := s.pp.engineReady }
    dm := { tables := loadToneTables m, threshold := c.threshold, accum := none, lastRecord := none }
    st := { entries := [], stray := 0, lastFault := none, pathClear := false }
    tu := { slots := Vector.replicate 4 Cartridge.initial, policy := c.policy, lowMark := c.lowMark, step := c.step,
            ring := ring, ringDirty := Vector.replicate 16 false, ringNext := loadRingNext ring,
            masterSecret := if validRow m 1 then some ((m.row 1).take 60) else none }
    sp := { page := none, announced := none, buffer := [], egress := Vector.ofFn fun i => loadEgressEntry m i }
    kt := Vector.ofFn fun k => loadKeySlot m k
    ms := { memory := m, op := none, latches := List.replicate 64 0, queue := [], held := [], warning := s.ms.warning,
            lock := c.lock, lockUnsaved := false }
    tb := { seconds := latestRecord m, accumulator := 0, subSecond := 0, minute := 0, trim := c.trim,
            channels := Vector.ofFn fun i => Channel.afterPowerOn (i.val != 0) c.channels[i] }
    status := { flags := if loadFaults m records then Flag.storeFault.mask else 0, mask := 0, sequence := 0, notices := [] } }

/-- The power-on reset (R151, R152). -/
def powerOn (s : State) : State := keySlots.foldl eraseSpent (loaded s)

end Sys2Proof.Machine
end

