-- ==== Sys2Proof/Machine/JobCommands.lean ====
section
/-! DEFINITION. The job commands (R25 to R27, R31 to R33, R39) and RESET PATH (R179). -/

namespace Sys2Proof.Machine

/-! ### OPEN JOB -/

/-- The lowest-numbered FREE context (R27). -/
def freeContext? (s : State) : Option (Fin 16) := State.handles.find? fun h => (s.job h).state == .free

/-- Privilege bits of an account record (section 3.1). -/
def Account.mayColor (a : Account) : Bool := a.privileges.getLsbD 0
def Account.mayScan (a : Account) : Bool := a.privileges.getLsbD 1
def Account.mayRelease (a : Account) : Bool := a.privileges.getLsbD 2

/-- Order 3 of R26: the slot number or the generation names no current key set. -/
def unknownSlot (s : State) (a : OpenJobArgs) : Bool :=
  match indexOf 64 a.slot with
  | none => true
  | some k => (s.key k).generation != a.generation

/-- Order 5 of R26: a privilege is missing. -/
def lacksPrivilege (x : Account) (kind : JobKind) (mode : ColourMode) : Bool :=
  (mode == .color && !x.mayColor) || (kind == .scan && !x.mayScan) || (kind == .release && !x.mayRelease)

/-- Order 6 of R26: no panel session is open for the account. -/
def noSession (s : State) (i : Fin 256) : Bool := !(s.acct.session.any fun x => x.account == i)

/-- Order 8 of R26: the slot cannot be released to the account. -/
def notReleasable (s : State) (x : Account) (a : OpenJobArgs) : Bool :=
  (indexOf 64 a.slot).any fun k =>
    let y := s.key k
    y.state != .retained || y.owner != x.id || y.releases == 0 || y.expiry.any fun e => e ≤ s.now

/-- Order 10 of R26: the slot is named by a job. -/
def slotNamed (s : State) (a : OpenJobArgs) : Bool := (indexOf 64 a.slot).any fun k => (s.key k).naming.isSome

/-- The table entry of the destination class is CIPHER. -/
def cipherClass (s : State) (a : OpenJobArgs) : Bool := s.sp.egress[byteIndex a.dest].mode == .cipher

/-- The refusals of OPEN JOB in the order of R26, the first that holds deciding. -/
def openRefusal (s : State) (kind : JobKind) (mode : ColourMode) (a : OpenJobArgs) : Option ReplyCode :=
  let x := s.account (byteIndex a.account)
  if (freeContext? s).isNone then some .full
  else if x.state == .absent then some .noEntry
  else if kind == .release && unknownSlot s a then some .noEntry
  else if x.state == .suspended then some .refused
  else if lacksPrivilege x kind mode then some .refused
  else if kind != .print && noSession s (byteIndex a.account) then some .refused
  else if kind == .scan && !x.allows a.dest.toNat then some .refused
  else if kind == .release && notReleasable s x a then some .refused
  else if kind == .scan && State.handles.any (fun h => (s.job h).kind == .scan && (s.job h).state != .free) then
    some .busy
  else if kind == .release && slotNamed s a then some .busy
  else if kind == .scan && cipherClass s a && (freeSlot? s).isNone then some .full
  else none

/-- The key slot an accepted OPEN JOB takes (R27 step 1). -/
def openSlot? (s : State) (kind : JobKind) (a : OpenJobArgs) : Option (Fin 64) :=
  match kind with
  | .print => none
  | .release => indexOf 64 a.slot
  | .scan => if cipherClass s a then freeSlot? s else none

/-- The Key Table's part in an accepted OPEN JOB (R27 step 1). -/
def openKeys (s : State) (kind : JobKind) (k : Fin 64) (owner : Nat) (h : Fin 16) : State :=
  match kind with
  | .release => useRelease s k h
  | _ => drawKeys s k owner h

/-- The context of a job just opened (R27). The stall count is absent for SCAN (section 2.1; log entry 15). -/
def openedJob (kind : JobKind) (mode : ColourMode) (size : Option SizeClass) (a : OpenJobArgs) (key : Option KeyRef) :
    Job :=
  { state := .active, kind := kind, account := byteIndex a.account, mode := mode, size := size, key := key,
    dest := if kind = .scan then some (byteIndex a.dest) else none,
    stallLimit := if kind = .scan then none else some (storedStall a.stall.toNat),
    stallCount := if kind = .scan then none else some 0,
    reason := none, cancel := false, lastPage := none, counters := Counters.zero }

/-- A band that waits and names the handle is discarded uncounted (R27 step 2). -/
def dropWaiting (s : State) (h : Fin 16) : State :=
  { s with li := { s.li with bandPosition := s.li.bandPosition.filter fun w => w.band.job != h } }

/-- An OPEN JOB that passes R26 takes context `h` (R27). -/
def openAt (s : State) (h : Fin 16) (kind : JobKind) (mode : ColourMode) (size : Option SizeClass)
    (a : OpenJobArgs) : State × Answer :=
  let i := byteIndex a.account
  match openSlot? s kind a with
  | none =>
    let s1 := s.setJob h (openedJob kind mode size a none)
    (touchIdle (dropWaiting (s1.setMarker h none) h) i).ok [.u8 h]
  | some k =>
    let s1 := openKeys s kind k (s.account i).id h
    let ref : KeyRef := ⟨k, (s1.key k).generation⟩
    let s2 := s1.setJob h (openedJob kind mode size a (some ref))
    let s3 := touchIdle (dropWaiting (s2.setMarker h none) h) i
    match kind with
    | .scan => s3.ok [.u8 h, .u8 k, .u16 ref.generation.toNat]
    | _ => s3.ok [.u8 h]

/-- The size class of the arguments: absent for SCAN, where R25 ignores it; the outer none is a value that names none. -/
def openSize (kind : JobKind) (b : Byte) : Option (Option SizeClass) :=
  match kind with
  | .scan => some none
  | _ => (SizeClass.ofByte b).map some

/-- OPEN JOB (R25 to R27). -/
def cmdOpenJob (a : OpenJobArgs) (s : State) : State × Answer :=
  match JobKind.ofByte a.kind, ColourMode.ofByte a.mode with
  | some kind, some mode =>
    match openSize kind a.size with
    | none => s.refuse .malformed
    | some size =>
      match openRefusal s kind mode a, freeContext? s with
      | some code, _ => s.refuse code
      | none, none => s.refuse .full
      | none, some h => openAt s h kind mode size a
  | _, _ => s.refuse .malformed

/-! ### RESUME, CLOSE, CANCEL, READ -/

/-- RESUME JOB (R31). -/
def cmdResumeJob (handle : Byte) (s : State) : State × Answer :=
  match indexOf 16 handle with
  | none => s.refuse .noEntry
  | some h =>
    match (s.job h).state with
    | .held => ((s.modJob h fun j => { j with state := .active, reason := none }).setMarker h none).ok []
    | .active => s.ok []
    | .draining => s.refuse .busy
    | .free => s.refuse .noEntry

/-- CLOSE JOB (R32). -/
def cmdCloseJob (handle : Byte) (s : State) : State × Answer :=
  match indexOf 16 handle with
  | none => s.refuse .noEntry
  | some h =>
    match (s.job h).state with
    | .free => s.refuse .noEntry
    | .draining => s.ok []
    | _ => (drainTest (beginDrain s h false) h).ok []

/-- CANCEL JOB (R33). -/
def cmdCancelJob (handle : Byte) (s : State) : State × Answer :=
  match indexOf 16 handle with
  | none => s.refuse .noEntry
  | some h =>
    match (s.job h).state with
    | .free => s.refuse .noEntry
    | .draining => if (s.job h).cancel then s.ok [] else (drainTest (cancelDraining s h) h).ok []
    | _ => (drainTest (beginDrain s h true) h).ok []

/-- The values of the five counters (R38). -/
def Counters.vals (c : Counters) : List Val :=
  [.u32 c.started, .u32 c.exited, .u32 c.jammed, .u32 c.voided, .u32 c.refused]

/-- The values of a context, in the order of its field table (R39, R182). -/
def Job.vals (j : Job) : List Val :=
  [.u8 j.state.code, .u8 j.kind.code, .u8 j.account, .u8 j.mode.code, .opt 1 (j.size.map SizeClass.code), optKey j.key,
   .opt 1 (j.dest.map Fin.val), .opt 1 j.stallLimit, .opt 2 j.stallCount, .opt 1 (j.reason.map Reason.code),
   .flag j.cancel, .opt 2 j.lastPage] ++ j.counters.vals

/-- READ JOB (R39). -/
def cmdReadJob (handle : Byte) (s : State) : State × Answer :=
  match indexOf 16 handle with
  | none => s.refuse .noEntry
  | some h =>
    let j := s.job h
    let open? := (s.pp.openPage.filter fun p => p.tag.job == h).map fun p => p.tag.page
    s.ok (j.vals ++ [.opt 2 open?, .u16 (s.entryCount h)] ++ (if j.kind = .scan then [.flag (s.hasScanPage h)] else []))

/-- RESET PATH (R179): the path reset, and what it found. The command queue is emptied once the reply has been sent. -/
def cmdResetPath (s : State) : State × Answer :=
  let f := findings s
  (pathReset s).ok
    ([.u8 f.jobs.length] ++ f.jobs.map (fun h => Val.u8 h.val) ++
      [optTag f.page, .u16 f.entries, .flag f.scanVoided, .u16 f.zeroised])

end Sys2Proof.Machine
end

