-- ==== Sys2Proof/Machine/StatusCommands.lean ====
section
/-! DEFINITION. The time and timer commands (R164, R166, R167, R169) and the status commands (R175 to R177). -/

namespace Sys2Proof.Machine

/-! ### Time Base -/

/-- SET TIME (R166). -/
def cmdSetTime (seconds : Word) (s : State) : State × Answer :=
  { s with tb := { s.tb with seconds := seconds.toNat, accumulator := 0, subSecond := 0, minute := 0 } }.ok
    [.u32 s.now, .u32 seconds.toNat]

/-- The values of a channel record, in the order of its field table (R167, R169, R182). -/
def Channel.vals (c : Channel) : List Val :=
  [.u8 c.tap.code, .u16 c.period, .u16 c.count, .flag c.running, .flag c.stopPending,
   .opt 3 (c.staged.map fun x => x.1.code * 65536 + x.2)]

/-- READ TIME (R167): the four channels are a list with its count (R182). -/
def cmdReadTime (s : State) : State × Answer :=
  s.ok ([.u32 s.tb.seconds, .u16 s.tb.subSecond, .u16 s.tb.minute, .s16 s.tb.trim, .u8 4] ++
    s.tb.channels.toList.flatMap Channel.vals)

/-- SET TRIM (R164). -/
def cmdSetTrim (trim : Half) (s : State) : State × Answer :=
  let t := storedTrim trim.toInt
  { s with tb := { s.tb with trim := t } }.ok [.s16 t]

/-- The run request of SET TIMER taken on a channel (R169). -/
def Channel.run (c : Channel) : RunRequest → Channel
  | .none => c
  | .start => c.start
  | .stop => c.requestStop

/-- SET TIMER (R169): the MALFORMED tests come before the refusals (R173). -/
def cmdSetTimer (channel tap : Byte) (period : Half) (run : Byte) (s : State) : State × Answer :=
  match Tap.ofCode tap.toNat, RunRequest.ofByte run with
  | some t, some r =>
    match indexOf 4 channel with
    | none => s.refuse .noEntry
    | some c =>
      if c = 0 ∧ r ≠ .none then s.refuse .refused
      else
        let x := ((s.channel c).settings t (storedPeriod period.toNat)).run r
        (s.setChannel c x).ok x.vals
  | _, _ => s.refuse .malformed

/-! ### Status -/

/-- READ STATUS (R175). -/
def cmdReadStatus (s : State) : State × Answer :=
  s.ok [.u16 s.status.flags.toNat, .u16 s.li.errors, .u16 s.st.stray, .u16 s.status.mask.toNat,
    .u16 s.status.notices.length, .u16 s.status.sequence.toNat]

/-- A set of flags names one (R182: bit 0 is the first item). -/
def names (named : Half) (f : Flag) : Bool := named.getLsbD f.bit.val

/-- The change flag of some slot is set (R102). -/
def anyChanged (s : State) : Bool := s.tu.slots.toList.any fun x => x.changed

/-- The named flags are cleared (R176). -/
def clearFlags (s : State) (named : Half) : State :=
  { s with status := { s.status with flags := s.status.flags &&& ~~~(named.extractLsb' 0 13) } }

/-- CLEAR STATUS (R176). -/
def cmdClearStatus (named : Half) (s : State) : State × Answer :=
  let s1 := clearFlags s named
  let s2 := if names named .linkFrameError then { s1 with li := { s1.li with errors := 0 } } else s1
  let s3 := if names named .trackFault then { s2 with st := { s2.st with stray := 0 } } else s2
  let s4 := if names named .cartridgeChange && anyChanged s3 then s3.setFlag .cartridgeChange else s3
  s4.ok [.u16 s4.status.flags.toNat]

/-- SET NOTICE MASK (R177). -/
def cmdSetNoticeMask (mask : Half) (s : State) : State × Answer :=
  let m : BitVec 12 := mask.extractLsb' 0 12
  { s with status := { s.status with mask := m } }.ok [.u16 m.toNat]

end Sys2Proof.Machine
end

