-- ==== Sys2Proof/Machine/StoreCommands.lean ====
section
/-! DEFINITION. The commands of the Meter Store (R157 to R161) and READ IDENTITY (R180). -/

namespace Sys2Proof.Machine

/-! ### FLUSH METERS and SAVE SETTINGS -/

/-- One dirty account of a flush: its count returns to 0 and its commit is requested as the flush's own (R157). -/
def flushAccount (s : State) (i : Fin 256) : State :=
  requestOwn (s.modAccount i fun a => { a with sinceFlush := 0 }) (.commit (accountRow i) 0)

/-- FLUSH METERS (R157). -/
def cmdFlushMeters (s : State) : State × Answer :=
  match dirtyAccounts s with
  | [] => s.ok [.u16 0, .u16 0]
  | l => (l.foldl flushAccount s, .long (.rows l.length 0 0))

/-- Rows 2 to 23, in order (R158). -/
def settingsRows : List Row := (List.finRange 6).map settingsRow ++ (List.finRange 16).map egressRow

/-- SAVE SETTINGS (R158). -/
def cmdSaveSettings (s : State) : State × Answer :=
  (settingsRows.foldl (fun s r => requestOwn s (.commit r 0)) s, .long (.rows settingsRows.length 0 0))

/-! ### LOCK METERS -/

/-- LOCK METERS (R159). -/
def cmdLockMeters (s : State) : State × Answer :=
  if s.ms.lock then s.ok []
  else
    (request { s with ms := { s.ms with lock := true, lockUnsaved := true } } (.commit (settingsRow 0) 0)).1.ok []

/-! ### SANITIZE -/

/-- The settings of SANITIZE ALL, step 4 (R160): every setting at its default; a channel that runs stages its default
(R171). -/
def defaultSettings (s : State) : State :=
  { s with
    acct := { s.acct with prices := Vector.replicate 7 0, postscale := 8 }
    dm := { s.dm with tables := Vector.replicate 4 ToneTable.default, threshold := 50 }
    tu := { s.tu with policy := .strict, lowMark := 100, step := 1048576 }
    sp := { s.sp with egress := Vector.replicate 256 EgressEntry.default }
    tb := { s.tb with
      trim := 0
      channels := Vector.ofFn fun c =>
        s.tb.channels[c].settings defaultChannelSettings[c].1 defaultChannelSettings[c].2 } }

/-- The history ring emptied, its position 0, its dirty marks clear (R117, R160). -/
def emptyRing (s : State) : State :=
  { s with tu := { s.tu with
      ring := Vector.replicate 16 none, ringDirty := Vector.replicate 16 false, ringNext := 0 } }

/-- The meter lock and lock unsaved cleared (R159, R160). -/
def unlock (s : State) : State := { s with ms := { s.ms with lock := false, lockUnsaved := false } }

/-- SANITIZE with scope KEYS (R160). -/
def sanitizeKeysScope (s : State) : State × Answer := (requestRegion (sanitizeKeys (sanitizeJobs s)) .keys, .long .region)

/-- SANITIZE with scope ACCOUNTS (R160). -/
def sanitizeAccountsScope (s : State) : State × Answer :=
  if s.ms.lock then s.refuse .locked
  else if !s.allFree then s.refuse .busy
  else (requestRegion (wipeAccounts s) .accounts, .long .region)

/-- SANITIZE with scope ALL (R160). -/
def sanitizeAllScope (s : State) : State × Answer :=
  if !s.allFree then s.refuse .busy
  else (requestRegion (unlock (defaultSettings (emptyRing (wipeAccounts (sanitizeKeys s))))) .all, .long .region)

/-- SANITIZE (R160). -/
def cmdSanitize (scope : Byte) (s : State) : State × Answer :=
  match SanitizeScope.ofByte scope with
  | none => s.refuse .malformed
  | some .keys => sanitizeKeysScope s
  | some .accounts => sanitizeAccountsScope s
  | some .all => sanitizeAllScope s

/-! ### READ ROW and READ IDENTITY -/

/-- A row whose contents reach the outside through no command (R150, R161). -/
def protectedRow (r : Row) : Bool := r.val == 1 || (280 ≤ r.val && r.val ≤ 343)

/-- What READ ROW reports of a row (R161). -/
def rowVals (s : State) (r : Row) : List Val :=
  if protectedRow r then [.raw (List.replicate 64 0x00#8), .u8 RowCondition.valid.code]
  else
    let bytes := s.ms.memory.row r
    [.raw bytes, .u8 (rowCondition bytes).code]

/-- READ ROW (R161). -/
def cmdReadRow (row : Half) (s : State) : State × Answer :=
  if h : row.toNat < 360 then s.ok (rowVals s ⟨row.toNat, h⟩) else s.refuse .noEntry

/-- READ IDENTITY (R180). -/
def cmdReadIdentity (s : State) : State × Answer := s.ok [.raw s.cu.identity, .u8 s.cu.identityCondition.code]

end Sys2Proof.Machine
end

