-- ==== Sys2Proof/Machine/TableCommands.lean ====
section
/-! DEFINITION. The commands of the Deposit Meter (R65 to R67, R77), the Sheet Tracker (R92, R93), the Cartridge Unit (R109, R115,
R117, R118), the egress class table (R122) and the Key Table (R144, R148). -/

namespace Sys2Proof.Machine

/-! ### Deposit Meter -/

/-- The values of a tone table. -/
def ToneTable.vals (t : ToneTable) : List Val := t.weights.toList.map Val.u16 ++ [.u16 t.gain]

/-- LOAD TONE TABLE (R65). -/
def cmdLoadToneTable (plane : Byte) (weights : Vector Half 17) (gain : Half) (s : State) : State × Answer :=
  match indexOf 4 plane with
  | none => s.refuse .noEntry
  | some c =>
    let t : ToneTable := { weights := storedWeights (weights.map BitVec.toNat), gain := storedGain gain.toNat }
    { s with dm := { s.dm with tables := s.dm.tables.set c t } }.ok t.vals

/-- SET SPOT THRESHOLD (R66). -/
def cmdSetSpotThreshold (threshold : Half) (s : State) : State × Answer :=
  let t := storedThreshold threshold.toNat
  { s with dm := { s.dm with threshold := t } }.ok [.u16 t]

/-- READ TONE TABLE (R67). -/
def cmdReadToneTable (plane : Byte) (s : State) : State × Answer :=
  match indexOf 4 plane with
  | none => s.refuse .noEntry
  | some c => s.ok (s.dm.tables[c].vals ++ [.u16 s.dm.threshold])

/-- The values of one plane of a completion record; the residue takes 4 bytes, a width the table of section 12.1 does not
name. DEDUCED (log entry 45). -/
def PlaneResult.vals (r : PlaneResult) : List Val :=
  [.num 8 r.weighted, .num 8 r.raw, .u32 r.deposit, .opt 8 (r.serial.map BitVec.toNat), .u32 r.residue]

/-- The last completion record as READ PAGE METER reports it (R77): presence, then its fields in the order of its table; an
absent one as zeros of the same fields with no plane (log entry 13). The coverage takes the 2 bytes of the threshold it is
measured against, a width the table of section 12.1 does not name. DEDUCED (log entry 45). -/
def recordVals : Option CompletionRecord → List Val
  | none => [.absent 9]
  | some r =>
    [.flag true] ++ r.tag.vals ++ [.u8 r.mode.code, .opt 2 r.coverage, .u8 r.final.code, .u8 r.planes.length] ++
      r.planes.flatMap PlaneResult.vals

/-- The open page as READ PAGE METER reports it (R77). -/
def openPageVals (s : State) : List Val :=
  match s.pp.openPage with
  | none => [.flag false]
  | some p =>
    let acc := s.dm.accum.getD clearAccum
    [.flag true] ++ p.tag.vals ++ [.u8 (modePlanes p.mode).length] ++
      (modePlanes p.mode).flatMap fun c => [Val.num 8 acc[c].weighted, .num 8 acc[c].raw, .u16 p.planes[c].lines]

/-- READ PAGE METER (R77). -/
def cmdReadPageMeter (s : State) : State × Answer := s.ok (openPageVals s ++ recordVals s.dm.lastRecord)

/-! ### Sheet Tracker -/

/-- The last fault record as READ TRACKER reports it (R92); an absent one as zeros with the width of an exit's record (log
entry 13). -/
def faultVals : Option LastFault → List Val
  | none => [.absent 10]
  | some f => [.flag true, .u8 f.kind.code] ++ f.fields.vals ++ [.u32 f.time]

/-- READ TRACKER (R92). -/
def cmdReadTracker (s : State) : State × Answer :=
  s.ok ([.u8 s.st.entries.length] ++ s.st.entries.flatMap (fun e => e.tag.vals ++ [.u8 e.status.code]) ++
    [.u16 s.st.stray] ++ faultVals s.st.lastFault ++ [.flag s.st.pathClear])

/-- The values of an entry, in the order of its field table (R93, R182): the four deposits, then the four serials (log entry
13). -/
def Entry.vals (e : Entry) : List Val :=
  e.tag.vals ++ [.u8 e.account, .u8 e.provisional.code, .u16 e.reserved, .u8 e.status.code] ++
    match e.status, e.final with
    | .complete, some f =>
      [.u8 f.code] ++ (slots.map fun c => Val.opt 4 e.deposits[c]) ++
        slots.map fun c => Val.opt 8 (e.serials[c].map BitVec.toNat)
    | _, _ => []

/-- READ ENTRY (R93). -/
def cmdReadEntry (position : Byte) (s : State) : State × Answer :=
  match s.st.entries[position.toNat]? with
  | none => s.refuse .noEntry
  | some e => s.ok e.vals

/-! ### Cartridge Unit -/

/-- RECHECK CARTRIDGE (R109). -/
def cmdRecheckCartridge (slot : Byte) (s : State) : State × Answer :=
  match indexOf 4 slot with
  | none => s.refuse .noEntry
  | some c =>
    match (s.slot c).state with
    | .genuine | .spent => (requestRecheck s c).ok []
    | .rejected _ | .mute =>
      if (s.slot c).exchange.isNone then (s.modSlot c fun x => { x with state := .sensed }).ok []
      else s.refuse .busy
    | .sensed | .checking => s.refuse .busy
    | .empty => s.refuse .noEntry

/-- SET CARTRIDGE POLICY (R115). -/
def cmdSetCartridgePolicy (policy : Byte) (lowMark : Half) (step : Word) (s : State) : State × Answer :=
  match Policy.ofByte policy with
  | none => s.refuse .malformed
  | some p =>
    let m := storedLowMark lowMark.toNat
    let n := storedStep step.toNat
    { s with tu := { s.tu with policy := p, lowMark := m, step := n } }.ok [.u8 p.code, .u16 m, .u32 n]

/-- The values of a slot record, in the order of its field table (R118, R182). DEDUCED: the residue takes 4 bytes (log
entry 45), the line sample, level and latch and every value that is set or clear one byte, 01h for high or set and 00h for
low or clear (log entry 47), and a field of several values gives each on its own: Pending is two bytes (log entry 48). -/
def Cartridge.vals (x : Cartridge) : List Val :=
  [.u8 x.state.code, .opt 1 (x.state.reason?.map RejectReason.code), .opt 8 (x.serial.map BitVec.toNat),
   .opt 3 (x.model.map fun m => m.colorant.toNat * 65536 + m.number.toNat), .u32 x.ratedYield, .flag x.rationKnown,
   .u32 x.mirror, .u32 x.confirmed, .u16 x.writeCount, .u32 x.residue, .u32 x.developed, .u32 x.overdraw,
   .u32 x.unmetered, .u16 x.insertions, .u32 x.insertionTime, .flag x.lowReported, .flag x.sample, .flag x.level,
   .u16 x.debounce, .flag x.latch, .flag x.changed,
   .opt 3 (x.exchange.map fun e => e.request.code * 65536 + e.elapsed), .flag x.writePending, .flag x.recheckPending]

/-- READ CARTRIDGE (R118): the record as it stood, then the latch takes the debounced level. -/
def cmdReadCartridge (slot : Byte) (s : State) : State × Answer :=
  match indexOf 4 slot with
  | none => s.refuse .noEntry
  | some c =>
    let x := s.slot c
    (s.setSlot c { x with latch := x.level, changed := false }).ok
      (x.vals ++ [.flag x.level, .flag x.latch, .u8 s.tu.policy.code, .u16 s.tu.lowMark, .u32 s.tu.step])

/-- A ring row as READ HISTORY reports it (R117): presence, then the fields of R116, or zeros. -/
def historyVals : Option HistoryRow → List Val
  | none => [.absent 30]
  | some h =>
    [.flag true, .u8 h.event.code, .u8 h.slot, .u64 h.serial, .u32 h.mirror, .u32 h.insertionTime, .u32 h.eventTime,
     .u32 h.developed, .u32 h.overdraw]

/-- READ HISTORY (R117). -/
def cmdReadHistory (position : Byte) (s : State) : State × Answer :=
  match indexOf 16 position with
  | none => s.refuse .noEntry
  | some p => s.ok (historyVals s.tu.ring[p] ++ [.u8 s.tu.ringNext])

/-! ### Egress class table -/

/-- The values of an entry of the egress class table; the release count is a count of section 12.1 (log entry 50). -/
def EgressEntry.vals (e : EgressEntry) : List Val := [.u8 e.mode.code, .u16 e.retention, .u16 e.releases]

/-- LOAD EGRESS CLASS (R122). -/
def cmdLoadEgressClass (cls mode : Byte) (retention releases : Half) (s : State) : State × Answer :=
  match EgressMode.ofByte mode with
  | none => s.refuse .malformed
  | some m =>
    let e := storedEgress cls.toNat m retention.toNat releases.toNat
    { s with sp := { s.sp with egress := s.sp.egress.set (byteIndex cls) e } }.ok e.vals

/-- READ EGRESS CLASS (R122). -/
def cmdReadEgressClass (cls : Byte) (s : State) : State × Answer := s.ok s.sp.egress[byteIndex cls].vals

/-! ### Key Table -/

/-- DISCARD KEY (R144). -/
def cmdDiscardKey (slot : Byte) (generation : Half) (s : State) : State × Answer :=
  match indexOf 64 slot with
  | none => s.refuse .noEntry
  | some k =>
    let x := s.key k
    if x.generation ≠ generation then s.refuse .noEntry
    else
      match x.state with
      | .free => s.refuse .noEntry
      | .erasing => s.ok []
      | .active => s.refuse .busy
      | .retained => if x.naming.isSome then s.refuse .busy else (enterErasing s k .discarded).ok []

/-- The values of a slot record but the keys, in the order of its field table; releases remaining is a count of section 12.1
(R148, R182, log entry 50). -/
def KeySlot.vals (x : KeySlot) : List Val :=
  [.u8 x.state.code, .u16 x.generation.toNat, .u32 x.owner, .u32 x.created, .opt 4 x.expiry, .u16 x.releases,
   .flag x.persisted, .opt 1 (x.naming.map Fin.val), .opt 1 (x.cause.map EraseCause.code), .u8 x.rowRequest.code]

/-- READ KEY SLOT (R148). -/
def cmdReadKeySlot (slot : Byte) (s : State) : State × Answer :=
  match indexOf 64 slot with
  | none => s.refuse .noEntry
  | some k => s.ok (s.key k).vals

end Sys2Proof.Machine
end

