-- ==== Sys2Proof/Machine/CommandUnit.lean ====
section
/-! DEFINITION. The downstream half of the controller link and the Command Unit (R2, R3, R173, R174, R179, R183): frames taken,
commands carried out one at a time, replies sent. -/

namespace Sys2Proof.Machine

/-- A command goes to its owning block (section 11.3). -/
def runCommand (c : Command) (s : State) : State × Answer :=
  match c with
  | .openJob a => cmdOpenJob a s
  | .resumeJob h => cmdResumeJob h s
  | .closeJob h => cmdCloseJob h s
  | .cancelJob h => cmdCancelJob h s
  | .readJob h => cmdReadJob h s
  | .loadTariff v f => cmdLoadTariff v f s
  | .readTariff => cmdReadTariff s
  | .adjustQuota i q => cmdAdjustQuota i q s
  | .loadAccount a => cmdLoadAccount a s
  | .unloadAccount i => cmdUnloadAccount i s
  | .setAccountState i t => cmdSetAccountState i t s
  | .readAccount i => cmdReadAccount i s
  | .openSession i => cmdOpenSession i s
  | .touchSession => cmdTouchSession s
  | .closeSession => cmdCloseSession s
  | .readSession => cmdReadSession s
  | .loadToneTable p w g => cmdLoadToneTable p w g s
  | .setSpotThreshold t => cmdSetSpotThreshold t s
  | .readToneTable p => cmdReadToneTable p s
  | .readPageMeter => cmdReadPageMeter s
  | .setNoticeMask m => cmdSetNoticeMask m s
  | .resetPath => cmdResetPath s
  | .readTracker => cmdReadTracker s
  | .readEntry p => cmdReadEntry p s
  | .recheckCartridge c => cmdRecheckCartridge c s
  | .setCartridgePolicy p m n => cmdSetCartridgePolicy p m n s
  | .readCartridge c => cmdReadCartridge c s
  | .readHistory p => cmdReadHistory p s
  | .loadEgressClass c m r n => cmdLoadEgressClass c m r n s
  | .readEgressClass c => cmdReadEgressClass c s
  | .discardKey k g => cmdDiscardKey k g s
  | .readKeySlot k => cmdReadKeySlot k s
  | .flushMeters => cmdFlushMeters s
  | .saveSettings => cmdSaveSettings s
  | .lockMeters => cmdLockMeters s
  | .sanitize sc => cmdSanitize sc s
  | .readRow r => cmdReadRow r s
  | .setTime t => cmdSetTime t s
  | .readTime => cmdReadTime s
  | .setTrim t => cmdSetTrim t s
  | .setTimer c t p r => cmdSetTimer c t p r s
  | .readStatus => cmdReadStatus s
  | .clearStatus n => cmdClearStatus n s
  | .readIdentity => cmdReadIdentity s

/-- The state the Command Unit takes with an answer (R173). -/
def UnitState.after (kind tag : Byte) : Answer → UnitState
  | .reply code results => .replying ⟨kind, tag, code, results⟩
  | .long p => .working kind tag p

/-- The Command Unit takes on a state. -/
def State.setUnit (s : State) (u : UnitState) : State := { s with cu := { s.cu with state := u } }

/-- A well-formed command is carried out, its answer built, and a band the command has released examined again after its
last step (R17, R173). -/
def carryOut (tag : Byte) (c : Command) (s : State) : State :=
  let r := runCommand c s
  settleBand (r.1.setUnit (.after c.kind tag r.2))

/-- A frame that has become the command in progress (R173): one that forms no command is answered MALFORMED with no
effect. -/
def execute (f : CommandFrame) (s : State) : State :=
  match f.command with
  | none => s.setUnit (.replying ⟨f.kind, f.tag, .malformed, []⟩)
  | some c => carryOut f.tag c s

/-- The Command Unit, when IDLE, takes the head frame of the command queue (R173). -/
def takeNext (s : State) : State :=
  match s.cu.state, s.li.commandQueue with
  | .idle, f :: rest => execute f { s with li := { s.li with commandQueue := rest } }
  | _, _ => s

/-- The Link Interface gives readiness on the downstream half: the command queue has a free place, the band position is
empty and the path-reset line is low (R3, R179). -/
def linkOpen (s : State) : Bool := s.li.commandQueue.length < 4 && s.li.bandPosition.isNone && !s.li.pathLine

/-- A command frame is taken and enters the command queue (R2, R173). While readiness is withheld no frame is taken: it
waits at the controller (log entry 8). -/
def deliver (f : CommandFrame) (s : State) : State :=
  if linkOpen s then takeNext { s with li := { s.li with commandQueue := s.li.commandQueue ++ [f] } } else s

/-- A well-formed command arrives from the controller. -/
def deliverCommand (tag : Byte) (c : Command) (s : State) : State := deliver ⟨c.kind, tag, some c⟩ s

/-- The command frame in the body of a downstream frame, its frame kind byte left out (R173, R183): a body too short to hold
kind and tag is a command whose kind names none, with tag 0 (log entry 23). -/
def readCommandFrame : List Byte → CommandFrame
  | kind :: tag :: args => ⟨kind, tag, decodeCommand kind args⟩
  | [kind] => ⟨kind, 0, none⟩
  | [] => ⟨0, 0, none⟩

/-- Bytes arrive on the downstream half of the controller link (R2, R3, R183): discarded as a link error, or taken as a
command frame or a band frame. -/
def downstreamFrame (frame : List Byte) (s : State) : State :=
  if linkOpen s then
    match checkFrame frame with
    | some (k :: body) =>
      if k = 0x01#8 then deliver (readCommandFrame body) s
      else if k = 0x02#8 then
        match parseBand (fun h => (s.job h).kind == .release) (k :: body) with
        | some b => examine s b
        | none => s.linkError .controller
      else s.linkError .controller
    | _ => s.linkError .controller
  else s

/-- The link finishes sending a reply: the Command Unit becomes IDLE and takes the next frame; the command queue has been
emptied where the reply was that of an accepted RESET PATH (R173, R179). -/
def replySent (s : State) : State :=
  match s.li.sending with
  | some (.reply r) =>
    let s1 := { s with li := { s.li with sending := none } }.emitUpstream (encodeReply r)
    let s2 :=
      if r.kind = Command.resetPath.kind ∧ r.code = .ok then { s1 with li := { s1.li with commandQueue := [] } } else s1
    takeNext (s2.setUnit .idle)
  | _ => s

/-- The Command Unit at a rise of the path-reset line (R179): a reply not yet begun on the link is discarded, that of a RESET
PATH too (log entry 43). -/
def dropUnsentReply (s : State) : State :=
  match s.cu.state, s.li.sending with
  | .replying _, some (.reply _) => s
  | .replying _, _ => s.setUnit .idle
  | _, _ => s

/-- The path-reset line rises (R179): one path reset, the command queue emptied at once. -/
def pathLineRise (s : State) : State :=
  if s.li.pathLine then s
  else
    let s1 := pathReset { s with li := { s.li with pathLine := true } }
    dropUnsentReply { s1 with li := { s1.li with commandQueue := [] } }

/-- The path-reset line falls (R179): the links are given readiness again under their own rules. -/
def pathLineFall (s : State) : State := { s with li := { s.li with pathLine := false } }

end Sys2Proof.Machine
end

