-- ==== Sys2Proof/Machine/CommandRows.lean ====
section
/-! DEFINITION. The meanings of the controller's forty-four commands: the command arrives as a command frame with its tag (section
12.2), enters the command queue, and is carried out when the Command Unit takes it (R3, R173; log entry 8). -/

namespace Sys2Proof.Machine

/-- OPEN JOB (R25 to R27). -/
def execOpenJob (tag : Byte) (a : OpenJobArgs) (s : State) : Host.Outcome State Fault Refusal := .next (deliverCommand tag (.openJob a) s)

/-- RESUME JOB (R31). -/
def execResumeJob (tag : Byte) (handle : Byte) (s : State) : Host.Outcome State Fault Refusal := .next (deliverCommand tag (.resumeJob handle) s)

/-- CLOSE JOB (R32). -/
def execCloseJob (tag : Byte) (handle : Byte) (s : State) : Host.Outcome State Fault Refusal := .next (deliverCommand tag (.closeJob handle) s)

/-- CANCEL JOB (R33). -/
def execCancelJob (tag : Byte) (handle : Byte) (s : State) : Host.Outcome State Fault Refusal := .next (deliverCommand tag (.cancelJob handle) s)

/-- READ JOB (R39). -/
def execReadJob (tag : Byte) (handle : Byte) (s : State) : Host.Outcome State Fault Refusal := .next (deliverCommand tag (.readJob handle) s)

/-- LOAD TARIFF (R44). -/
def execLoadTariff (tag : Byte) (prices : Vector Half 7) (postscale : Byte) (s : State) : Host.Outcome State Fault Refusal := .next (deliverCommand tag (.loadTariff prices postscale) s)

/-- READ TARIFF (R44). -/
def execReadTariff (tag : Byte) (s : State) : Host.Outcome State Fault Refusal := .next (deliverCommand tag .readTariff s)

/-- ADJUST QUOTA (R52). -/
def execAdjustQuota (tag : Byte) (index : Byte) (quota : Word) (s : State) : Host.Outcome State Fault Refusal := .next (deliverCommand tag (.adjustQuota index quota) s)

/-- LOAD ACCOUNT (R53, R54). -/
def execLoadAccount (tag : Byte) (a : LoadAccountArgs) (s : State) : Host.Outcome State Fault Refusal := .next (deliverCommand tag (.loadAccount a) s)

/-- UNLOAD ACCOUNT (R55). -/
def execUnloadAccount (tag : Byte) (index : Byte) (s : State) : Host.Outcome State Fault Refusal := .next (deliverCommand tag (.unloadAccount index) s)

/-- SET ACCOUNT STATE (R56). -/
def execSetAccountState (tag : Byte) (index state : Byte) (s : State) : Host.Outcome State Fault Refusal := .next (deliverCommand tag (.setAccountState index state) s)

/-- READ ACCOUNT (R57). -/
def execReadAccount (tag : Byte) (index : Byte) (s : State) : Host.Outcome State Fault Refusal := .next (deliverCommand tag (.readAccount index) s)

/-- OPEN SESSION (R59). -/
def execOpenSession (tag : Byte) (index : Byte) (s : State) : Host.Outcome State Fault Refusal := .next (deliverCommand tag (.openSession index) s)

/-- TOUCH SESSION (R60). -/
def execTouchSession (tag : Byte) (s : State) : Host.Outcome State Fault Refusal := .next (deliverCommand tag .touchSession s)

/-- CLOSE SESSION (R61). -/
def execCloseSession (tag : Byte) (s : State) : Host.Outcome State Fault Refusal := .next (deliverCommand tag .closeSession s)

/-- READ SESSION (R63). -/
def execReadSession (tag : Byte) (s : State) : Host.Outcome State Fault Refusal := .next (deliverCommand tag .readSession s)

/-- LOAD TONE TABLE (R65). -/
def execLoadToneTable (tag : Byte) (plane : Byte) (weights : Vector Half 17) (gain : Half) (s : State) : Host.Outcome State Fault Refusal := .next (deliverCommand tag (.loadToneTable plane weights gain) s)

/-- SET SPOT THRESHOLD (R66). -/
def execSetSpotThreshold (tag : Byte) (threshold : Half) (s : State) : Host.Outcome State Fault Refusal := .next (deliverCommand tag (.setSpotThreshold threshold) s)

/-- READ TONE TABLE (R67). -/
def execReadToneTable (tag : Byte) (plane : Byte) (s : State) : Host.Outcome State Fault Refusal := .next (deliverCommand tag (.readToneTable plane) s)

/-- READ PAGE METER (R77). -/
def execReadPageMeter (tag : Byte) (s : State) : Host.Outcome State Fault Refusal := .next (deliverCommand tag .readPageMeter s)

/-- READ TRACKER (R92). -/
def execReadTracker (tag : Byte) (s : State) : Host.Outcome State Fault Refusal := .next (deliverCommand tag .readTracker s)

/-- READ ENTRY (R93). -/
def execReadEntry (tag : Byte) (position : Byte) (s : State) : Host.Outcome State Fault Refusal := .next (deliverCommand tag (.readEntry position) s)

/-- RECHECK CARTRIDGE (R109). -/
def execRecheckCartridge (tag : Byte) (slot : Byte) (s : State) : Host.Outcome State Fault Refusal := .next (deliverCommand tag (.recheckCartridge slot) s)

/-- SET CARTRIDGE POLICY (R115). -/
def execSetCartridgePolicy (tag : Byte) (policy : Byte) (lowMark : Half) (step : Word) (s : State) : Host.Outcome State Fault Refusal := .next (deliverCommand tag (.setCartridgePolicy policy lowMark step) s)

/-- READ CARTRIDGE (R118). -/
def execReadCartridge (tag : Byte) (slot : Byte) (s : State) : Host.Outcome State Fault Refusal := .next (deliverCommand tag (.readCartridge slot) s)

/-- READ HISTORY (R117). -/
def execReadHistory (tag : Byte) (position : Byte) (s : State) : Host.Outcome State Fault Refusal := .next (deliverCommand tag (.readHistory position) s)

/-- LOAD EGRESS CLASS (R122). -/
def execLoadEgressClass (tag : Byte) (cls mode : Byte) (retention releases : Half) (s : State) : Host.Outcome State Fault Refusal := .next (deliverCommand tag (.loadEgressClass cls mode retention releases) s)

/-- READ EGRESS CLASS (R122). -/
def execReadEgressClass (tag : Byte) (cls : Byte) (s : State) : Host.Outcome State Fault Refusal := .next (deliverCommand tag (.readEgressClass cls) s)

/-- DISCARD KEY (R144). -/
def execDiscardKey (tag : Byte) (slot : Byte) (generation : Half) (s : State) : Host.Outcome State Fault Refusal := .next (deliverCommand tag (.discardKey slot generation) s)

/-- READ KEY SLOT (R148). -/
def execReadKeySlot (tag : Byte) (slot : Byte) (s : State) : Host.Outcome State Fault Refusal := .next (deliverCommand tag (.readKeySlot slot) s)

/-- FLUSH METERS (R157). -/
def execFlushMeters (tag : Byte) (s : State) : Host.Outcome State Fault Refusal := .next (deliverCommand tag .flushMeters s)

/-- SAVE SETTINGS (R158). -/
def execSaveSettings (tag : Byte) (s : State) : Host.Outcome State Fault Refusal := .next (deliverCommand tag .saveSettings s)

/-- LOCK METERS (R159). -/
def execLockMeters (tag : Byte) (s : State) : Host.Outcome State Fault Refusal := .next (deliverCommand tag .lockMeters s)

/-- SANITIZE (R160). -/
def execSanitize (tag : Byte) (scope : Byte) (s : State) : Host.Outcome State Fault Refusal := .next (deliverCommand tag (.sanitize scope) s)

/-- READ ROW (R161). -/
def execReadRow (tag : Byte) (row : Half) (s : State) : Host.Outcome State Fault Refusal := .next (deliverCommand tag (.readRow row) s)

/-- SET TIME (R166). -/
def execSetTime (tag : Byte) (seconds : Word) (s : State) : Host.Outcome State Fault Refusal := .next (deliverCommand tag (.setTime seconds) s)

/-- READ TIME (R167). -/
def execReadTime (tag : Byte) (s : State) : Host.Outcome State Fault Refusal := .next (deliverCommand tag .readTime s)

/-- SET TRIM (R164). -/
def execSetTrim (tag : Byte) (trim : Half) (s : State) : Host.Outcome State Fault Refusal := .next (deliverCommand tag (.setTrim trim) s)

/-- SET TIMER (R169). -/
def execSetTimer (tag : Byte) (channel tap : Byte) (period : Half) (run : Byte) (s : State) : Host.Outcome State Fault Refusal := .next (deliverCommand tag (.setTimer channel tap period run) s)

/-- READ STATUS (R175). -/
def execReadStatus (tag : Byte) (s : State) : Host.Outcome State Fault Refusal := .next (deliverCommand tag .readStatus s)

/-- CLEAR STATUS (R176). -/
def execClearStatus (tag : Byte) (named : Half) (s : State) : Host.Outcome State Fault Refusal := .next (deliverCommand tag (.clearStatus named) s)

/-- SET NOTICE MASK (R177). -/
def execSetNoticeMask (tag : Byte) (mask : Half) (s : State) : Host.Outcome State Fault Refusal := .next (deliverCommand tag (.setNoticeMask mask) s)

/-- RESET PATH (R179). -/
def execResetPath (tag : Byte) (s : State) : Host.Outcome State Fault Refusal := .next (deliverCommand tag .resetPath s)

/-- READ IDENTITY (R180). -/
def execReadIdentity (tag : Byte) (s : State) : Host.Outcome State Fault Refusal := .next (deliverCommand tag .readIdentity s)

end Sys2Proof.Machine
end

