-- ==== Sys2Proof/Machine/StoreEvents.lean ====
section
/-! DEFINITION. The completion of a store write (R155, R156): the read-back, the reports to the owners, the end of a long command
and the next start. -/

namespace Sys2Proof.Machine

/-- The reply of a long command is built and the Command Unit becomes REPLYING (R173). -/
def replyLong (s : State) (results : List Val) : State :=
  match s.cu.state with
  | .working kind tag _ => { s with cu := { s.cu with state := .replying ⟨kind, tag, .ok, results⟩ } }
  | _ => s

/-- A row operation the long command counts has ended (R157, R158). -/
def countRow (s : State) (completed : Bool) : State :=
  match s.cu.state with
  | .working kind tag (.rows n c d) =>
    let c := if completed then c + 1 else c
    let d := if completed then d else d + 1
    if n ≤ 1 then replyLong s [.u16 c, .u16 d]
    else { s with cu := { s.cu with state := .working kind tag (.rows (n - 1) c d) } }
  | _ => s

/-- The owner of a row is told that its commit or erase has completed or was dropped (R155, R146). -/
def reportRow (s : State) (q : StoreRequest) (completed : Bool) : State :=
  match q with
  | .commit r g =>
    match rowOwner r with
    | .key k => keyReport s k g false completed
    | .account i => if completed then s else s.modAccount i fun a => { a with dirty := true }
    | .history p =>
      if completed then s else { s with tu := { s.tu with ringDirty := s.tu.ringDirty.set p true } }
    | .settings k => if !completed && k == 0 then { s with ms := { s.ms with lockUnsaved := true } } else s
    | _ => s
  | .erase r g =>
    match rowOwner r with
    | .key k => keyReport s k g true completed
    | _ => s
  | .region _ => s

/-- An operation ends: its owner and the long command are told, and the next starts (R155). -/
def endRowOp (s : State) (op : StoreOp) (completed : Bool) : State :=
  let s1 := reportRow { s with ms := { s.ms with op := none } } op.request completed
  startIfReady (if op.own then countRow s1 completed else s1)

/-- STORE FAULT for a row, in 2 bytes (log entry 41), and a kind of operation (R155, R156). -/
def storeFault (s : State) (op : StoreOp) : State := s.raise .storeFault [.u16 op.row, .u8 op.request.code]

/-- A region erase has written its last row (R156, R147, R160). -/
def endRegion (s : State) (g : Region) (failed : Nat) : State :=
  let s1 := { s with ms := { s.ms with op := none } }
  let s2 := match g with | .accounts => s1 | _ => keyRegionErased s1
  startIfReady (replyLong s2 [.u16 failed])

/-- A region erase goes on with its next row, or ends (R156). -/
def nextRegionRow (s : State) (op : StoreOp) (g : Region) (failed : Nat) : State :=
  if h : op.row.val < g.last.val then
    { s with ms := { s.ms with
        op := some { op with row := ⟨op.row.val + 1, by omega⟩, attempt := 1, failed := failed }, latches := erasedRow } }
  else endRegion s g failed

/-- The write of the latches completes with what the array retained of it (R155, R156). -/
def writeComplete (s : State) (retained : Option (List Byte)) : State :=
  match s.ms.op with
  | none => s
  | some op =>
    let image := retained.getD s.ms.latches
    let s1 := { s with ms := { s.ms with memory := s.ms.memory.writeRow op.row image } }
    if image = s.ms.latches then
      match op.request with
      | .region g => nextRegionRow s1 op g op.failed
      | _ => endRowOp s1 op true
    else if op.attempt = 1 then { s1 with ms := { s1.ms with op := some { op with attempt := 2 } } }
    else
      match op.request with
      | .region g => nextRegionRow (storeFault s1 op) op g (op.failed + 1)
      | _ => endRowOp (storeFault s1 op) op false

end Sys2Proof.Machine
end

