-- ==== Sys2Proof/Machine/Time.lean ====
section
/-! DEFINITION. The Time Base (chapter 10): reference steps, ticks and their taps, channel counts and expiries. -/

namespace Sys2Proof.Machine

/-- Every channel, in order. -/
def channels : List (Fin 4) := List.finRange 4

/-- The owner of a channel takes its expiry (section 10.3). -/
def ownerExpiry (s : State) (c : Fin 4) : State :=
  match c with
  | 0 => sessionExpiry s
  | 1 => keySweep s
  | 2 => meterFlush s
  | 3 => recheckExpiry s

/-- The channel's own step at its expiry: the end of a pending stop, else by its kind (R168, R170). -/
def Channel.afterExpiry (x : Channel) (oneShot : Bool) : Channel :=
  if x.stopPending || oneShot then x.halt else { x.applyStaged with count := 0 }

/-- A channel expires: the owner acts, then the channel (R168). -/
def expireChannel (s : State) (c : Fin 4) : State :=
  let s1 := ownerExpiry s c
  s1.setChannel c ((s1.channel c).afterExpiry (c == 0))

/-- One tick of its tap at a channel (R168, R170). -/
def tickChannel (s : State) (c : Fin 4) : State :=
  let x := s.channel c
  if !x.running then s
  else if x.count + 1 = x.period then expireChannel (s.setChannel c { x with count := x.count + 1 }) c
  else if x.stopPending then s.setChannel c x.halt
  else s.setChannel c { x with count := x.count + 1 }

/-- The expiry of a running channel, taken as a command: its count reaches its period (R168). A channel that does not run
ignores it. -/
def channelExpiry (s : State) (c : Fin 4) : State :=
  let x := s.channel c
  if x.running then expireChannel (s.setChannel c { x with count := x.period }) c else s

/-- The time counts after one tick (R165). -/
def TimeBase.tick (t : TimeBase) : TimeBase :=
  if t.subSecond + 1 < 1024 then { t with subSecond := t.subSecond + 1 }
  else
    { t with subSecond := 0, seconds := satAdd max32 t.seconds 1,
             minute := if t.minute + 1 < 60 then t.minute + 1 else 0 }

/-- The taps that tick with a tick that leaves these counts (R165). -/
def Tap.ticks (t : TimeBase) : Tap → Bool
  | .t1024 => true
  | .t32 => t.subSecond % 32 == 0
  | .t1 => t.subSecond == 0
  | .t60 => t.subSecond == 0 && t.minute == 0

/-- One tick (R165): the time counts, then the consumers of each tap that ticks. The order among consumers of different
state, the rising order of the slots within each among them, is the model's (log entry 9), and so is that they see the counts as the tick leaves them (log entry 42). -/
def tick (presence : Vector Bool 4) (s : State) : State :=
  let t := s.tb.tick
  let s1 := slots.foldl tickExchange { s with tb := t }
  let s2 :=
    if Tap.ticks t .t32 then
      tickStall (slots.foldl (fun s c => samplePresence s c presence[c]) (slots.foldl beginCheck s1))
    else s1
  channels.foldl (fun s c => if Tap.ticks t (s.channel c).tap then tickChannel s c else s) s2

/-- `n` ticks, each taken on its own in order (R164). -/
def ticks (presence : Vector Bool 4) : Nat → State → State
  | 0, s => s
  | n + 1, s => ticks presence n (tick presence s)

/-- The unit of the accumulator: 2^20 (R164). -/
def tickUnit : Nat := 1048576

/-- One reference step (R164). -/
def referenceStep (s : State) (presence : Vector Bool 4) : State :=
  let a := s.tb.accumulator + ((tickUnit : Int) + s.tb.trim).toNat
  ticks presence (a / tickUnit) { s with tb := { s.tb with accumulator := a % tickUnit } }

end Sys2Proof.Machine
end

