-- ==== Sys2Proof/Machine/Events.lean ====
section
/-! DEFINITION. The meanings of the event rows: what arrives on the links and lines, what the link has finished sending, the
reference step, and the events inside the part taken as steps of their own (log entry 7). -/

namespace Sys2Proof.Machine

/-! ### Answers on the cartridge lines (R103, R104) -/

/-- The write count of an answer is recorded (R104). -/
def recordWriteCount (s : State) (c : Fin 4) (n : Half) : State := s.modSlot c fun x => { x with writeCount := n.toNat }

/-- A good answer arrives on a line (R103): the step of the sequence that sent the request goes on; an answer that does not
match the request in progress, or finds none, is discarded. A tag frame names no exchange, so an answer to one that has ended is
taken for a new one of the same kind (log entry 40). -/
def takeAnswer (s : State) (c : Fin 4) (a : TagAnswer) : State :=
  match (s.slot c).exchange, a with
  | some ⟨.identify, _, _⟩, .identify serial colorant model rated => takeIdentify s c serial ⟨colorant, model⟩ rated.toNat
  | some ⟨.challenge nonce, seq, _⟩, .challenge response => takeChallenge s c nonce response seq
  | some ⟨.readRation, .check, _⟩, .readRation r n => finishCheck (recordWriteCount s c n) c r.toNat
  | some ⟨.readRation, _, _⟩, .readRation r n => finishRecheck (recordWriteCount s c n) c r.toNat
  | some ⟨.writeRation _, _, _⟩, .writeRation r n => takeWrite (recordWriteCount s c n) c r.toNat
  | _, _ => s

/-- Bytes arrive on a cartridge line (R103): a good answer, or nothing. -/
def tagBytes (s : State) (c : Fin 4) (frame : List Byte) : State :=
  match decodeTagAnswer frame with
  | some a => takeAnswer s c a
  | none => s

/-! ### Lines -/

/-- A debounced rise as a step of its own (R100): the debounced level is low. -/
def riseEvent (s : State) (c : Fin 4) : State :=
  if (s.slot c).level then s else debouncedRise (s.modSlot c fun x => { x with sample := true }) c

/-- A debounced fall as a step of its own (R101): the debounced level is high. -/
def fallEvent (s : State) (c : Fin 4) : State :=
  if (s.slot c).level then debouncedFall (s.modSlot c fun x => { x with sample := false }) c else s

/-- The power-warning line takes a level (R162): at its fall the next operation starts. -/
def setWarning (s : State) (level : Bool) : State :=
  let s1 := { s with ms := { s.ms with warning := level } }
  if level then s1 else startIfReady s1

/-! ### The meanings -/

/-- POWER ON RESET (R151, R152). -/
def execPowerOnReset (s : State) : Host.Outcome State Fault Refusal := .next (powerOn s)

/-- COMMAND FRAME RECEIVED (R2, R3, R173, R183). -/
def execCommandFrameReceived (frame : List Byte) (s : State) : Host.Outcome State Fault Refusal := .next (downstreamFrame frame s)

/-- BAND FRAME RECEIVED (R2 to R17, R183). -/
def execBandFrameReceived (frame : List Byte) (s : State) : Host.Outcome State Fault Refusal := .next (downstreamFrame frame s)

/-- BAND REEXAMINED (R3): the band that waits, once its cause has ended. -/
def execBandReexamined (s : State) : Host.Outcome State Fault Refusal := .next (settleBand s)

/-- STALL EXPIRY (R19). -/
def execStallExpiry (s : State) : Host.Outcome State Fault Refusal := .next (stallExpiry s)

/-- ENGINE READY LINE (R20). -/
def execEngineReadyLine (level : Bool) (s : State) : Host.Outcome State Fault Refusal := .next (setReadyLine s level)

/-- PENDING VOID SEND (R20). -/
def execPendingVoidSend (s : State) : Host.Outcome State Fault Refusal := .next (sendPendingVoid s)

/-- PATH CLEAR SEND (R95). -/
def execPathClearSend (s : State) : Host.Outcome State Fault Refusal := .next (sendPathClear s)

/-- SHEET EXIT (R83 to R87, R90). -/
def execSheetExit (job : Byte) (page : Half) (count : Byte) (s : State) : Host.Outcome State Fault Refusal := .next (sheetExit s job page count)

/-- SHEET JAM (R83, R88, R90). -/
def execSheetJam (lost developed : Byte) (s : State) : Host.Outcome State Fault Refusal := .next (sheetJam s lost developed)

/-- PATH PURGE (R89, R90). -/
def execPathPurge (s : State) : Host.Outcome State Fault Refusal := .next (pathPurge s)

/-- DRAIN COMPLETION (R34, R35): tested for the job. -/
def execDrainCompletion (job : Fin 16) (s : State) : Host.Outcome State Fault Refusal := .next (drainTest s job)

/-- SCANNER PAGE BEGIN (R121, R124). -/
def execScannerPageBegin (page : Half) (s : State) : Host.Outcome State Fault Refusal := .next (scannerFrame s (.pageBegin page))

/-- SCANNER BAND (R121, R125, R126). -/
def execScannerBand (band : ScannerBand) (s : State) : Host.Outcome State Fault Refusal := .next (scannerFrame s (.band band))

/-- SCANNER PAGE END (R121, R127). -/
def execScannerPageEnd (s : State) : Host.Outcome State Fault Refusal := .next (scannerFrame s .pageEnd)

/-- SCAN PAGE COMPLETION (R127): of an ENDED page whose frames have all left. -/
def execScanPageCompletion (s : State) : Host.Outcome State Fault Refusal := .next (completeScanPage s)

/-- UPSTREAM FRAME BEGIN (R132, R133). -/
def execUpstreamFrameBegin (s : State) : Host.Outcome State Fault Refusal := .next (upstreamBegin s)

/-- REPLY SENT (R173, R179). -/
def execReplySent (s : State) : Host.Outcome State Fault Refusal := .next (replySent s)

/-- NOTICE SENT (R178). -/
def execNoticeSent (s : State) : Host.Outcome State Fault Refusal := .next (noticeSent s)

/-- SCAN FRAME SENT (R127, R131). -/
def execScanFrameSent (s : State) : Host.Outcome State Fault Refusal := .next (scanFrameSent s)

/-- REFERENCE STEP (R164, R165). -/
def execReferenceStep (presence : Vector Bool 4) (s : State) : Host.Outcome State Fault Refusal := .next (referenceStep s presence)

/-- CHANNEL EXPIRY (R168). -/
def execChannelExpiry (channel : Fin 4) (s : State) : Host.Outcome State Fault Refusal := .next (channelExpiry s channel)

/-- DEBOUNCED RISE (R100). -/
def execDebouncedRise (slot : Fin 4) (s : State) : Host.Outcome State Fault Refusal := .next (riseEvent s slot)

/-- DEBOUNCED FALL (R101). -/
def execDebouncedFall (slot : Fin 4) (s : State) : Host.Outcome State Fault Refusal := .next (fallEvent s slot)

/-- FULL CHECK START (R100, R106). -/
def execFullCheckStart (slot : Fin 4) (s : State) : Host.Outcome State Fault Refusal := .next (beginCheck s slot)

/-- IDENTIFY ANSWER (R106, R107). -/
def execIdentifyAnswer (slot : Fin 4) (serial : Dword) (colorant : Byte) (model : Half) (ratedYield : Word) (s : State) : Host.Outcome State Fault Refusal := .next (takeAnswer s slot (.identify serial colorant model ratedYield))

/-- CHALLENGE ANSWER (R106, R108). -/
def execChallengeAnswer (slot : Fin 4) (response : Dword) (s : State) : Host.Outcome State Fault Refusal := .next (takeAnswer s slot (.challenge response))

/-- READ RATION ANSWER (R106 to R108). -/
def execReadRationAnswer (slot : Fin 4) (ration : Word) (writeCount : Half) (s : State) : Host.Outcome State Fault Refusal := .next (takeAnswer s slot (.readRation ration writeCount))

/-- WRITE RATION ANSWER (R111). -/
def execWriteRationAnswer (slot : Fin 4) (ration : Word) (writeCount : Half) (s : State) : Host.Outcome State Fault Refusal := .next (takeAnswer s slot (.writeRation ration writeCount))

/-- EXCHANGE LIMIT (R103). -/
def execExchangeLimit (slot : Fin 4) (s : State) : Host.Outcome State Fault Refusal := .next (exchangeLimit s slot)

/-- SERVE WAITING WORK (R105). -/
def execServeWaitingWork (slot : Fin 4) (s : State) : Host.Outcome State Fault Refusal := .next (serveLine s slot)

/-- STORE OPERATION START (R154). -/
def execStoreOperationStart (s : State) : Host.Outcome State Fault Refusal := .next (startIfReady s)

/-- STORE WRITE COMPLETE (R155, R156). -/
def execStoreWriteComplete (retained : Option (List Byte)) (s : State) : Host.Outcome State Fault Refusal := .next (writeComplete s retained)

/-- POWER WARNING RISE (R162). -/
def execPowerWarningRise (s : State) : Host.Outcome State Fault Refusal := .next (setWarning s true)

/-- POWER WARNING FALL (R162). -/
def execPowerWarningFall (s : State) : Host.Outcome State Fault Refusal := .next (setWarning s false)

/-- PATH RESET LINE (R179). -/
def execPathResetLine (s : State) : Host.Outcome State Fault Refusal := .next (pathLineRise s)

/-- PATH RESET LINE FALL (R179). -/
def execPathResetLineFall (s : State) : Host.Outcome State Fault Refusal := .next (pathLineFall s)

/-- ENGINE REPORT DISCARD (R21, R183): bytes that form a good report are taken as that report (log entry 30). -/
def execEngineReportDiscard (frame : List Byte) (s : State) : Host.Outcome State Fault Refusal := .next (engineBytes s frame)

/-- SCANNER FRAME DISCARD (R121, R183): bytes that form a good frame are taken as that frame (log entry 30). -/
def execScannerFrameDiscard (frame : List Byte) (s : State) : Host.Outcome State Fault Refusal := .next (scannerBytes s frame)

/-- TAG ANSWER DISCARD (R103): bytes that form a good answer are taken as that answer (log entry 30). -/
def execTagAnswerDiscard (slot : Fin 4) (frame : List Byte) (s : State) : Host.Outcome State Fault Refusal := .next (tagBytes s slot frame)

end Sys2Proof.Machine
end

