-- ==== Sys2Proof/Machine/Dispatch.lean ====
section
/-! DEFINITION. The meaning of each command, by its row of the opcode table. -/

namespace Sys2Proof.Machine

def exec (i : Instr) (s : State) : Host.Outcome State Fault Refusal :=
  match i with
  | .powerOnReset => Sys2Proof.Machine.execPowerOnReset s
  | .commandFrameReceived frame => Sys2Proof.Machine.execCommandFrameReceived frame s
  | .bandFrameReceived frame => Sys2Proof.Machine.execBandFrameReceived frame s
  | .bandReexamined => Sys2Proof.Machine.execBandReexamined s
  | .stallExpiry => Sys2Proof.Machine.execStallExpiry s
  | .engineReadyLine level => Sys2Proof.Machine.execEngineReadyLine level s
  | .pendingVoidSend => Sys2Proof.Machine.execPendingVoidSend s
  | .pathClearSend => Sys2Proof.Machine.execPathClearSend s
  | .sheetExit job page count => Sys2Proof.Machine.execSheetExit job page count s
  | .sheetJam lost developed => Sys2Proof.Machine.execSheetJam lost developed s
  | .pathPurge => Sys2Proof.Machine.execPathPurge s
  | .drainCompletion job => Sys2Proof.Machine.execDrainCompletion job s
  | .scannerPageBegin page => Sys2Proof.Machine.execScannerPageBegin page s
  | .scannerBand band => Sys2Proof.Machine.execScannerBand band s
  | .scannerPageEnd => Sys2Proof.Machine.execScannerPageEnd s
  | .scanPageCompletion => Sys2Proof.Machine.execScanPageCompletion s
  | .upstreamFrameBegin => Sys2Proof.Machine.execUpstreamFrameBegin s
  | .replySent => Sys2Proof.Machine.execReplySent s
  | .noticeSent => Sys2Proof.Machine.execNoticeSent s
  | .scanFrameSent => Sys2Proof.Machine.execScanFrameSent s
  | .referenceStep presence => Sys2Proof.Machine.execReferenceStep presence s
  | .channelExpiry channel => Sys2Proof.Machine.execChannelExpiry channel s
  | .debouncedRise slot => Sys2Proof.Machine.execDebouncedRise slot s
  | .debouncedFall slot => Sys2Proof.Machine.execDebouncedFall slot s
  | .fullCheckStart slot => Sys2Proof.Machine.execFullCheckStart slot s
  | .identifyAnswer slot serial colorant model ratedYield => Sys2Proof.Machine.execIdentifyAnswer slot serial colorant model ratedYield s
  | .challengeAnswer slot response => Sys2Proof.Machine.execChallengeAnswer slot response s
  | .readRationAnswer slot ration writeCount => Sys2Proof.Machine.execReadRationAnswer slot ration writeCount s
  | .writeRationAnswer slot ration writeCount => Sys2Proof.Machine.execWriteRationAnswer slot ration writeCount s
  | .exchangeLimit slot => Sys2Proof.Machine.execExchangeLimit slot s
  | .serveWaitingWork slot => Sys2Proof.Machine.execServeWaitingWork slot s
  | .storeOperationStart => Sys2Proof.Machine.execStoreOperationStart s
  | .storeWriteComplete retained => Sys2Proof.Machine.execStoreWriteComplete retained s
  | .powerWarningRise => Sys2Proof.Machine.execPowerWarningRise s
  | .powerWarningFall => Sys2Proof.Machine.execPowerWarningFall s
  | .pathResetLine => Sys2Proof.Machine.execPathResetLine s
  | .pathResetLineFall => Sys2Proof.Machine.execPathResetLineFall s
  | .openJob tag a => Sys2Proof.Machine.execOpenJob tag a s
  | .resumeJob tag handle => Sys2Proof.Machine.execResumeJob tag handle s
  | .closeJob tag handle => Sys2Proof.Machine.execCloseJob tag handle s
  | .cancelJob tag handle => Sys2Proof.Machine.execCancelJob tag handle s
  | .readJob tag handle => Sys2Proof.Machine.execReadJob tag handle s
  | .loadTariff tag prices postscale => Sys2Proof.Machine.execLoadTariff tag prices postscale s
  | .readTariff tag => Sys2Proof.Machine.execReadTariff tag s
  | .adjustQuota tag index quota => Sys2Proof.Machine.execAdjustQuota tag index quota s
  | .loadAccount tag a => Sys2Proof.Machine.execLoadAccount tag a s
  | .unloadAccount tag index => Sys2Proof.Machine.execUnloadAccount tag index s
  | .setAccountState tag index state => Sys2Proof.Machine.execSetAccountState tag index state s
  | .readAccount tag index => Sys2Proof.Machine.execReadAccount tag index s
  | .openSession tag index => Sys2Proof.Machine.execOpenSession tag index s
  | .touchSession tag => Sys2Proof.Machine.execTouchSession tag s
  | .closeSession tag => Sys2Proof.Machine.execCloseSession tag s
  | .readSession tag => Sys2Proof.Machine.execReadSession tag s
  | .loadToneTable tag plane weights gain => Sys2Proof.Machine.execLoadToneTable tag plane weights gain s
  | .setSpotThreshold tag threshold => Sys2Proof.Machine.execSetSpotThreshold tag threshold s
  | .readToneTable tag plane => Sys2Proof.Machine.execReadToneTable tag plane s
  | .readPageMeter tag => Sys2Proof.Machine.execReadPageMeter tag s
  | .readTracker tag => Sys2Proof.Machine.execReadTracker tag s
  | .readEntry tag position => Sys2Proof.Machine.execReadEntry tag position s
  | .recheckCartridge tag slot => Sys2Proof.Machine.execRecheckCartridge tag slot s
  | .setCartridgePolicy tag policy lowMark step => Sys2Proof.Machine.execSetCartridgePolicy tag policy lowMark step s
  | .readCartridge tag slot => Sys2Proof.Machine.execReadCartridge tag slot s
  | .readHistory tag position => Sys2Proof.Machine.execReadHistory tag position s
  | .loadEgressClass tag cls mode retention releases => Sys2Proof.Machine.execLoadEgressClass tag cls mode retention releases s
  | .readEgressClass tag cls => Sys2Proof.Machine.execReadEgressClass tag cls s
  | .discardKey tag slot generation => Sys2Proof.Machine.execDiscardKey tag slot generation s
  | .readKeySlot tag slot => Sys2Proof.Machine.execReadKeySlot tag slot s
  | .flushMeters tag => Sys2Proof.Machine.execFlushMeters tag s
  | .saveSettings tag => Sys2Proof.Machine.execSaveSettings tag s
  | .lockMeters tag => Sys2Proof.Machine.execLockMeters tag s
  | .sanitize tag scope => Sys2Proof.Machine.execSanitize tag scope s
  | .readRow tag row => Sys2Proof.Machine.execReadRow tag row s
  | .setTime tag seconds => Sys2Proof.Machine.execSetTime tag seconds s
  | .readTime tag => Sys2Proof.Machine.execReadTime tag s
  | .setTrim tag trim => Sys2Proof.Machine.execSetTrim tag trim s
  | .setTimer tag channel tap period run => Sys2Proof.Machine.execSetTimer tag channel tap period run s
  | .readStatus tag => Sys2Proof.Machine.execReadStatus tag s
  | .clearStatus tag named => Sys2Proof.Machine.execClearStatus tag named s
  | .setNoticeMask tag mask => Sys2Proof.Machine.execSetNoticeMask tag mask s
  | .resetPath tag => Sys2Proof.Machine.execResetPath tag s
  | .readIdentity tag => Sys2Proof.Machine.execReadIdentity tag s
  | .engineReportDiscard frame => Sys2Proof.Machine.execEngineReportDiscard frame s
  | .scannerFrameDiscard frame => Sys2Proof.Machine.execScannerFrameDiscard frame s
  | .tagAnswerDiscard slot frame => Sys2Proof.Machine.execTagAnswerDiscard slot frame s

end Sys2Proof.Machine
end

