-- ==== Sys2Proof/Safety.lean ====
section
/-! DEFINITION. What a safe state is, in the terms the statements use: the limits of the queues and tables, the laws the spec
states of its records, and the condition under which a command that arrives is carried out at once. -/

namespace Sys2Proof.Machine

/-- A command frame that arrives is taken and carried out at once: the Command Unit is IDLE, the command queue and the band
position are empty, and the path-reset line is low (R3, R173, R179). -/
abbrev Ready (s : State) : Prop :=
  s.cu.state = .idle ∧ s.li.commandQueue = [] ∧ s.li.bandPosition = none ∧ s.li.pathLine = false

/-- The state with a reply built: the Command Unit REPLYING, everything else as it stands (R173). -/
def State.answered (s : State) (kind tag : Byte) (code : ReplyCode) (results : List Val) : State :=
  s.setUnit (.replying ⟨kind, tag, code, results⟩)

/-- The state with the band position empty. -/
def State.bandTaken (s : State) : State := { s with li := { s.li with bandPosition := none } }

/-- The state once a history row has been written at the next-write position: the row is marked dirty, the position has
moved on and the commit of the row is requested (R116). -/
def State.recorded (s : State) (row : HistoryRow) : State :=
  let p := s.tu.ringNext
  (request { s with tu := { s.tu with
    ring := s.tu.ring.set p (some row), ringDirty := s.tu.ringDirty.set p true, ringNext := p + 1 } }
    (.commit (historyRow p) 0)).1

/-- A command row brings a band before the Print Path: it arrives in a band frame that passes R2, or it waits in the band
position and its cause of waiting has ended (R3). -/
abbrev Examines (i : Instr) (s : State) (b : Band) : Prop :=
  (∃ frame body, i = .bandFrameReceived frame ∧ linkOpen s = true ∧ checkFrame frame = some (0x02#8 :: body) ∧
      parseBand (fun h => (s.job h).kind == .release) (0x02#8 :: body) = some b) ∨
    ∃ r, i = .bandReexamined ∧ s.li.bandPosition = some ⟨b, r⟩ ∧ waitEnded s r = true

/-- Two account records agree but for the dirty flag, which the start of a commit clears (R48). -/
abbrev Account.sameMoney (a b : Account) : Prop := { a with dirty := b.dirty } = b

/-- The commit queue holds at most 16 requests and one more (R153): with a commit or an erase in flight the seventeenth
waits only where a request for the row being written does (log entry 35). -/
abbrev MeterStore.QueueLaw (m : MeterStore) : Prop :=
  m.queue.length ≤ 17 ∧
    ∀ r, m.writing = some r → m.queue.length = 17 → ∃ e ∈ m.queue, e.request.row? = some r

/-- The queues and tables hold at most what the spec gives them: 4 command frames (R173), 32 notices (R178), 8 scan frames
(R131), 24 tracker entries (R79), and the waiting store requests of R153. -/
abbrev Fits (s : State) : Prop :=
  s.li.commandQueue.length ≤ 4 ∧ s.status.notices.length ≤ 32 ∧ s.sp.buffer.length ≤ 8 ∧ s.st.entries.length ≤ 24 ∧
    s.ms.QueueLaw

/-- The time counts lie in their ranges and the trim within ±1,023 (section 10.1, R164, R165). -/
abbrev TimeInRange (s : State) : Prop :=
  s.tb.accumulator < 1048576 ∧ s.tb.subSecond < 1024 ∧ s.tb.minute < 60 ∧ -1023 ≤ s.tb.trim ∧ s.tb.trim ≤ 1023

/-- A channel never counts beyond its period, counts 0 while it is stopped, and every period is at least 1 (R168 to
R170). -/
abbrev Channel.InRange (c : Channel) : Prop :=
  c.count < c.period ∧ (c.running = false → c.count = 0 ∧ c.stopPending = false) ∧ ∀ x ∈ c.staged, 1 ≤ x.2

/-- The law of a verified slot (R111), with what it rests on: an exchange of a full check belongs to a CHECKING slot
(R106), and a slot whose debounced level is low is EMPTY and has no exchange in progress (R97, R101). -/
abbrev Cartridge.RationLaw (x : Cartridge) : Prop :=
  (x.state.verified = true → x.mirror ≤ x.confirmed ∧ x.confirmed ≤ x.ratedYield) ∧
    (∀ e ∈ x.exchange, (e.sequence = .check ∨ e.request = .identify) → x.state = .checking) ∧
    (x.level = false → x.state = .empty ∧ x.exchange = none)

/-- A residue is less than 2^28 (R73). -/
abbrev Cartridge.ResidueLaw (x : Cartridge) : Prop := x.residue < 268435456

/-- The reservations held against an account: its entries' and the scan page's in progress (R45). -/
def heldAgainst (s : State) (i : Fin 256) : Nat :=
  ((s.st.entries.filter fun e => e.account == i).map fun e => e.reserved).sum +
    match s.sp.page with
    | some p => if (s.job p.tag.job).account = i then p.reservation else 0
    | none => 0

/-- The ledger of an account (R45, R52): reserved is what is held against it, charged + reserved stays within the quota,
and an ABSENT record holds nothing. -/
abbrev AccountLaw (s : State) (i : Fin 256) : Prop :=
  (s.account i).reserved = heldAgainst s i ∧ (s.account i).charged + (s.account i).reserved ≤ (s.account i).quota ∧
    ((s.account i).state = .absent → (s.account i).quota = 0)

/-- The law of the Sheet Tracker (R79): within one job, page numbers strictly increase from head to tail. -/
abbrev EntriesRise (s : State) : Prop :=
  s.st.entries.Pairwise fun a b => a.tag.job = b.tag.job → a.tag.page < b.tag.page

/-- An entry's job is not FREE, and its page has been started (R6, R35). -/
abbrev EntryHeld (s : State) (e : Entry) : Prop :=
  (s.job e.tag.job).state ≠ .free ∧ ∃ n ∈ (s.job e.tag.job).lastPage, e.tag.page ≤ n

/-- A job that is not ACTIVE has no open page and no scan page in progress (R23), and the open page is its job's last
started page (R10). -/
abbrev PagesActive (s : State) : Prop :=
  (∀ p ∈ s.pp.openPage, (s.job p.tag.job).state = .active ∧ (s.job p.tag.job).lastPage = some p.tag.page) ∧
    ∀ p ∈ s.sp.page, (s.job p.tag.job).state = .active ∧ (s.job p.tag.job).kind = .scan

/-- A print page belongs to a PRINT or RELEASE job (R4, R23). -/
abbrev OpenPagePrints (s : State) : Prop := ∀ p ∈ s.pp.openPage, (s.job p.tag.job).kind ≠ .scan

/-- At most one entry is FORWARDING: the open page's (R80). -/
abbrev ForwardingOpen (s : State) : Prop :=
  ∀ e ∈ s.st.entries, e.status = .forwarding → ∃ p ∈ s.pp.openPage, p.tag = e.tag

/-- The laws of pages, entries and accounts together (R23, R35, R45, R52, R79, R80). -/
abbrev LedgerLaw (s : State) : Prop :=
  EntriesRise s ∧ (∀ e ∈ s.st.entries, EntryHeld s e) ∧ PagesActive s ∧ OpenPagePrints s ∧ ForwardingOpen s ∧
    ∀ i, AccountLaw s i

/-- The values OPEN JOB's enumerations name (R25): the size class is ignored for a SCAN job. -/
abbrev NamesValues (a : OpenJobArgs) : Prop := a.kind.toNat < 3 ∧ a.mode.toNat < 2 ∧ (a.kind = 2 ∨ a.size.toNat < 2)

/-- An egress window is enabled and holds a class (R58). -/
abbrev Window.Holds (w : Window) (c : Nat) : Prop := ¬(w.base = 0 ∧ w.limit = 0) ∧ w.base ≤ c ∧ c ≤ w.limit

/-- The conditions of R26 in the order of its table, with their reply codes. Kind 0 is PRINT, 1 RELEASE, 2 SCAN. -/
def openTable (s : State) (a : OpenJobArgs) : List (Prop × ReplyCode) :=
  let x := s.acct.records[a.account.toNat]'a.account.isLt
  let slot := s.kt[a.slot.toNat]?
  [(∀ h, (s.job h).state ≠ .free, .full),
   (x.state = .absent, .noEntry),
   (a.kind = 1 ∧ ∀ y ∈ slot, y.generation ≠ a.generation, .noEntry),
   (x.state = .suspended, .refused),
   ((a.mode = 1 ∧ x.privileges[0] = false) ∨ (a.kind = 2 ∧ x.privileges[1] = false) ∨
      (a.kind = 1 ∧ x.privileges[2] = false), .refused),
   (a.kind ≠ 0 ∧ ∀ y ∈ s.acct.session, y.account.val ≠ a.account.toNat, .refused),
   (a.kind = 2 ∧ ¬(a.dest = 0 ∨ x.window1.Holds a.dest.toNat ∨ x.window2.Holds a.dest.toNat), .refused),
   (a.kind = 1 ∧ ∃ y ∈ slot, y.state ≠ .retained ∨ y.owner ≠ x.id ∨ y.releases = 0 ∨ ∃ e ∈ y.expiry, e ≤ s.tb.seconds,
      .refused),
   (a.kind = 2 ∧ ∃ h, (s.job h).kind = .scan ∧ (s.job h).state ≠ .free, .busy),
   (a.kind = 1 ∧ ∃ y ∈ slot, y.naming ≠ none, .busy),
   (a.kind = 2 ∧ (s.sp.egress[a.dest.toNat]'a.dest.isLt).mode = .cipher ∧ ∀ k, (s.key k).state ≠ .free, .full)]

/-- The first condition of a table that holds gives the code. -/
def FirstHolds : List (Prop × ReplyCode) → ReplyCode → Prop
  | [], _ => False
  | (p, c) :: rest, code => (p ∧ c = code) ∨ (¬p ∧ FirstHolds rest code)

end Sys2Proof.Machine
end

