-- ==== Sys2Proof/Certificates/Slice0/Obligations.lean ====
section
/-! DEFINITION. The statements put to the provers. -/

open Sys2Proof Sys2Proof.Machine

/-! ### The queue of commands and the frames of the controller link -/

/-- A step carries out the command at the front of the queue with the rest of the queue left, and idles on an empty
one. The queue and the idling are the model's choice (log entry 10). -/
def Obligations.StepTakesFront : Prop :=
  ∀ s : State,
    (∀ c rest, s.pending = c :: rest → step s = exec c (s.withPending rest)) ∧ (s.pending = [] → step s = .next s)

/-- A kind byte and argument bytes form a command exactly when they are the command's kind and its arguments laid out at
the widths of R182: every argument value survives the frame, and no command has a second spelling. The widths that the
table of section 12.1 does not name are the model's reading (log entry 41), and so is the release count among the counts
it names (log entry 50). -/
def Obligations.CommandsDecodeExactly : Prop :=
  ∀ (kind : Byte) (args : List Byte) (c : Command),
    decodeCommand kind args = some c ↔ kind = c.kind ∧ args = encodeArguments c

/-- A command frame whose bytes carry a command is taken as that command while the link is open: it enters the command
queue, and is carried out at once where the Command Unit is IDLE; on a closed link it has no effect (log entry 8). A
frame that forms no command is answered MALFORMED, its kind byte and tag echoed, with no other effect; one of fewer than
3 bytes before its CRC with tag 0, and with kind 0 where it has no kind byte either (log entry 23). A command that
arrives while the Command Unit is not IDLE waits in the command queue while it has a free place; when the reply has
left, the unit is IDLE and the next is taken, but for a queue that an accepted RESET PATH empties. -/
def Obligations.CommandFramesTaken : Prop :=
  (∀ (s : State) (tag : Byte) (c : Command),
     exec (.commandFrameReceived (encodeCommandFrame tag c)) s =
       .next (if s.li.commandQueue.length < 4 ∧ s.li.bandPosition = none ∧ s.li.pathLine = false then
           takeNext { s with li := { s.li with commandQueue := s.li.commandQueue ++ [⟨c.kind, tag, some c⟩] } }
         else s)) ∧
  (∀ (s : State) (kind tag : Byte) (args : List Byte), Ready s → decodeCommand kind args = none →
     exec (.commandFrameReceived (frameOf (0x01#8 :: kind :: tag :: args))) s =
       .next (s.answered kind tag .malformed [])) ∧
  (∀ s : State, Ready s →
     (∀ kind : Byte, exec (.commandFrameReceived (frameOf [0x01#8, kind])) s = .next (s.answered kind 0 .malformed [])) ∧
     exec (.commandFrameReceived (frameOf [0x01#8])) s = .next (s.answered 0 0 .malformed [])) ∧
  ((∀ (s : State) (tag : Byte), s.cu.state ≠ .idle → linkOpen s = true →
     exec (.readStatus tag) s =
       .next { s with li := { s.li with commandQueue := s.li.commandQueue ++ [⟨42, tag, some .readStatus⟩] } }) ∧
   (∀ (s : State) (r : Reply), s.li.sending = some (.reply r) →
     exec .replySent s =
       .next (takeNext
         { s with
           cu := { s.cu with state := .idle }
           li := { s.li with
             sending := none
             commandQueue := if r.kind = 22 ∧ r.code = .ok then [] else s.li.commandQueue }
           upstreamOut := s.upstreamOut ++ [encodeReply r] })) ∧
   ∀ (s : State) (f : CommandFrame) (rest : List CommandFrame), s.li.commandQueue = f :: rest → s.cu.state = .idle →
     f.command = none →
     takeNext s = { s with
       li := { s.li with commandQueue := rest }
       cu := { s.cu with state := .replying ⟨f.kind, f.tag, .malformed, []⟩ } })

/-- A damaged or unknown frame is discarded on its link. On the controller link that is a frame whose CRC is wrong,
whose kind byte names no frame, or a band frame shorter than its header, with a field outside the ranges of R2 or of
another length than R2 gives it; on the engine and scanner links a frame that carries no report and no scanner frame.
The link error count rises by one, saturating at 65,535, LINK FRAME ERROR is set and its notice, with the link and the
count, is formed where its kind is enabled: queued while fewer than 32 wait, else dropped with NOTICE OVERFLOW. Nothing
else changes; a damaged tag answer has no effect at all. The discard rows carry the bytes of the frame (log entry 30).
Whether a band frame carries a band check is told by the kind its context holds, in a FREE context too (log entry 31).
-/
def Obligations.DamagedFramesDiscarded : Prop :=
  (∀ (s : State) (frame : List Byte), linkOpen s = true →
    (checkFrame frame = none ∨
      (∃ kind body, checkFrame frame = some (kind :: body) ∧ kind ≠ 0x01#8 ∧ kind ≠ 0x02#8) ∨
      (∃ body, checkFrame frame = some (0x02#8 :: body) ∧ body.length < 10) ∨
      ∃ job p1 p0 plane flags i1 i0 lines w1 w0 payload,
        checkFrame frame = some (0x02#8 :: job :: p1 :: p0 :: plane :: flags :: i1 :: i0 :: lines :: w1 :: w0 :: payload) ∧
        let index := 256 * i1.toNat + i0.toNat
        let width := 256 * w1.toNat + w0.toNat
        let check := if ∃ h : Fin 16, h.val = job.toNat ∧ (s.job h).kind = .release then 4 else 0
        ¬(job.toNat < 16 ∧ plane.toNat < 4 ∧ index ≤ 16383 ∧ 1 ≤ lines.toNat ∧ lines.toNat ≤ 64 ∧ 1 ≤ width ∧
          width ≤ 8192 ∧ payload.length = width * lines.toNat + check)) →
    exec (.commandFrameReceived frame) s = .next (s.linkError .controller) ∧
    exec (.bandFrameReceived frame) s = .next (s.linkError .controller)) ∧
  (∀ (s : State) (frame : List Byte), decodeReport frame = none →
    exec (.engineReportDiscard frame) s = .next (s.linkError .engine)) ∧
  (∀ (s : State) (frame : List Byte), decodeScanner frame = none →
    exec (.scannerFrameDiscard frame) s = .next (s.linkError .scanner)) ∧
  (∀ (s : State) (c : Fin 4) (frame : List Byte), decodeTagAnswer frame = none →
    exec (.tagAnswerDiscard c frame) s = .next s) ∧
  ∀ (s : State) (l : LinkName),
    let t := s.linkError l
    let n := min 65535 (s.li.errors + 1)
    let link := match l with | .controller => 0 | .engine => 1 | .scanner => 2
    let enabled := s.status.mask.getLsbD 11 = true
    let room := s.status.notices.length < 32
    t = { s with li := { s.li with errors := n }, status := t.status } ∧
    t.status.mask = s.status.mask ∧
    (∀ g, t.status.has g = true ↔
      s.status.has g = true ∨ g = .linkFrameError ∨ (g = .noticeOverflow ∧ enabled ∧ ¬room)) ∧
    t.status.sequence = (if enabled then s.status.sequence + 1 else s.status.sequence) ∧
    t.status.notices = (if enabled ∧ room then
        s.status.notices ++ [⟨.linkFrameError, s.tb.seconds, s.status.sequence + 1, [.u8 link, .u16 n]⟩]
      else s.status.notices)

/-- Raising a condition: its flag is set and no other flag is lost. An enabled kind forms a notice with the next
sequence number: it is queued at the tail while fewer than 32 wait, else dropped with NOTICE OVERFLOW, its number
used. A kind not enabled forms none. Nothing but the status block changes. -/
def Obligations.ConditionsRaiseNotices : Prop :=
  ∀ (s : State) (f : Flag) (fields : List Val),
    let t := s.raise f fields
    t = { s with status := t.status } ∧ t.status.mask = s.status.mask ∧ t.status.has f = true ∧
    (∀ g, s.status.has g = true → t.status.has g = true) ∧
    (∀ g, g ≠ f → g ≠ .noticeOverflow → t.status.has g = s.status.has g) ∧
    (s.status.enabled f = false → t.status.notices = s.status.notices ∧ t.status.sequence = s.status.sequence) ∧
    (s.status.enabled f = true →
      t.status.sequence = s.status.sequence + 1 ∧
      (s.status.notices.length < 32 →
        t.status.notices = s.status.notices ++ [⟨f, s.tb.seconds, s.status.sequence + 1, fields⟩]) ∧
      (32 ≤ s.status.notices.length →
        t.status.notices = s.status.notices ∧ t.status.has .noticeOverflow = true))

/-! ### Commands that read -/

/-- READ JOB, READ TRACKER and READ ENTRY report the live state and change nothing but the reply, which is built in the
state the command leaves. The widths of the results and the codes of absent values follow log entry 13, the codes of a
value that is set or clear log entry 47, the codes of the hold reasons log entry 49, and the widths of the sheet count,
L and D of the last fault log entry 50. The codes of the classes follow log entry 56. -/
def Obligations.JobAndTrackerReads : Prop :=
  (∀ (s : State) (tag handle : Byte), Ready s →
     exec (.readJob tag handle) s = .next (
       if h : handle.toNat < 16 then
         let j := s.jt[handle.toNat]
         s.answered 5 tag .ok (
           [.u8 j.state.code, .u8 j.kind.code, .u8 j.account.val, .u8 j.mode.code,
            .opt 1 (j.size.map SizeClass.code),
            .opt 3 (j.key.map fun k => k.slot.val * 65536 + k.generation.toNat), .opt 1 (j.dest.map Fin.val),
            .opt 1 j.stallLimit, .opt 2 j.stallCount, .opt 1 (j.reason.map Reason.code), .flag j.cancel,
            .opt 2 j.lastPage, .u32 j.counters.started, .u32 j.counters.exited, .u32 j.counters.jammed,
            .u32 j.counters.voided, .u32 j.counters.refused,
            .opt 2 (match s.pp.openPage with
              | some p => if p.tag.job.val = handle.toNat then some p.tag.page else none
              | none => none),
            .u16 (s.st.entries.filter fun e => e.tag.job.val == handle.toNat).length] ++
           (if j.kind = .scan then
             [.flag (match s.sp.page with | some p => p.tag.job.val == handle.toNat | none => false)]
           else []))
       else s.answered 5 tag .noEntry [])) ∧
  (∀ (s : State) (tag : Byte), Ready s →
     exec (.readTracker tag) s = .next (s.answered 23 tag .ok (
       [.u8 s.st.entries.length] ++
       s.st.entries.flatMap (fun e => [.u8 e.tag.job.val, .u16 e.tag.page, .u8 e.status.code]) ++
       [.u16 s.st.stray] ++
       (match s.st.lastFault with
        | none => [.absent 10]
        | some ⟨k, .exit j p c, t⟩ => [.flag true, .u8 k.code, .u8 j.toNat, .u16 p.toNat, .u16 c.toNat, .u32 t]
        | some ⟨k, .jam l d, t⟩ => [.flag true, .u8 k.code, .u16 l.toNat, .u16 d.toNat, .u32 t]) ++
       [.flag s.st.pathClear]))) ∧
  (∀ (s : State) (tag position : Byte), Ready s →
     exec (.readEntry tag position) s = .next (
       match s.st.entries[position.toNat]? with
       | none => s.answered 24 tag .noEntry []
       | some e =>
         s.answered 24 tag .ok (
           [.u8 e.tag.job.val, .u16 e.tag.page, .u8 e.account.val, .u8 e.provisional.code, .u16 e.reserved,
            .u8 e.status.code] ++
           (match e.status, e.final with
            | .complete, some f =>
              [.u8 f.code, .opt 4 e.deposits[0], .opt 4 e.deposits[1], .opt 4 e.deposits[2], .opt 4 e.deposits[3],
               .opt 8 (e.serials[0].map BitVec.toNat), .opt 8 (e.serials[1].map BitVec.toNat),
               .opt 8 (e.serials[2].map BitVec.toNat), .opt 8 (e.serials[3].map BitVec.toNat)]
            | _, _ => []))))

/-- READ ACCOUNT, READ SESSION and READ TONE TABLE report the live state and change nothing but the reply. The idle
channel is not restarted. The layout of the results follows log entries 13 and 47, that of READ SESSION log entry 53. -/
def Obligations.AccountAndToneReads : Prop :=
  (∀ (s : State) (tag index : Byte), Ready s →
     exec (.readAccount tag index) s = .next (
       let a := s.acct.records[index.toNat]'index.isLt
       s.answered 12 tag .ok (
         [.u32 a.id, .u8 a.state.code, .u8 a.privileges.toNat, .u32 a.quota, .u32 a.charged, .u32 a.reserved] ++
         a.counters.toList.map Val.u32 ++
         [.u8 a.window1.base, .u8 a.window1.limit, .u8 a.window2.base, .u8 a.window2.limit, .u32 a.lastCharge,
          .flag a.dirty, .u16 a.sinceFlush]))) ∧
  (∀ (s : State) (tag : Byte), Ready s →
     exec (.readSession tag) s = .next (s.answered 16 tag .ok
       [match s.acct.session with
        | some x => .present 5 (x.account.val * 2 ^ 32 + x.openTime)
        | none => .absent 5])) ∧
  (∀ (s : State) (tag plane : Byte), Ready s →
     exec (.readToneTable tag plane) s = .next (
       if h : plane.toNat < 4 then
         let t := s.dm.tables[plane.toNat]
         s.answered 19 tag .ok (t.weights.toList.map Val.u16 ++ [.u16 t.gain, .u16 s.dm.threshold])
       else s.answered 19 tag .noEntry []))

/-- READ KEY SLOT reports every field but the two keys; READ ROW reports the array's 64 bytes with their condition, rows
1 and 280 to 343 as zeros reported valid; READ TIME reports the Time Base without its accumulator. None changes anything
but the reply. The layout of the results follows log entries 13, 47 and 50. -/
def Obligations.KeyRowAndTimeReads : Prop :=
  (∀ (s : State) (tag slot : Byte), Ready s →
     exec (.readKeySlot tag slot) s = .next (
       if h : slot.toNat < 64 then
         let x := s.kt[slot.toNat]
         s.answered 32 tag .ok
           [.u8 x.state.code, .u16 x.generation.toNat, .u32 x.owner, .u32 x.created, .opt 4 x.expiry, .u16 x.releases,
            .flag x.persisted, .opt 1 (x.naming.map Fin.val), .opt 1 (x.cause.map EraseCause.code),
            .u8 x.rowRequest.code]
       else s.answered 32 tag .noEntry [])) ∧
  (∀ (s : State) (tag : Byte) (row : Half), Ready s →
     exec (.readRow tag row) s = .next (
       if h : row.toNat < 360 then
         if row.toNat = 1 ∨ (280 ≤ row.toNat ∧ row.toNat ≤ 343) then
           s.answered 37 tag .ok [.raw (List.replicate 64 0), .u8 0]
         else
           let bytes := s.ms.memory.row ⟨row.toNat, h⟩
           s.answered 37 tag .ok [.raw bytes, .u8 (rowCondition bytes).code]
       else s.answered 37 tag .noEntry [])) ∧
  (∀ (s : State) (tag : Byte), Ready s →
     exec (.readTime tag) s = .next (s.answered 39 tag .ok (
       [.u32 s.tb.seconds, .u16 s.tb.subSecond, .u16 s.tb.minute, .s16 s.tb.trim, .u8 4] ++
       ([0, 1, 2, 3] : List (Fin 4)).flatMap fun i =>
         let c := s.tb.channels[i]
         [.u8 c.tap.code, .u16 c.period, .u16 c.count, .flag c.running, .flag c.stopPending,
          .opt 3 (c.staged.map fun (x : Tap × Nat) => x.1.code * 65536 + x.2)])))

/-- READ STATUS, READ IDENTITY, READ TARIFF, READ EGRESS CLASS, READ HISTORY and READ PAGE METER report the live state
and change nothing but the reply. READ PAGE METER gives the open page's accumulators and line totals for each plane its
mode allows, then the last completion record. The layout of absent records follows log entry 13, the widths of the
coverage and of a residue log entry 45, that of the release count log entry 50. The code of the final class follows log
entry 56. -/
def Obligations.StatusAndMeterReads : Prop :=
  (∀ (s : State) (tag : Byte), Ready s →
     exec (.readStatus tag) s = .next (s.answered 42 tag .ok
       [.u16 s.status.flags.toNat, .u16 s.li.errors, .u16 s.st.stray, .u16 s.status.mask.toNat,
        .u16 s.status.notices.length, .u16 s.status.sequence.toNat]) ∧
     exec (.readIdentity tag) s = .next (s.answered 44 tag .ok
       [.raw s.cu.identity, .u8 s.cu.identityCondition.code]) ∧
     exec (.readTariff tag) s = .next (s.answered 7 tag .ok
       (s.acct.prices.toList.map Val.u16 ++ [.u8 s.acct.postscale])) ∧
     (∀ cls : Byte, exec (.readEgressClass tag cls) s = .next (
       let e := s.sp.egress[cls.toNat]'cls.isLt
       s.answered 30 tag .ok [.u8 e.mode.code, .u16 e.retention, .u16 e.releases])) ∧
     ∀ position : Byte, exec (.readHistory tag position) s = .next (
       if h : position.toNat < 16 then
         s.answered 28 tag .ok (
           (match s.tu.ring[position.toNat] with
            | none => [.absent 30]
            | some r =>
              [.flag true, .u8 r.event.code, .u8 r.slot.val, .u64 r.serial, .u32 r.mirror, .u32 r.insertionTime,
               .u32 r.eventTime, .u32 r.developed, .u32 r.overdraw]) ++
           [.u8 s.tu.ringNext.val])
       else s.answered 28 tag .noEntry [])) ∧
  (∀ (s : State) (tag : Byte), Ready s →
     exec (.readPageMeter tag) s = .next (s.answered 20 tag .ok (
       (match s.pp.openPage with
        | none => [.flag false]
        | some p =>
          let planes : List (Fin 4) := if p.mode = .mono then [0] else [0, 1, 2, 3]
          let acc := s.dm.accum.getD (Vector.replicate 4 ⟨0, 0⟩)
          [.flag true, .u8 p.tag.job.val, .u16 p.tag.page, .u8 planes.length] ++
            planes.flatMap fun c => [.num 8 acc[c].weighted, .num 8 acc[c].raw, .u16 p.planes[c].lines]) ++
       (match s.dm.lastRecord with
        | none => [.absent 9]
        | some r =>
          [.flag true, .u8 r.tag.job.val, .u16 r.tag.page, .u8 r.mode.code, .opt 2 r.coverage, .u8 r.final.code,
           .u8 r.planes.length] ++
            r.planes.flatMap fun x =>
              [.num 8 x.weighted, .num 8 x.raw, .u32 x.deposit, .opt 8 (x.serial.map BitVec.toNat), .u32 x.residue]))))

/-- READ CARTRIDGE reports the record, the level and the latch as they stood, and the settings; then the latch takes
the level, which clears the change flag. It changes nothing else and sends no exchange. The layout of the results follows log
entries 13, 45, 47 and 48. -/
def Obligations.ReadCartridgeReports : Prop :=
  ∀ (s : State) (tag slot : Byte), Ready s →
    exec (.readCartridge tag slot) s = .next (
      if h : slot.toNat < 4 then
        let x := s.tu.slots[slot.toNat]
        { s with tu := { s.tu with slots := s.tu.slots.set slot.toNat { x with latch := x.level, changed := false } }
          }.answered 27 tag .ok
          [.u8 x.state.code,
           .opt 1 (match x.state with | .rejected .wrongSlot => some 0 | .rejected .badResponse => some 1 | _ => none),
           .opt 8 (x.serial.map BitVec.toNat),
           .opt 3 (x.model.map fun (m : ModelCode) => m.colorant.toNat * 65536 + m.number.toNat), .u32 x.ratedYield,
           .flag x.rationKnown, .u32 x.mirror, .u32 x.confirmed, .u16 x.writeCount, .u32 x.residue, .u32 x.developed,
           .u32 x.overdraw, .u32 x.unmetered, .u16 x.insertions, .u32 x.insertionTime, .flag x.lowReported,
           .flag x.sample, .flag x.level, .u16 x.debounce, .flag x.latch, .flag x.changed,
           .opt 3 (x.exchange.map fun (e : Exchange) => e.request.code * 65536 + e.elapsed), .flag x.writePending,
           .flag x.recheckPending, .flag x.level, .flag x.latch, .u8 s.tu.policy.code, .u16 s.tu.lowMark,
           .u32 s.tu.step]
      else s.answered 27 tag .noEntry [])

/-! ### Commands that store a setting -/

/-- LOAD TARIFF, SET SPOT THRESHOLD, SET CARTRIDGE POLICY, SET TRIM, SET NOTICE MASK, LOAD TONE TABLE and LOAD EGRESS
CLASS bring their values into range and store them and nothing else. LOAD TARIFF answers OK with no result; the others
answer with what they stored. W[0] is stored as 0, and class 0 as CIPHER. That LOAD EGRESS CLASS carries and reports the
retention in 2 bytes and the release count in 2, and brings a release count above 255 to 255, is the model's reading
(log entries 13, 41 and 50). -/
def Obligations.SettingsStored : Prop :=
  (∀ (s : State) (tag : Byte), Ready s →
     (∀ (prices : Vector Half 7) (f : Byte), exec (.loadTariff tag prices f) s = .next
       ({ s with acct := { s.acct with
           prices := prices.map BitVec.toNat, postscale := min 16 (max 1 f.toNat) } }.answered 6 tag .ok [])) ∧
     (∀ threshold : Half, exec (.setSpotThreshold tag threshold) s = .next
       ({ s with dm := { s.dm with threshold := min 1000 threshold.toNat } }.answered 18 tag .ok
         [.u16 (min 1000 threshold.toNat)])) ∧
     (∀ (policy : Byte) (lowMark : Half) (n : Word), exec (.setCartridgePolicy tag policy lowMark n) s = .next (
       if policy.toNat < 2 then
         { s with tu := { s.tu with
             policy := if policy.toNat = 0 then .strict else .tolerant, lowMark := min 1000 lowMark.toNat,
             step := min 16777216 (max 1 n.toNat) } }.answered 26 tag .ok
           [.u8 policy.toNat, .u16 (min 1000 lowMark.toNat), .u32 (min 16777216 (max 1 n.toNat))]
       else s.answered 26 tag .malformed [])) ∧
     (∀ trim : Half, exec (.setTrim tag trim) s = .next
       (let v := min 1023 (max (-1023) trim.toInt)
        { s with tb := { s.tb with trim := v } }.answered 40 tag .ok [.s16 v])) ∧
     ∀ mask : Half, exec (.setNoticeMask tag mask) s = .next
       ({ s with status := { s.status with mask := mask.extractLsb' 0 12 } }.answered 21 tag .ok
         [.u16 (mask.toNat % 4096)])) ∧
  (∀ (s : State) (tag plane : Byte) (weights : Vector Half 17) (gain : Half), Ready s →
     exec (.loadToneTable tag plane weights gain) s = .next (
       if h : plane.toNat < 4 then
         let w : Vector Nat 17 := Vector.ofFn fun i => if i = 0 then 0 else min 4095 weights[i].toNat
         { s with dm := { s.dm with tables := s.dm.tables.set plane.toNat ⟨w, max 1 gain.toNat⟩ } }.answered 17 tag .ok
           (w.toList.map Val.u16 ++ [Val.u16 (max 1 gain.toNat)])
       else s.answered 17 tag .noEntry [])) ∧
  (∀ (s : State) (tag cls mode : Byte) (retention releases : Half), Ready s →
     exec (.loadEgressClass tag cls mode retention releases) s = .next (
       if mode.toNat < 2 then
         let n := min 255 (max 1 releases.toNat)
         let m : EgressMode := if cls = 0 ∨ mode = 1 then .cipher else .clear
         { s with sp := { s.sp with
             egress := s.sp.egress.set cls.toNat ⟨m, max 1 retention.toNat, n⟩ cls.isLt } }.answered
           29 tag .ok [.u8 m.code, .u16 (max 1 retention.toNat), .u16 n]
       else s.answered 29 tag .malformed []))

/-- SET TIME puts the seconds count at the value sent and zeroes the phase and the minute count as one step: no tap
ticks, and every channel keeps its count. SET TIMER makes the MALFORMED tests, then the refusals; the tap and period
are applied at once to a stopped channel and staged on one that runs or has a stop pending; then the run request is
taken. That MALFORMED comes before every other refusal is R173 of section 11.1. The reply's one absent value of 3 bytes for
the staged settings, and the byte of a value that is set or clear, are the model's reading (log entries 13 and 47). -/
def Obligations.TimeAndTimersSet : Prop :=
  (∀ (s : State) (tag : Byte) (seconds : Word), Ready s →
     exec (.setTime tag seconds) s = .next
       ({ s with tb := { s.tb with seconds := seconds.toNat, accumulator := 0, subSecond := 0, minute := 0 } }.answered
         38 tag .ok [.u32 s.tb.seconds, .u32 seconds.toNat])) ∧
  (∀ (s : State) (tag channel tap : Byte) (period : Half) (run : Byte), Ready s →
     exec (.setTimer tag channel tap period run) s = .next (
       if 4 ≤ tap.toNat ∨ 3 ≤ run.toNat then s.answered 41 tag .malformed []
       else if h : channel.toNat < 4 then
           if channel = 0 ∧ run ≠ 0 then s.answered 41 tag .refused []
           else
             let c := s.tb.channels[channel.toNat]
             let t : Tap := if tap = 0 then .t1024 else if tap = 1 then .t32 else if tap = 2 then .t1 else .t60
             let p := max 1 period.toNat
             let x : Channel :=
               if c.running ∨ c.stopPending then { c with staged := some (t, p) }
               else { c with tap := t, period := p, staged := none }
             let y : Channel :=
               if run = 0 then x
               else if run = 1 then
                 let z : Channel := match x.staged with
                   | some (a, b) => { x with tap := a, period := b, staged := none }
                   | none => x
                 { z with count := 0, stopPending := false, running := true }
               else if x.running then { x with stopPending := true } else x
             { s with tb := { s.tb with channels := s.tb.channels.set channel.toNat y } }.answered 41 tag .ok
               [.u8 y.tap.code, .u16 y.period, .u16 y.count, .flag y.running, .flag y.stopPending,
                .opt 3 (y.staged.map fun (x : Tap × Nat) => x.1.code * 65536 + x.2)]
       else s.answered 41 tag .noEntry []))

/-- CLEAR STATUS clears the named flags alone, with the three further effects of R176. CARTRIDGE CHANGE stays set
where a slot's change flag is set, and no notice is queued for it. -/
def Obligations.ClearStatusClears : Prop :=
  ∀ (s : State) (tag : Byte) (named : Half), Ready s →
    ∃ t, exec (.clearStatus tag named) s = .next t ∧
      (∀ f : Flag, t.status.has f =
        if named.getLsbD f.bit then f == .cartridgeChange && s.tu.slots.toList.any fun x => x.changed
        else s.status.has f) ∧
      t = { s with
        status := { s.status with flags := t.status.flags }
        li := { s.li with errors := if named.getLsbD 12 then 0 else s.li.errors }
        st := { s.st with stray := if named.getLsbD 10 then 0 else s.st.stray } }.answered 43 tag .ok
          [.u16 t.status.flags.toNat]

/-! ### Accounts and sessions -/

/-- ADJUST QUOTA: NO-ENTRY for an ABSENT index; else the quota becomes the larger of the value sent and charged +
reserved. LOAD ACCOUNT: MALFORMED, BUSY, a new record at an ABSENT index, or an update of the record that carries the
id. UNLOAD ACCOUNT: its conditions tested in order. SET ACCOUNT STATE: a commit is requested only where the state
changes. Each change sets the dirty flag and requests the row's commit, and nothing else changes.
The codes of ENABLED and SUSPENDED follow log entry 14. -/
def Obligations.AccountCommandsAct : Prop :=
  (∀ (s : State) (tag index : Byte) (quota : Word), Ready s →
     exec (.adjustQuota tag index quota) s = .next (
       let i : Fin 256 := ⟨index.toNat, index.isLt⟩
       let a := s.account i
       let q := max quota.toNat (a.charged + a.reserved)
       if a.state = .absent then s.answered 8 tag .noEntry []
       else
         (request (s.setAccount i { a with quota := q, dirty := true }) (.commit (accountRow i) 0)).1.answered 8 tag .ok
           [.u32 q])) ∧
  (∀ (s : State) (tag : Byte) (a : LoadAccountArgs), Ready s →
     exec (.loadAccount tag a) s = .next (
       let i : Fin 256 := ⟨a.index.toNat, a.index.isLt⟩
       let x := s.account i
       let w1 : Window := ⟨a.base1.toNat, a.limit1.toNat⟩
       let w2 : Window := ⟨a.base2.toNat, a.limit2.toNat⟩
       let p : BitVec 3 := a.privileges.extractLsb' 0 3
       let store (y : Account) := (request (s.setAccount i y) (.commit (accountRow i) 0)).1
       if (a.state ≠ 1 ∧ a.state ≠ 2) ∨ a.id = 0 then s.answered 9 tag .malformed []
       else if x.state = .absent then
         if ∃ j, j ≠ i ∧ (s.account j).state ≠ .absent ∧ (s.account j).id = a.id.toNat then s.answered 9 tag .busy []
         else
           (store
             { id := a.id.toNat, state := if a.state = 1 then .enabled else .suspended, privileges := p,
               quota := a.quota.toNat, charged := min a.charged.toNat a.quota.toNat, reserved := 0,
               counters := Vector.replicate 7 0, window1 := w1, window2 := w2, lastCharge := 0, dirty := true,
               sinceFlush := 0 }).answered 9 tag .ok []
       else if x.id ≠ a.id.toNat then s.answered 9 tag .busy []
       else
         let q := max a.quota.toNat (x.charged + x.reserved)
         (store { x with privileges := p, window1 := w1, window2 := w2, quota := q, dirty := true }).answered 9 tag .ok
           [.u32 q])) ∧
  (∀ (s : State) (tag index : Byte), Ready s →
     exec (.unloadAccount tag index) s = .next (
       let i : Fin 256 := ⟨index.toNat, index.isLt⟩
       let a := s.account i
       if a.state = .absent then s.answered 10 tag .noEntry []
       else if 0 < a.reserved ∨ ∃ h, (s.job h).state ≠ .free ∧ (s.job h).account = i then s.answered 10 tag .busy []
       else if ∃ x ∈ s.acct.session, x.account = i then s.answered 10 tag .busy []
       else
         (request (s.setAccount i
           { id := 0, state := .absent, privileges := 0, quota := 0, charged := 0, reserved := 0,
             counters := Vector.replicate 7 0, window1 := ⟨0, 0⟩, window2 := ⟨0, 0⟩, lastCharge := 0, dirty := true,
             sinceFlush := 0 }) (.commit (accountRow i) 0)).1.answered 10 tag .ok [])) ∧
  (∀ (s : State) (tag index state : Byte), Ready s →
     exec (.setAccountState tag index state) s = .next (
       let i : Fin 256 := ⟨index.toNat, index.isLt⟩
       let a := s.account i
       let st : AccountState := if state = 1 then .enabled else .suspended
       if state ≠ 1 ∧ state ≠ 2 then s.answered 11 tag .malformed []
       else if a.state = .absent then s.answered 11 tag .noEntry []
       else if a.state = st then s.answered 11 tag .ok []
       else
         (request (s.setAccount i { a with state := st, dirty := true }) (.commit (accountRow i) 0)).1.answered 11 tag
           .ok []))

/-- OPEN SESSION, TOUCH SESSION and CLOSE SESSION move the panel session and channel ch0, and nothing else: an open
restarts ch0, a touch restarts it, a close requests its stop. -/
def Obligations.SessionsOpenAndClose : Prop :=
  ∀ (s : State) (tag : Byte), Ready s →
    let ch0 := s.tb.channels[0]
    let withCh0 (s : State) (c : Channel) : State := { s with tb := { s.tb with channels := s.tb.channels.set 0 c } }
    let withSession (s : State) (x : Option Session) : State := { s with acct := { s.acct with session := x } }
    (∀ index : Byte, exec (.openSession tag index) s = .next (
      let i : Fin 256 := ⟨index.toNat, index.isLt⟩
      if s.acct.session ≠ none then s.answered 13 tag .busy []
      else if (s.account i).state = .absent then s.answered 13 tag .noEntry []
      else if (s.account i).state = .suspended then s.answered 13 tag .refused []
      else (withCh0 (withSession s (some ⟨i, s.tb.seconds⟩)) ch0.start).answered 13 tag .ok [])) ∧
    exec (.touchSession tag) s = .next (
      if s.acct.session = none then s.answered 14 tag .noEntry []
      else (withCh0 s ch0.start).answered 14 tag .ok []) ∧
    exec (.closeSession tag) s = .next (
      if s.acct.session = none then s.answered 15 tag .ok []
      else
        (withCh0 (withSession s none) (if ch0.running then { ch0 with stopPending := true } else ch0)).answered 15 tag
          .ok [])

/-! ### Jobs -/

/-- OPEN JOB is refused with the code of the first condition of R26 that holds, and changes nothing but the reply; a
kind, colour mode or size class that names nothing is MALFORMED before that (R25). The size class is not looked at for
SCAN (log entry 21). -/
def Obligations.OpenJobRefusals : Prop :=
  ∀ (s : State) (tag : Byte) (a : OpenJobArgs), Ready s →
    (¬NamesValues a → exec (.openJob tag a) s = .next (s.answered 1 tag .malformed [])) ∧
    (NamesValues a → ∀ code, FirstHolds (openTable s a) code →
      exec (.openJob tag a) s = .next (s.answered 1 tag code []))

/-- An OPEN JOB that passes R26 takes the lowest FREE context and fills it; the key slot, the refused-page marker and
the session idle channel follow. A band of the handle that waits is discarded uncounted: the context filled stands at a
refused count of 0, and every other context as it stood. A waiting band of another handle stays. The two keys drawn are the
model's numbering of draws (log entry 6); the stall count of a SCAN job is taken as absent (log entry 15). -/
def Obligations.OpenJobAccepted : Prop :=
  ∀ (s : State) (tag : Byte) (a : OpenJobArgs) (h : Fin 16),
    NamesValues a → (∀ row ∈ openTable s a, ¬row.1) →
    (s.job h).state = .free → (∀ g < h, (s.job g).state ≠ .free) →
    let i : Fin 256 := ⟨a.account.toNat, a.account.isLt⟩
    let opened (key : Option KeyRef) : Job :=
      { state := .active, kind := if a.kind = 0 then .print else if a.kind = 1 then .release else .scan, account := i,
        mode := if a.mode = 0 then .mono else .color,
        size := if a.kind = 2 then none else some (if a.size = 0 then .small else .large), key := key,
        dest := if a.kind = 2 then some ⟨a.dest.toNat, a.dest.isLt⟩ else none,
        stallLimit := if a.kind = 2 then none else some (max 1 a.stall.toNat),
        stallCount := if a.kind = 2 then none else some 0,
        reason := none, cancel := false, lastPage := none, counters := ⟨0, 0, 0, 0, 0⟩ }
    let channels := if ∃ x ∈ s.acct.session, x.account = i then s.tb.channels.set 0 s.tb.channels[0].start
      else s.tb.channels
    let fill (t : State) (key : Option KeyRef) : State :=
      { t with
        jt := t.jt.set h (opened key), pp := { t.pp with markers := t.pp.markers.set h none }
        tb := { t.tb with channels := channels } }
    (Ready s →
      (a.kind = 0 ∨ (a.kind = 2 ∧ (s.sp.egress[a.dest.toNat]'a.dest.isLt).mode = .clear) →
        exec (.openJob tag a) s = .next ((fill s none).answered 1 tag .ok [.u8 h.val])) ∧
      (∀ k : Fin 64, a.kind = 2 → (s.sp.egress[a.dest.toNat]'a.dest.isLt).mode = .cipher →
        (s.key k).state = .free → (∀ g < k, (s.key g).state ≠ .free) →
        let drawn : State := { s with
          kt := s.kt.set k { s.key k with
            state := .active, generation := (s.key k).generation + 1, cipherKey := Config.randomKey s.draws,
            checkKey := Config.randomKey (s.draws + 1), owner := (s.account i).id, created := s.tb.seconds,
            expiry := none, releases := 0, naming := some h }
          draws := s.draws + 2 }
        exec (.openJob tag a) s = .next ((fill drawn (some ⟨k, (s.key k).generation + 1⟩)).answered 1 tag .ok
          [.u8 h.val, .u8 k.val, .u16 ((s.key k).generation + 1).toNat])) ∧
      (∀ k : Fin 64, a.kind = 1 → k.val = a.slot.toNat →
        let used := requestKeyRow
          (s.setKey k { s.key k with releases := (s.key k).releases - 1, naming := some h }) k .commit
        exec (.openJob tag a) s = .next ((fill used (some ⟨k, a.generation⟩)).answered 1 tag .ok [.u8 h.val]))) ∧
    ∀ w, s.li.bandPosition = some w →
      let t := (runCommand (.openJob a) s).1
      t.li = { s.li with bandPosition := if w.band.job = h then none else some w } ∧
      ∃ key, t.jt = s.jt.set h (opened key) ∧ (t.job h).counters.refused = 0

/-- RESUME JOB by the state of the context: a HELD job becomes ACTIVE with no reason and no refused-page marker, and a
resumed SCAN job lets the scanner link be given readiness again. -/
def Obligations.ResumeJobResumes : Prop :=
  ∀ (s : State) (tag handle : Byte), Ready s →
    (16 ≤ handle.toNat → exec (.resumeJob tag handle) s = .next (s.answered 2 tag .noEntry [])) ∧
    ∀ h : Fin 16, h.val = handle.toNat →
      exec (.resumeJob tag handle) s = .next (
        match (s.job h).state with
        | .held =>
          { s with
            jt := s.jt.set h { s.job h with state := .active, reason := none }
            pp := { s.pp with markers := s.pp.markers.set h none } }.answered 2 tag .ok []
        | .active => s.answered 2 tag .ok []
        | .draining => s.answered 2 tag .busy []
        | .free => s.answered 2 tag .noEntry []) ∧
      ((s.job h).state = .held → (s.job h).kind = .scan →
        ∃ t, exec (.resumeJob tag handle) s = .next t ∧ t.activeScan ≠ none)

/-- CLOSE JOB and CANCEL JOB by the state of the context. An ACTIVE or HELD job has its pages voided and becomes
DRAINING with no reason, the cancel flag as the command has it; a cancel discards the job's buffered frames; then the
drain is tested. Discarded frames: every buffered frame of the job leaves the buffer and no frame of another job does;
the head frame, where the link is sending it, stays (log entry 12). -/
def Obligations.CloseAndCancelDrain : Prop :=
  (∀ (s : State) (tag handle : Byte), Ready s →
     (16 ≤ handle.toNat → exec (.closeJob tag handle) s = .next (s.answered 3 tag .noEntry []) ∧
       exec (.cancelJob tag handle) s = .next (s.answered 4 tag .noEntry [])) ∧
     ∀ h : Fin 16, h.val = handle.toNat →
       let unannounced (t : State) : State :=
         if (t.job h).kind = .scan ∧ (t.job h).state = .active then { t with sp := { t.sp with announced := none } } else t
       let voided := unannounced (voidPagesOf s h)
       let draining (t : State) (cancel : Bool) : State :=
         { t with jt := t.jt.set h { t.job h with state := .draining, reason := none, cancel := cancel } }
       let cancelled : State := { s with jt := s.jt.set h { s.job h with cancel := true } }
       exec (.closeJob tag handle) s = .next (
         match (s.job h).state with
         | .free => s.answered 3 tag .noEntry []
         | .draining => s.answered 3 tag .ok []
         | _ => (drainTest (draining voided false) h).answered 3 tag .ok []) ∧
       exec (.cancelJob tag handle) s = .next (
         match (s.job h).state with
         | .free => s.answered 4 tag .noEntry []
         | .draining =>
           if (s.job h).cancel then s.answered 4 tag .ok []
           else (drainTest (discardFrames cancelled h) h).answered 4 tag .ok []
         | _ => (drainTest (draining (discardFrames voided h) true) h).answered 4 tag .ok [])) ∧
  (∀ (s : State) (h : Fin 16),
     let t := discardFrames s h
     t = { s with sp := { s.sp with buffer := t.sp.buffer } } ∧
     ((∀ f, s.li.sending ≠ some (.scan f true)) → t.sp.buffer = s.sp.buffer.filter fun f => f.tag.job != h) ∧
     (∀ f g rest, s.li.sending = some (.scan f true) → s.sp.buffer = g :: rest →
       t.sp.buffer = g :: rest.filter fun f => f.tag.job != h))

/-- Drain completion: a DRAINING job with no tracker entry, no scan page in progress and no buffered frame has its key
slot disposed of, JOB DONE raised with its ending and counters, and its context FREE; any other job is left as it is.
DRAIN COMPLETION sent alone while the drain is not complete has no effect, the model's choice (log entry 7). -/
def Obligations.DrainCompletes : Prop :=
  ∀ (s : State) (h : Fin 16),
    let j := s.job h
    let done := j.state = .draining ∧ (∀ e ∈ s.st.entries, e.tag.job ≠ h) ∧ (∀ p ∈ s.sp.page, p.tag.job ≠ h) ∧
      ∀ f ∈ s.sp.buffer, f.tag.job ≠ h
    let ending := if j.cancel = false then 0 else if j.reason = some .sanitize then 2 else 1
    let finish (t : State) : State :=
      (t.raise .jobDone
        [.u8 h.val, .u8 j.kind.code, .u8 j.account.val, .u8 ending, .u32 j.counters.started, .u32 j.counters.exited,
         .u32 j.counters.jammed, .u32 j.counters.voided, .u32 j.counters.refused]).setJob h { j with state := .free }
    (¬done → exec (.drainCompletion h) s = .next s) ∧
    (done → (∀ r ∈ j.key, (s.key r.slot).naming ≠ some h) → exec (.drainCompletion h) s = .next (finish s)) ∧
    ∀ r, j.key = some r → done → (s.key r.slot).naming = some h →
      let k := r.slot
      let x := s.key k
      (j.kind = .scan → j.cancel = true →
        exec (.drainCompletion h) s = .next (finish (s.setKey k
          { state := .free, generation := x.generation, owner := 0, cipherKey := 0, checkKey := 0, created := 0,
            expiry := none, releases := 0, persisted := false, naming := none, cause := none, rowRequest := .none }))) ∧
      (∀ c, j.kind = .scan → j.cancel = false → j.dest = some c →
        exec (.drainCompletion h) s = .next (finish (requestKeyRow (s.setKey k
          { x with
            state := .retained, naming := none, releases := s.sp.egress[c].releases
            expiry := some (min 4294967295 (s.tb.seconds + 60 * s.sp.egress[c].retention)) }) k .commit))) ∧
      (j.kind = .release →
        let unnamed := s.setKey k { x with naming := none }
        exec (.drainCompletion h) s = .next (finish (
          if x.releases = 0 then enterErasing unnamed k .released
          else if ∃ e ∈ x.expiry, e ≤ s.tb.seconds then enterErasing unnamed k .expired
          else unnamed)))

/-- A hold: the pages of an ACTIVE or HELD job are voided, its state is HELD with the new reason, and JOB HELD is
raised; a DRAINING or FREE job is left as it is. The announced page becomes absent when a SCAN job leaves ACTIVE by the
hold, or with the scan page that is voided, and stays as it is otherwise. The codes of the reasons follow log entry 49. -/
def Obligations.HoldSteps : Prop :=
  ∀ (s : State) (h : Fin 16) (r : Reason),
    ((s.job h).state = .free ∨ (s.job h).state = .draining → holdJob s h r = s) ∧
    ((s.job h).state = .active ∨ (s.job h).state = .held →
      let v := voidPagesOf s h
      (holdJob s h r).jt = v.jt.set h { v.job h with state := .held, reason := some r } ∧
      (holdJob s h r).status = (v.raise .jobHeld [.u8 h.val, .u8 r.code]).status ∧
      (holdJob s h r).pp = v.pp ∧ (holdJob s h r).acct = v.acct ∧ (holdJob s h r).st = v.st ∧
      (holdJob s h r).sp = { v.sp with announced := (holdJob s h r).sp.announced } ∧
      (holdJob s h r).sp.announced =
        (if ((s.job h).kind = .scan ∧ (s.job h).state = .active) ∨ ∃ p ∈ s.sp.page, p.tag.job = h then none
         else s.sp.announced) ∧
      (∀ p ∈ (holdJob s h r).pp.openPage, p.tag.job ≠ h) ∧ ∀ p ∈ (holdJob s h r).sp.page, p.tag.job ≠ h)

/-! ### Key slots -/

/-- A request for a slot's row carries its generation, and is an erase for a FREE slot; queued, it clears the row
request, and one that is not queued becomes the row request: the queue refuses a request only where 16 wait, none of
them for its row, and no commit or erase in flight is writing that row. A slot enters ERASING with its keys zeroised, its
releases 0, the cause recorded and the erase of its row requested; a slot that is not persisted is FREE at once, at
its generation, with KEY ERASED raised. DISCARD KEY makes its tests in order. That the row being written is
queued even where 16 wait is the model's reading of R153 (log entry 35). -/
def Obligations.KeySlotsErased : Prop :=
  (∀ (s : State) (k : Fin 64) (kind : RowRequest), kind ≠ .none →
     let x := s.key k
     let erase : Prop := kind = .erase ∨ x.state = .free
     let q : StoreRequest :=
       if erase then .erase (keyRow k) x.generation else .commit (keyRow k) x.generation
     (∀ l, enqueue s.ms.writing s.ms.queue ⟨q, false⟩ = some l →
       requestKeyRow s k kind =
         (startIfReady { s with ms := { s.ms with queue := l } }).setKey k { x with rowRequest := .none }) ∧
     (enqueue s.ms.writing s.ms.queue ⟨q, false⟩ = none →
       requestKeyRow s k kind = s.setKey k { x with rowRequest := if erase then .erase else .commit }) ∧
     (enqueue s.ms.writing s.ms.queue ⟨q, false⟩ = none ↔
       16 ≤ s.ms.queue.length ∧ (∀ e ∈ s.ms.queue, e.request.row? ≠ some (keyRow k)) ∧
       ∀ op ∈ s.ms.op, op.request.row? ≠ some (keyRow k))) ∧
  (∀ (s : State) (k : Fin 64) (cause : EraseCause),
     let x := s.key k
     let t := requestKeyRow
       (s.setKey k { x with state := .erasing, cipherKey := 0, checkKey := 0, releases := 0, cause := some cause }) k .erase
     enterErasing s k cause =
       if x.persisted then t
       else
         (t.setKey k
           { state := .free, generation := x.generation, owner := 0, cipherKey := 0, checkKey := 0, created := 0,
             expiry := none, releases := 0, persisted := false, naming := none, cause := none, rowRequest := .none }
           ).raise .keyErased [.u8 k.val, .u16 x.generation.toNat, .u32 x.owner, .u8 cause.code]) ∧
  (∀ (s : State) (tag slot : Byte) (generation : Half), Ready s →
     (64 ≤ slot.toNat → exec (.discardKey tag slot generation) s = .next (s.answered 31 tag .noEntry [])) ∧
     ∀ k : Fin 64, k.val = slot.toNat →
       let x := s.key k
       exec (.discardKey tag slot generation) s = .next (
         if x.generation ≠ generation then s.answered 31 tag .noEntry []
         else if x.state = .free then s.answered 31 tag .noEntry []
         else if x.state = .erasing then s.answered 31 tag .ok []
         else if x.state = .active ∨ x.naming ≠ none then s.answered 31 tag .busy []
         else (enterErasing s k .discarded).answered 31 tag .ok []))

/-! ### The Meter Store -/

/-- A row request meets the commit queue: it merges into the waiting entry of its row, which keeps its place, or is
appended while fewer than 16 wait, or is not queued. A request for the row that a commit or an erase in flight is writing
is appended even where 16 wait (log entry 35). A request of a long command that does not fit is held. Held requests are
taken in order while places remain, one that merges taking none; what stays held starts with a request that neither
merges nor fits nor names the row being written. -/
def Obligations.RequestsMeetTheQueue : Prop :=
  (∀ (s : State) (q : StoreRequest) (r : Row), q.row? = some r →
     let same : StoreEntry → Bool := fun e => e.request.row? == some r
     let withQueue (l : List StoreEntry) : State := { s with ms := { s.ms with queue := l } }
     ((∃ e ∈ s.ms.queue, same e = true) →
       request s q = (startIfReady (withQueue (s.ms.queue.map fun e => if same e then { e with request := q } else e)), true) ∧
       requestOwn s q = startIfReady (withQueue (s.ms.queue.map fun e => if same e then ⟨q, true⟩ else e))) ∧
     let writing := ∃ op ∈ s.ms.op, op.request.row? = some r
     ((∀ e ∈ s.ms.queue, same e = false) → s.ms.queue.length < 16 ∨ writing →
       request s q = (startIfReady (withQueue (s.ms.queue ++ [⟨q, false⟩])), true) ∧
       requestOwn s q = startIfReady (withQueue (s.ms.queue ++ [⟨q, true⟩]))) ∧
     ((∀ e ∈ s.ms.queue, same e = false) → 16 ≤ s.ms.queue.length → ¬writing →
       request s q = (s, false) ∧ requestOwn s q = { s with ms := { s.ms with held := s.ms.held ++ [⟨q, true⟩] } })) ∧
  (∀ (writing : Option Row) (queue held : List StoreEntry), queue.length ≤ 16 →
     let r := admitHeld writing queue held
     r.1.length ≤ 17 ∧ (r.1.length = 17 → ∃ w ∈ r.1, w.request.row? ≠ none ∧ w.request.row? = writing) ∧
     (∃ taken, held = taken ++ r.2) ∧
     (∀ e rest, r.2 = e :: rest →
       16 ≤ r.1.length ∧ ∀ row, e.request.row? = some row →
         writing ≠ some row ∧ ∀ w ∈ r.1, w.request.row? ≠ some row) ∧
     (held = [] → r = (queue, [])) ∧
     (∀ e rest, held = e :: rest → enqueue writing queue e = none → r = (queue, e :: rest)) ∧
     (∀ e rest q, held = e :: rest → enqueue writing queue e = some q → r = admitHeld writing q rest))

/-- An operation starts when none is in flight, an entry waits and the power warning is low: at STORE OPERATION START
and at the fall of the warning. The head leaves the queue at attempt 1, the latches take the snapshot or all ones, the
owner's mark is cleared, and the first held requests take the places freed. A commit of a key row that is not RETAINED
at its generation is carried out as an erase. While the warning is high none starts. STORE OPERATION START sent alone
where none may start has no effect, the model's choice (log entry 7). -/
def Obligations.StoreOperationStarts : Prop :=
  ∀ s : State,
    (s.ms.op ≠ none ∨ s.ms.queue = [] ∨ s.ms.warning = true → exec .storeOperationStart s = .next s) ∧
    exec .powerWarningRise s = .next { s with ms := { s.ms with warning := true } } ∧
    exec .powerWarningFall s = exec .storeOperationStart { s with ms := { s.ms with warning := false } } ∧
    ∀ e rest, s.ms.queue = e :: rest → s.ms.op = none → s.ms.warning = false →
      let refill := admitHeld e.request.row? rest s.ms.held
      let flying (t : State) (q : StoreRequest) (row : Row) (image : List Byte) : State :=
        { t with ms := { t.ms with
            op := some ⟨q, e.own, row, 1, 0⟩, latches := image, queue := refill.1, held := refill.2 } }
      (∀ i g, e.request = .commit (accountRow i) g →
        exec .storeOperationStart s = .next (flying (s.setAccount i { s.account i with dirty := false }) e.request
          (accountRow i) (encodeAccount (s.account i)))) ∧
      (∀ p g, e.request = .commit (historyRow p) g →
        exec .storeOperationStart s = .next (flying
          { s with tu := { s.tu with ringDirty := s.tu.ringDirty.set p false } } e.request (historyRow p)
          (encodeHistory s.tu.ring[p]))) ∧
      (∀ k g, e.request = .commit (settingsRow k) g →
        exec .storeOperationStart s = .next (flying
          (if k = 0 then { s with ms := { s.ms with lockUnsaved := false } } else s) e.request (settingsRow k)
          (encodeSettings k s))) ∧
      (∀ k g, e.request = .commit (egressRow k) g →
        exec .storeOperationStart s = .next (flying s e.request (egressRow k) (encodeEgress k s))) ∧
      (∀ k g, e.request = .commit (keyRow k) g →
        exec .storeOperationStart s = .next (
          if (s.key k).state = .retained ∧ (s.key k).generation = g then
            flying s e.request (keyRow k) (encodeKeySlot (s.key k))
          else flying s (.erase (keyRow k) g) (keyRow k) (List.replicate 64 0xFF))) ∧
      (∀ r g, e.request = .erase r g →
        exec .storeOperationStart s = .next (flying s e.request r (List.replicate 64 0xFF))) ∧
      ∀ g, e.request = .region g →
        exec .storeOperationStart s = .next (flying s e.request g.first (List.replicate 64 0xFF))

/-- A write of one row completes: the array takes the image written or what it retained of it. A match ends the
operation; a mismatch at attempt 1 is written again; a mismatch at attempt 2 drops it with STORE FAULT. The owner is
told, a long command counts its own, and the next operation starts. That the STORE FAULT
notice carries the row in 2 bytes is the model's reading (log entry 41). -/
def Obligations.RowWriteCompletes : Prop :=
  ∀ (s : State) (retained : Option (List Byte)),
    (s.ms.op = none → exec (.storeWriteComplete retained) s = .next s) ∧
    ∀ op, s.ms.op = some op → (∀ g, op.request ≠ .region g) →
      let image := retained.getD s.ms.latches
      let written (o : Option StoreOp) : State :=
        { s with ms := { s.ms with memory := s.ms.memory.writeRow op.row image, op := o } }
      let ended (t : State) (completed : Bool) : State :=
        let u := reportRow t op.request completed
        startIfReady (if op.own then countRow u completed else u)
      (image = s.ms.latches → exec (.storeWriteComplete retained) s = .next (ended (written none) true)) ∧
      (image ≠ s.ms.latches → op.attempt = 1 →
        exec (.storeWriteComplete retained) s = .next (written (some { op with attempt := 2 }))) ∧
      (image ≠ s.ms.latches → op.attempt = 2 →
        exec (.storeWriteComplete retained) s = .next
          (ended ((written none).raise .storeFault [.u16 op.row.val, .u8 op.request.code]) false))

/-- What an owner does when its row operation has completed or was dropped. A dropped commit sets the owner's mark
again; at the key slot of the row, RETAINED or ERASING at the same generation, persisted follows the row and an erased
ERASING slot becomes FREE with KEY ERASED; at any other slot the report is ignored. What an erase reported to a RETAINED
slot does is the model's choice (log entry 54). -/
def Obligations.OwnersAreTold : Prop :=
  ∀ s : State,
    (∀ i g, reportRow s (.commit (accountRow i) g) true = s ∧
      reportRow s (.commit (accountRow i) g) false = s.setAccount i { s.account i with dirty := true }) ∧
    (∀ p g, reportRow s (.commit (historyRow p) g) true = s ∧
      reportRow s (.commit (historyRow p) g) false =
        { s with tu := { s.tu with ringDirty := s.tu.ringDirty.set p true } }) ∧
    (∀ k g, reportRow s (.commit (settingsRow k) g) true = s ∧
      reportRow s (.commit (settingsRow k) g) false =
        if k = 0 then { s with ms := { s.ms with lockUnsaved := true } } else s) ∧
    (∀ k g completed, reportRow s (.commit (egressRow k) g) completed = s) ∧
    ∀ (k : Fin 64) (g : Half),
      let x := s.key k
      let current := (x.state = .retained ∨ x.state = .erasing) ∧ x.generation = g
      (¬current → ∀ completed,
        reportRow s (.commit (keyRow k) g) completed = s ∧ reportRow s (.erase (keyRow k) g) completed = s) ∧
      (current →
        (∀ completed, reportRow s (.commit (keyRow k) g) completed = s.setKey k { x with persisted := completed }) ∧
        (x.state = .retained → reportRow s (.erase (keyRow k) g) true = s.setKey k { x with persisted := false } ∧
          reportRow s (.erase (keyRow k) g) false = s) ∧
        (x.state = .erasing →
          reportRow s (.erase (keyRow k) g) false = s.setKey k { x with rowRequest := .erase } ∧
          reportRow s (.erase (keyRow k) g) true =
            (s.setKey k
              { state := .free, generation := g, owner := 0, cipherKey := 0, checkKey := 0, created := 0, expiry := none,
                releases := 0, persisted := false, naming := none, cause := none, rowRequest := .none }
              ).raise .keyErased
                [.u8 k.val, .u16 g.toNat, .u32 x.owner, .u8 (match x.cause with | some c => c.code | none => 0)]))

/-- A region erase writes its rows one at a time from the lowest, each once more on a mismatch; a row that mismatches
twice is counted and raises STORE FAULT. After the last row it ends with the number of failed rows in the reply, and
where the key rows lie in its range every slot has persisted clear and the ERASING slots become FREE. That the STORE
FAULT notice carries the row in 2 bytes is the model's reading (log entry 41). That the ERASING slots become FREE in
rising slot numbers is the model's choice (log entry 52). -/
def Obligations.RegionErases : Prop :=
  ∀ (s : State) (retained : Option (List Byte)) (op : StoreOp) (g : Region), s.ms.op = some op → op.request = .region g →
    let image := retained.getD s.ms.latches
    let written (o : Option StoreOp) (latches : List Byte) : State :=
      { s with ms := { s.ms with memory := s.ms.memory.writeRow op.row image, op := o, latches := latches } }
    let failed := if image = s.ms.latches then op.failed else op.failed + 1
    let report (t : State) : State :=
      if image = s.ms.latches then t else t.raise .storeFault [.u16 op.row.val, .u8 2]
    (image ≠ s.ms.latches → op.attempt = 1 →
      exec (.storeWriteComplete retained) s = .next (written (some { op with attempt := 2 }) s.ms.latches)) ∧
    (image = s.ms.latches ∨ op.attempt = 2 →
      (∀ next : Row, op.row.val < g.last.val → next.val = op.row.val + 1 →
        exec (.storeWriteComplete retained) s = .next (report (written
          (some { op with row := next, attempt := 1, failed := failed }) (List.replicate 64 0xFF)))) ∧
      (g.last.val ≤ op.row.val →
        let freed (t : State) : State :=
          if g = .accounts then t
          else
            (List.finRange 64).foldl (fun t k =>
              let x := t.key k
              if x.state = .erasing then
                (t.setKey k
                  { state := .free, generation := x.generation, owner := 0, cipherKey := 0, checkKey := 0, created := 0,
                    expiry := none, releases := 0, persisted := false, naming := none, cause := none,
                    rowRequest := .none }).raise .keyErased
                  [.u8 k.val, .u16 x.generation.toNat, .u32 x.owner,
                   .u8 (match x.cause with | some c => c.code | none => 0)]
              else t.setKey k { x with persisted := false }) t
        let t := freed (report (written none s.ms.latches))
        exec (.storeWriteComplete retained) s = .next (startIfReady (
          match s.cu.state with
          | .working kind tag _ => t.setUnit (.replying ⟨kind, tag, .ok, [.u16 failed]⟩)
          | _ => t))))

/-- FLUSH METERS, SAVE SETTINGS and LOCK METERS: which rows they request, in order, and what they answer or wait for.
A long command waits for the operations it counts: each that ends takes one off, and the last builds the reply with
the numbers of rows committed and dropped. -/
def Obligations.StoreCommandsRequest : Prop :=
  (∀ (s : State) (tag : Byte), Ready s →
     (let dirty := (List.finRange 256).filter fun i => (s.account i).dirty
      exec (.flushMeters tag) s = .next (
        if dirty = [] then s.answered 33 tag .ok [.u16 0, .u16 0]
        else
          (dirty.foldl (fun t i =>
            requestOwn (t.setAccount i { t.account i with sinceFlush := 0 }) (.commit (accountRow i) 0)) s).setUnit
            (.working 33 tag (.rows dirty.length 0 0)))) ∧
     (∃ rows : List Row, rows.map Fin.val = (List.range 22).map (· + 2) ∧
       exec (.saveSettings tag) s = .next
         ((rows.foldl (fun t r => requestOwn t (.commit r 0)) s).setUnit (.working 34 tag (.rows 22 0 0)))) ∧
     exec (.lockMeters tag) s = .next (
       if s.ms.lock then s.answered 35 tag .ok []
       else
         (request { s with ms := { s.ms with lock := true, lockUnsaved := true } } (.commit (settingsRow 0) 0)).1.answered
           35 tag .ok [])) ∧
  (∀ (s : State) (kind tag : Byte) (n c d : Nat) (completed : Bool), s.cu.state = .working kind tag (.rows n c d) → 0 < n →
     let c' := if completed then c + 1 else c
     let d' := if completed then d else d + 1
     countRow s completed = s.setUnit (
       if n = 1 then .replying ⟨kind, tag, .ok, [.u16 c', .u16 d']⟩ else .working kind tag (.rows (n - 1) c' d')))

/-- SANITIZE by its scope: what each refuses, and its steps up to the request of the region erase, which absorbs the
waiting entries of its range. KEYS cancels every SCAN and RELEASE job that is not FREE: the pages of an ACTIVE or HELD one
are voided and its announced page is absent; its buffered frames are discarded, it is DRAINING with the cancel flag and
reason SANITIZE; then each is tested for its drain, in rising handles (log entry 37). KEYS and ALL then act on every key
slot in slot order: nothing at a FREE or ERASING slot, the keys of an ACTIVE slot zeroised, those of a named RETAINED slot
too with its releases 0, and an unnamed RETAINED slot ERASING with cause SANITIZED. No key of an ACTIVE or RETAINED slot is
left, PRINT jobs are not affected by KEYS, and ALL returns every setting to its default and clears the meter lock. The
stop of ch0 is requested whether or not a session is open (log entry 24). -/
def Obligations.SanitizeScopes : Prop :=
  ∀ (s : State) (tag scope : Byte), Ready s →
    let busy := ∃ h, (s.job h).state ≠ .free
    let stopped : Channel :=
      if s.tb.channels[0].running then { s.tb.channels[0] with stopPending := true } else s.tb.channels[0]
    let blank : Account :=
      { id := 0, state := .absent, privileges := 0, quota := 0, charged := 0, reserved := 0,
        counters := Vector.replicate 7 0, window1 := ⟨0, 0⟩, window2 := ⟨0, 0⟩, lastCharge := 0, dirty := false,
        sinceFlush := 0 }
    let long (t : State) : State := t.setUnit (.working 36 tag .region)
    (3 ≤ scope.toNat → exec (.sanitize tag scope) s = .next (s.answered 36 tag .malformed [])) ∧
    let cancelled (u : State) (h : Fin 16) : State :=
      let paged := if ∃ p ∈ u.pp.openPage, p.tag.job = h then voidOpenPage u else u
      let voided := if ∃ p ∈ paged.sp.page, p.tag.job = h then voidScanPage paged else paged
      let unannounced : State :=
        if (voided.job h).kind = .scan ∧ (voided.job h).state = .active then
          { voided with sp := { voided.sp with announced := none } }
        else voided
      let v := discardFrames (if (u.job h).state = .draining then u else unannounced) h
      { v with jt := v.jt.set h { v.job h with state := .draining, cancel := true, reason := some .sanitize } }
    let slotDone (u : State) (k : Fin 64) : State :=
      let x := u.key k
      match x.state with
      | .free | .erasing => u
      | .active => u.setKey k { x with cipherKey := 0, checkKey := 0 }
      | .retained =>
        if x.naming = none then enterErasing u k .sanitized
        else u.setKey k { x with cipherKey := 0, checkKey := 0, releases := 0 }
    (scope = 0 → ∃ hit : List (Fin 16),
      hit.Pairwise (· < ·) ∧ (∀ h, h ∈ hit ↔ (s.job h).kind ≠ .print ∧ (s.job h).state ≠ .free) ∧
      let u := hit.foldl drainTest (hit.foldl cancelled s)
      let t := (List.finRange 64).foldl slotDone u
      exec (.sanitize tag scope) s = .next (long (requestRegion t .keys)) ∧
      (∀ k, (s.key k).state = .active ∨ (s.key k).state = .retained → (t.key k).cipherKey = 0 ∧ (t.key k).checkKey = 0) ∧
      ∀ h, ((s.job h).kind = .print → t.job h = s.job h) ∧
        (h ∈ hit → (t.job h).cancel = true ∧ (t.job h).reason = some .sanitize ∧
          ((t.job h).state = .free ∨ (t.job h).state = .draining ∧ (t.job h).kind = (s.job h).kind))) ∧
    (scope = 1 →
      exec (.sanitize tag scope) s = .next (
        if s.ms.lock then s.answered 36 tag .locked []
        else if busy then s.answered 36 tag .busy []
        else
          long (requestRegion { s with
            acct := { s.acct with records := Vector.replicate 256 blank, session := none }
            tb := { s.tb with channels := s.tb.channels.set 0 stopped } } .accounts))) ∧
    (scope = 2 →
      (busy → exec (.sanitize tag scope) s = .next (s.answered 36 tag .busy [])) ∧
      (¬busy →
        let t := (List.finRange 64).foldl slotDone s
        let defaults : Vector (Tap × Nat) 4 := #v[(.t1, 120), (.t60, 1), (.t60, 5), (.t60, 60)]
        exec (.sanitize tag scope) s = .next (long (requestRegion { t with
          acct := { records := Vector.replicate 256 blank, prices := Vector.replicate 7 0, postscale := 8, session := none }
          dm := { t.dm with tables := Vector.replicate 4 ToneTable.default, threshold := 50 }
          tu := { t.tu with policy := .strict, lowMark := 100, step := 1048576, ring := Vector.replicate 16 none,
                            ringDirty := Vector.replicate 16 false, ringNext := 0 }
          sp := { t.sp with egress := Vector.replicate 256 ⟨.cipher, 1440, 1⟩ }
          ms := { t.ms with lock := false, lockUnsaved := false }
          tb := { t.tb with
            trim := 0
            channels := Vector.ofFn fun c =>
              let x := (s.tb.channels.set 0 stopped)[c]
              if x.running ∨ x.stopPending then { x with staged := some defaults[c] }
              else { x with tap := defaults[c].1, period := defaults[c].2, staged := none } } } .all)) ∧
        ∀ k, (s.key k).state = .active ∨ (s.key k).state = .retained → (t.key k).cipherKey = 0 ∧ (t.key k).checkKey = 0)) ∧
    ∀ g : Region, requestRegion s g = requestOwn { s with ms := { s.ms with
      queue := s.ms.queue.filter fun e => match e.request.row? with
        | some r => !(g.first.val ≤ r.val && r.val ≤ g.last.val)
        | none => true } } (.region g)

/-- Reading and writing the array: a row reads back the 64 bytes written to it, every other row keeps its bytes, and
the canonical form is kept. The canonical form, premise and conclusion, is the model's choice (log entry 1). -/
def Obligations.RowsReadBack : Prop :=
  ∀ (m : Memory) (r : Row) (image : List Byte), m.wf = true →
    (m.writeRow r image).wf = true ∧
    (image.length = 64 → (m.writeRow r image).row r = image) ∧
    ∀ q, q ≠ r → (m.writeRow r image).row q = m.row q

/-! ### Cartridges -/

/-- RECHECK CARTRIDGE by the state of the slot: a recheck begins with CHALLENGE on a free line, or waits; a refused or
mute slot is SENSED for a full check. The full check of a SENSED slot begins: CHECKING, and IDENTIFY sent; a slot in
another state is left as it is. The nonce is the model's numbering of draws (log entry 6); the BUSY of a refused slot
with an exchange on its line is the model's choice for a state no run reaches (log entry 22). FULL CHECK START sent
alone begins the check at any moment on a SENSED slot with a free line and has no effect otherwise, the model's choice
(log entry 7). -/
def Obligations.ChecksBegin : Prop :=
  (∀ (s : State) (tag slot : Byte), Ready s →
     (4 ≤ slot.toNat → exec (.recheckCartridge tag slot) s = .next (s.answered 25 tag .noEntry [])) ∧
     ∀ c : Fin 4, c.val = slot.toNat →
       let x := s.slot c
       let challenge : TagRequest := .challenge (Config.randomNonce s.draws)
       let begun : State := { s with
         tu := { s.tu with slots := s.tu.slots.set c { x with exchange := some ⟨challenge, .recheck, 0⟩ } }
         draws := s.draws + 1
         tagOut := s.tagOut ++ [(c, encodeTagRequest challenge)] }
       exec (.recheckCartridge tag slot) s = .next (
         match x.state with
         | .genuine | .spent =>
           (if x.exchange = none ∧ x.writePending = false then begun
            else if ∃ e ∈ x.exchange, e.sequence = .recheck then s
            else s.setSlot c { x with recheckPending := true }).answered 25 tag .ok []
         | .rejected _ | .mute =>
           if x.exchange = none then (s.setSlot c { x with state := .sensed }).answered 25 tag .ok []
           else s.answered 25 tag .busy []
         | .sensed | .checking => s.answered 25 tag .busy []
         | .empty => s.answered 25 tag .noEntry [])) ∧
  (∀ (s : State) (c : Fin 4),
     exec (.fullCheckStart c) s = .next (
       if (s.slot c).state = .sensed ∧ (s.slot c).exchange = none then
         { s.setSlot c { s.slot c with state := .checking, exchange := some ⟨.identify, .check, 0⟩ } with
           tagOut := s.tagOut ++ [(c, encodeTagRequest .identify)] }
       else s))

/-- A debounced rise clears the slot for a new cartridge, its unmetered deposit kept; a debounced fall appends a
REMOVED row for a GENUINE or SPENT slot, aborts the exchange and empties the slot. Each evaluates the change flag and
raises CARTRIDGE CHANGE, whose notice gives the level as one byte (log entry 47). An edge to the level the slot has is none
(log entry 7). -/
def Obligations.PresenceEdges : Prop :=
  ∀ (s : State) (c : Fin 4),
    let x := s.slot c
    exec (.debouncedRise c) s = .next (
      if x.level then s
      else
        (s.setSlot c
          { x with
            insertions := min 65535 (x.insertions + 1), insertionTime := s.tb.seconds, residue := 0, serial := none,
            model := none, ratedYield := 0, rationKnown := false, mirror := 0, confirmed := 0, writeCount := 0,
            developed := 0, overdraw := 0, lowReported := false, writePending := false, recheckPending := false,
            state := .sensed, sample := true, level := true, debounce := 0, changed := !x.latch }).raise
          .cartridgeChange [.u8 c.val, .flag true]) ∧
    exec (.debouncedFall c) s = .next (
      if x.level then
        let low : Cartridge := { x with sample := false, level := false, debounce := 0 }
        let row : HistoryRow :=
          { event := .removed, slot := c, serial := x.serial.getD 0, mirror := x.mirror, insertionTime := x.insertionTime,
            eventTime := s.tb.seconds, developed := x.developed, overdraw := x.overdraw }
        let t := s.setSlot c low
        ((if x.state = .genuine ∨ x.state = .spent then t.recorded row else t).setSlot c
          { low with
            exchange := none, writePending := false, recheckPending := false, state := .empty, changed := x.latch }).raise
          .cartridgeChange [.u8 c.val, .flag false]
      else s)

/-- The answer to IDENTIFY: another cartridge than the one held has the cartridge fields cleared first; then serial,
model code and rated yield are recorded. The right colorant is challenged with a fresh nonce, a wrong one is
REJECTED(WRONG SLOT). The answer to CHALLENGE: a response is good when it equals the keyed hash of the nonce and the
serial under the tag key of the master secret and the serial; a good one is followed by READ RATION of the same
sequence, a bad one makes the slot REJECTED(BAD RESPONSE). An answer no exchange waits for is discarded. The keyed
functions are free constants (log entry 5), the nonce a numbered draw (log entry 6);
a colorant that names no plane counts as a wrong one (log entry 20). -/
def Obligations.IdentifyAndChallengeAnswered : Prop :=
  (∀ (s : State) (c : Fin 4) (serial : Dword) (colorant : Byte) (model : Half) (rated : Word),
     let x := s.slot c
     let answered := exec (.identifyAnswer c serial colorant model rated) s
     ((∀ e ∈ x.exchange, e.request ≠ .identify) → answered = .next s) ∧
     ∀ e, x.exchange = some e → e.request = .identify →
       let same := x.rationKnown = true ∧ x.serial = some serial
       let kept : Cartridge :=
         if same then x
         else
           { x with mirror := 0, confirmed := 0, writeCount := 0, developed := 0, overdraw := 0, rationKnown := false,
                    lowReported := false, writePending := false, recheckPending := false }
       let y : Cartridge :=
         { kept with serial := some serial, model := some ⟨colorant, model⟩, ratedYield := rated.toNat, exchange := none }
       let challenge : TagRequest := .challenge (Config.randomNonce s.draws)
       (colorant.toNat = c.val →
         answered = .next { s with
           tu := { s.tu with slots := s.tu.slots.set c { y with exchange := some ⟨challenge, .check, 0⟩ } }
           draws := s.draws + 1
           tagOut := s.tagOut ++ [(c, encodeTagRequest challenge)] }) ∧
       (colorant.toNat ≠ c.val →
         answered = .next ((s.setSlot c
           { y with state := .rejected .wrongSlot, writePending := false, recheckPending := false }).raise
           .cartridgeState [.u8 c.val, .u8 5, .opt 1 (some 0), .opt 8 (some serial.toNat)]))) ∧
  (∀ (s : State) (c : Fin 4) (response : Dword),
     let x := s.slot c
     let answered := exec (.challengeAnswer c response) s
     ((∀ e ∈ x.exchange, ∀ n, e.request ≠ .challenge n) → answered = .next s) ∧
     ∀ e nonce, x.exchange = some e → e.request = .challenge nonce →
       let good := ∃ secret, s.tu.masterSecret = some secret ∧
         response = Config.tagHash (Config.tagKey secret (x.serial.getD 0)) nonce (x.serial.getD 0)
       (good →
         answered = .next { s.setSlot c { x with exchange := some ⟨.readRation, e.sequence, 0⟩ } with
           tagOut := s.tagOut ++ [(c, encodeTagRequest .readRation)] }) ∧
       (¬good →
         answered = .next ((s.setSlot c
           { x with state := .rejected .badResponse, exchange := none, writePending := false, recheckPending := false }).raise
           .cartridgeState [.u8 c.val, .u8 5, .opt 1 (some 1), .opt 8 (x.serial.map BitVec.toNat)])))

/-- The answer to READ RATION at the end of a full check: the ration limited to the rated yield is the confirmed ration
and, but for the continuity test, the mirror; the slot is GENUINE or SPENT. A slot that becomes SPENT has a history row
of event SPENT written at the next-write position, with its commit requested; a slot that becomes GENUINE is tested for
RATION LOW, once per cartridge; and CARTRIDGE STATE is set with its notice. A kept mirror a step below the ration is
written back at once. Every other slot and every other table but the store keeps its state. That RATION LOW is raised
before CARTRIDGE STATE is the model's reading (log entry 16). -/
def Obligations.CheckEnds : Prop :=
  ∀ (s : State) (c : Fin 4) (ration : Word) (count : Half) (e : Exchange), (s.slot c).exchange = some e →
    e.request = .readRation → e.sequence = .check →
    let x := s.slot c
    let r := min ration.toNat x.ratedYield
    let m := if x.rationKnown then min x.mirror r else r
    let low := 0 < m ∧ m * 1000 < s.tu.lowMark * x.ratedYield ∧ x.lowReported = false
    let row : HistoryRow :=
      { event := .spent, slot := c, serial := x.serial.getD 0, mirror := 0, insertionTime := x.insertionTime,
        eventTime := s.tb.seconds, developed := x.developed, overdraw := x.overdraw }
    let u := if m = 0 then s.recorded row else s
    let told := (if low then s.raise .rationLow [.u8 c.val, .u64 (x.serial.getD 0), .u32 m] else s).raise .cartridgeState
      [.u8 c.val, .u8 (if m = 0 then 4 else 3), .opt 1 none, .opt 8 (x.serial.map BitVec.toNat)]
    ∃ t, exec (.readRationAnswer c ration count) s = .next t ∧
      (t.slot c).confirmed = r ∧ (t.slot c).mirror = m ∧ (t.slot c).rationKnown = true ∧
      (t.slot c).writeCount = count.toNat ∧ (t.slot c).state = (if m = 0 then .spent else .genuine) ∧
      t.status = told.status ∧ ((t.slot c).lowReported = true ↔ low ∨ x.lowReported = true) ∧
      t.tu = { u.tu with slots := t.tu.slots } ∧ t.ms = u.ms ∧ t.acct = u.acct ∧
      (x.rationKnown = true → s.tu.step ≤ r - m → (t.slot c).exchange = some ⟨.writeRation m, .writeBack, 0⟩) ∧
      (x.rationKnown = false ∨ r - m < s.tu.step → x.writePending = false → x.recheckPending = false →
        (t.slot c).exchange = none) ∧
      (t.slot c).developed = x.developed ∧ (t.slot c).overdraw = x.overdraw ∧ (t.slot c).residue = x.residue ∧
      (∀ d, d ≠ c → t.slot d = s.slot d) ∧ (∀ i, (t.account i).sameMoney (s.account i)) ∧
      t.li = s.li ∧ t.cu = s.cu ∧ t.jt = s.jt ∧ t.pp = s.pp ∧ t.dm = s.dm ∧ t.st = s.st ∧ t.sp = s.sp ∧ t.kt = s.kt ∧
      t.tb = s.tb ∧ t.ms.memory = s.ms.memory ∧ t.pending = s.pending

/-- READ RATION at the end of a recheck: the confirmed ration is the tag's, limited to the rated yield; a mirror above
it is lowered to it, and one below it waits to be written. WRITE RATION: the confirmed ration is the tag's, limited to
the rated yield, the mirror is at most that, and a mirror a further step below is written at once. A GENUINE slot whose
mirror becomes 0 is SPENT, with a history row of event SPENT whose commit is requested, and CARTRIDGE STATE with its
notice; otherwise the state is kept. A mirror that falls is then tested for RATION LOW, whose flag and notice come once
per cartridge. The nonce of a recheck that waited is a numbered draw, the model's choice (log entry 6). That the RATION
LOW test is made only where the answer lowers the mirror is the model's reading (log entry 16). -/
def Obligations.RecheckAndWriteAnswered : Prop :=
  (∀ (s : State) (c : Fin 4) (ration : Word) (count : Half) (e : Exchange), (s.slot c).exchange = some e →
     e.request = .readRation → e.sequence ≠ .check → (s.slot c).state = .genuine ∨ (s.slot c).state = .spent →
     let x := s.slot c
     let r := min ration.toNat x.ratedYield
     let spent := x.state = .genuine ∧ r = 0 ∧ 0 < x.mirror
     let low := r < x.mirror ∧ r * 1000 < s.tu.lowMark * x.ratedYield ∧ x.lowReported = false
     let row : HistoryRow :=
       { event := .spent, slot := c, serial := x.serial.getD 0, mirror := 0, insertionTime := x.insertionTime,
         eventTime := s.tb.seconds, developed := x.developed, overdraw := x.overdraw }
     let u := if spent then s.recorded row else s
     let told := if spent then
         s.raise .cartridgeState [.u8 c.val, .u8 4, .opt 1 none, .opt 8 (x.serial.map BitVec.toNat)]
       else s
     ∃ t, exec (.readRationAnswer c ration count) s = .next t ∧
       (t.slot c).confirmed = r ∧ (t.slot c).mirror = min x.mirror r ∧ (t.slot c).writeCount = count.toNat ∧
       (t.slot c).state = (if spent then .spent else x.state) ∧
       t.status = (if low then told.raise .rationLow [.u8 c.val, .u64 (x.serial.getD 0), .u32 r] else told).status ∧
       ((t.slot c).lowReported = true ↔ low ∨ x.lowReported = true) ∧
       t.tu = { u.tu with slots := t.tu.slots } ∧ t.ms = u.ms ∧ t.acct = u.acct ∧
       (x.mirror < r ∨ x.writePending = true →
         (t.slot c).exchange = some ⟨.writeRation (min x.mirror r), .writeBack, 0⟩ ∧ (t.slot c).writePending = false) ∧
       (r ≤ x.mirror → x.writePending = false → x.recheckPending = true →
         (t.slot c).exchange = some ⟨.challenge (Config.randomNonce s.draws), .recheck, 0⟩ ∧
         (t.slot c).recheckPending = false) ∧
       (r ≤ x.mirror → x.writePending = false → x.recheckPending = false → (t.slot c).exchange = none) ∧
       (∀ d, d ≠ c → t.slot d = s.slot d) ∧ (∀ i, (t.account i).sameMoney (s.account i)) ∧
       t.li = s.li ∧ t.cu = s.cu ∧ t.jt = s.jt ∧ t.pp = s.pp ∧ t.dm = s.dm ∧ t.st = s.st ∧ t.sp = s.sp ∧ t.kt = s.kt ∧
       t.tb = s.tb ∧ t.ms.memory = s.ms.memory ∧ t.pending = s.pending) ∧
  (∀ (s : State) (c : Fin 4) (ration : Word) (count : Half) (e : Exchange) (v : Nat), (s.slot c).exchange = some e →
     e.request = .writeRation v → (s.slot c).state = .genuine ∨ (s.slot c).state = .spent →
     let x := s.slot c
     let a := min ration.toNat x.ratedYield
     let m := min x.mirror a
     let spent := x.state = .genuine ∧ a = 0 ∧ 0 < x.mirror
     let low := a < x.mirror ∧ a * 1000 < s.tu.lowMark * x.ratedYield ∧ x.lowReported = false
     let row : HistoryRow :=
       { event := .spent, slot := c, serial := x.serial.getD 0, mirror := 0, insertionTime := x.insertionTime,
         eventTime := s.tb.seconds, developed := x.developed, overdraw := x.overdraw }
     let u := if spent then s.recorded row else s
     let told := if spent then
         s.raise .cartridgeState [.u8 c.val, .u8 4, .opt 1 none, .opt 8 (x.serial.map BitVec.toNat)]
       else s
     ∃ t, exec (.writeRationAnswer c ration count) s = .next t ∧
       (t.slot c).confirmed = a ∧ (t.slot c).mirror = m ∧ (t.slot c).writeCount = count.toNat ∧
       (t.slot c).state = (if spent then .spent else x.state) ∧
       t.status = (if low then told.raise .rationLow [.u8 c.val, .u64 (x.serial.getD 0), .u32 a] else told).status ∧
       ((t.slot c).lowReported = true ↔ low ∨ x.lowReported = true) ∧
       t.tu = { u.tu with slots := t.tu.slots } ∧ t.ms = u.ms ∧ t.acct = u.acct ∧
       (s.tu.step ≤ a - m ∨ x.writePending = true → (t.slot c).exchange = some ⟨.writeRation m, .writeBack, 0⟩) ∧
       (a - m < s.tu.step → x.writePending = false → x.recheckPending = true →
         (t.slot c).exchange = some ⟨.challenge (Config.randomNonce s.draws), .recheck, 0⟩) ∧
       (a - m < s.tu.step → x.writePending = false → x.recheckPending = false → (t.slot c).exchange = none) ∧
       (∀ d, d ≠ c → t.slot d = s.slot d) ∧ (∀ i, (t.account i).sameMoney (s.account i)) ∧
       t.li = s.li ∧ t.cu = s.cu ∧ t.jt = s.jt ∧ t.pp = s.pp ∧ t.dm = s.dm ∧ t.st = s.st ∧ t.sp = s.sp ∧ t.kt = s.kt ∧
       t.tb = s.tb ∧ t.ms.memory = s.ms.memory ∧ t.pending = s.pending)

/-- An exchange that ends without an answer makes the slot MUTE with CARTRIDGE STATE and clears its waiting work; a
free line takes its waiting work, the write before the recheck, and a slot that is not GENUINE or SPENT clears it
unsent. The nonce is a numbered draw (log entry 6); the rows sent alone follow log entry 7. -/
def Obligations.LinesServed : Prop :=
  ∀ (s : State) (c : Fin 4),
    let x := s.slot c
    exec (.exchangeLimit c) s = .next (
      if x.exchange = none then s
      else
        (s.setSlot c
          { x with state := .mute, exchange := none, writePending := false, recheckPending := false }).raise
          .cartridgeState [.u8 c.val, .u8 6, .opt 1 none, .opt 8 (x.serial.map BitVec.toNat)]) ∧
    exec (.serveWaitingWork c) s = .next (
      if x.exchange ≠ none then s
      else if x.state ≠ .genuine ∧ x.state ≠ .spent then
        s.setSlot c { x with writePending := false, recheckPending := false }
      else if x.writePending then
        { s.setSlot c { x with writePending := false, exchange := some ⟨.writeRation x.mirror, .writeBack, 0⟩ } with
          tagOut := s.tagOut ++ [(c, encodeTagRequest (.writeRation x.mirror))] }
      else if x.recheckPending then
        let challenge : TagRequest := .challenge (Config.randomNonce s.draws)
        { s with
          tu := { s.tu with
            slots := s.tu.slots.set c { x with recheckPending := false, exchange := some ⟨challenge, .recheck, 0⟩ } }
          draws := s.draws + 1
          tagOut := s.tagOut ++ [(c, encodeTagRequest challenge)] }
      else s)

/-- A deposit is booked against the ration of the cartridge whose serial it carries while the slot holds it GENUINE or
SPENT: what exceeds the mirror goes to the overdraw, and a GENUINE slot whose mirror reaches 0 is SPENT, with a history
row of event SPENT whose commit is requested, and CARTRIDGE STATE with its notice. The write-back test then sends the
write on a free line, sets write pending behind another exchange, and sets nothing while a write is in flight. A mirror
that falls is last tested for RATION LOW, whose flag and notice come once per cartridge. A deposit of 0 raises the
developed impressions alone (log entry 29). Any other deposit goes to the slot's unmetered deposit and changes nothing
else. That the RATION LOW test is made only where the booking lowers the mirror is the model's reading (log entry 16).
-/
def Obligations.DepositBooked : Prop :=
  ∀ (s : State) (c : Fin 4) (d : Nat) (serial : Option Dword),
    let x := s.slot c
    let held := serial ≠ none ∧ x.serial = serial ∧ (x.state = .genuine ∨ x.state = .spent)
    let m := if d ≤ x.mirror then x.mirror - d else 0
    let developed := min 4294967295 (x.developed + 1)
    let overdraw := min 4294967295 (x.overdraw + if d ≤ x.mirror then 0 else d - x.mirror)
    let spent := x.state = .genuine ∧ 0 < x.mirror ∧ x.mirror ≤ d
    let low := 0 < d ∧ 0 < x.mirror ∧ m * 1000 < s.tu.lowMark * x.ratedYield ∧ x.lowReported = false
    let due := 0 < d ∧ s.tu.step ≤ x.confirmed - m
    let row : HistoryRow :=
      { event := .spent, slot := c, serial := x.serial.getD 0, mirror := 0, insertionTime := x.insertionTime,
        eventTime := s.tb.seconds, developed := developed, overdraw := overdraw }
    let u := if spent then s.recorded row else s
    let told := if spent then
        s.raise .cartridgeState [.u8 c.val, .u8 4, .opt 1 none, .opt 8 (x.serial.map BitVec.toNat)]
      else s
    let t := bookDeposit s c d serial
    let y := t.slot c
    (¬held → t = s.setSlot c { x with unmetered := min 4294967295 (x.unmetered + d) }) ∧
    (held →
      y = { x with
        developed := developed, mirror := m, overdraw := overdraw, state := if spent then .spent else x.state
        lowReported := y.lowReported, exchange := y.exchange, writePending := y.writePending } ∧
      (d = 0 → t = s.setSlot c { x with developed := developed, overdraw := overdraw }) ∧
      t.status = (if low then told.raise .rationLow [.u8 c.val, .u64 (x.serial.getD 0), .u32 m] else told).status ∧
      (y.lowReported = true ↔ low ∨ x.lowReported = true) ∧
      (due → x.exchange = none →
        y.exchange = some ⟨.writeRation m, .writeBack, 0⟩ ∧ y.writePending = x.writePending ∧
        t.tagOut = s.tagOut ++ [(c, encodeTagRequest (.writeRation m))]) ∧
      (∀ e, due → x.exchange = some e → y.exchange = some e ∧ t.tagOut = s.tagOut ∧
        ((∀ v, e.request ≠ .writeRation v) → y.writePending = true) ∧
        ∀ v, e.request = .writeRation v → y.writePending = x.writePending) ∧
      (¬due → y.exchange = x.exchange ∧ y.writePending = x.writePending ∧ t.tagOut = s.tagOut) ∧
      (∀ b, b ≠ c → t.slot b = s.slot b) ∧
      t = { u with tu := { u.tu with slots := t.tu.slots }, status := t.status, tagOut := t.tagOut })

/-! ### The page stream -/

/-- A band whose job takes no print band, or of a plane its MONO job has not, or that is stale, is discarded and
counted; the first of these raises BAND REFUSED once per page number. A band that arrives while another job's page is
open waits, and so does an opening band without the engine or without tracker room. A band that waits for a cause that
has not ended stays as it is, and so does everything else: BAND REEXAMINED before that end has no effect (log entry 7),
and neither has a command that arrives while the band waits, for which READ STATUS stands here (log entry 8); both are
the model's choice. Where the engine is not ready and the tracker is full too, the band waits for the engine (log entry
51). -/
def Obligations.BandsTurnedAway : Prop :=
  (∀ (i : Instr) (s : State) (b : Band), Examines i s b →
     let t := s.bandTaken
     let j := s.job b.job
     let counted (t : State) : State :=
       t.setJob b.job
         { j with counters := { j.counters with refused := min 4294967295 (j.counters.refused + 1) } }
     let refused : State :=
       if s.marker b.job = some b.page then counted t
       else ((counted t).setMarker b.job (some b.page)).raise .bandRefused [.u8 b.job.val, .u16 b.page]
     let waits (r : WaitReason) : State := { s with li := { s.li with bandPosition := some ⟨b, r⟩ } }
     let used := ∃ n ∈ j.lastPage, b.page ≤ n
     (j.state ≠ .active ∨ j.kind = .scan → exec i s = .next refused) ∧
     (j.state = .active → j.kind ≠ .scan → j.mode = .mono → b.plane ≠ 0 → exec i s = .next (counted t)) ∧
     (j.state = .active → j.kind ≠ .scan → (j.mode = .mono → b.plane = 0) →
       (∀ p, s.pp.openPage = some p → p.tag.job = b.job → b.page < p.tag.page → exec i s = .next (counted t)) ∧
       (∀ p, s.pp.openPage = some p → p.tag.job ≠ b.job →
         exec i s = .next (if used then counted t else waits .interleave)) ∧
       (s.pp.openPage = none →
         (used → exec i s = .next (counted t)) ∧
         (¬used → b.index ≠ 0 → exec i s = .next refused) ∧
         (¬used → b.index = 0 → s.pp.engineReady = false → exec i s = .next (waits .engine)) ∧
         (¬used → b.index = 0 → s.pp.engineReady = true → 24 ≤ s.st.entries.length →
           exec i s = .next (waits .tracker))))) ∧
  (∀ s : State,
     (s.li.bandPosition = none → exec .bandReexamined s = .next s) ∧
     ∀ w, s.li.bandPosition = some w →
       ((w.reason = .interleave ∧ s.pp.openPage ≠ none) ∨ (w.reason = .engine ∧ s.pp.engineReady = false) ∨
         (w.reason = .tracker ∧ 24 ≤ s.st.entries.length) → exec .bandReexamined s = .next s) ∧
       ∀ tag, exec (.readStatus tag) s = .next s)

/-- The admission of a page: the Cartridge Unit, then the Account Table. A refusal holds the job and counts the
opening band, with nothing reserved. An admission reserves the price, appends the entry, opens the page with clear
accumulators, starts the page in the job, restarts the idle channel of the account's session and announces the page to
the engine; the opening band is then taken as its first band. A band of a higher page voids the open page of its job
first. -/
def Obligations.PagesAdmitted : Prop :=
  ∀ (i : Instr) (s : State) (b : Band), Examines i s b →
    let t := s.bandTaken
    let j := s.job b.job
    let a := s.account j.account
    let size := j.size.getD .small
    let cls : TariffClass := match j.mode, size with
      | .mono, .small => .monoS | .mono, .large => .monoL | .color, .small => .colorS | .color, .large => .colorL
    let price := s.acct.prices[cls.code]'(by cases cls <;> decide)
    let needed : List (Fin 4) := if j.mode = .mono then [0] else [0, 1, 2, 3]
    let spent := ∃ c ∈ needed, (s.slot c).state = .spent
    let missing := s.tu.policy = .strict ∧ ∃ c ∈ needed, (s.slot c).state ≠ .genuine
    let countRefused (u : State) : State :=
      u.setJob b.job { u.job b.job with
        counters := { (u.job b.job).counters with refused := min 4294967295 ((u.job b.job).counters.refused + 1) } }
    let held (r : Reason) : Host.Outcome State Fault Refusal := .next (countRefused (holdJob t b.job r))
    let entry : Entry :=
      { tag := ⟨b.job, b.page⟩, account := j.account, provisional := cls, reserved := price, status := .forwarding,
        final := none, deposits := Vector.replicate 4 none, serials := Vector.replicate 4 none }
    let page : OpenPage :=
      { tag := ⟨b.job, b.page⟩, kind := j.kind, mode := j.mode, size := size, key := j.key, width := b.width,
        planes := Vector.replicate 4 ⟨0, 0, false⟩ }
    let opened : State := { t with
      acct := { s.acct with records := s.acct.records.set j.account { a with reserved := a.reserved + price } }
      tb := { s.tb with channels := if ∃ x ∈ s.acct.session, x.account = j.account
        then s.tb.channels.set 0 s.tb.channels[0].start else s.tb.channels }
      st := { s.st with entries := s.st.entries ++ [entry] }
      pp := { s.pp with openPage := some page }
      dm := { s.dm with accum := some (Vector.replicate 4 ⟨0, 0⟩) }
      jt := s.jt.set b.job { j with
        lastPage := some b.page, stallCount := some 0
        counters := { j.counters with started := min 4294967295 (j.counters.started + 1) } }
      engineOut := s.engineOut ++ [markPageBegin ⟨b.job, b.page⟩ j.mode size] }
    j.state = .active → j.kind ≠ .scan → (j.mode = .mono → b.plane = 0) →
    (∀ p, s.pp.openPage = some p → p.tag.job = b.job → p.tag.page < b.page →
      exec i s = .next (openingBand (voidOpenPage t) b)) ∧
    (s.pp.openPage = none → (∀ n ∈ j.lastPage, n < b.page) → b.index = 0 → s.pp.engineReady = true →
      s.st.entries.length < 24 →
      (spent → exec i s = held .spent) ∧
      (¬spent → missing → exec i s = held .cartridge) ∧
      (¬spent → ¬missing → a.state = .suspended → exec i s = held .account) ∧
      (¬spent → ¬missing → a.state ≠ .suspended → a.quota < a.charged + a.reserved + price → exec i s = held .quota) ∧
      (¬spent → ¬missing → a.state ≠ .suspended → a.charged + a.reserved + price ≤ a.quota →
        exec i s = .next (bandOfPage opened page b)))

/-- A band of the open page: it waits for the engine, is forwarded when it passes every check, and voids the page
otherwise. A RELEASE band's check is verified over its header and its payload as received, and its payload deciphered,
under the keys of the page's slot. The band that finishes the last plane completes the page, or voids it where the
line totals differ. The flags byte of the mark and of the check header follow log entries 44 and 36. -/
def Obligations.BandsOfThePage : Prop :=
  (∀ (i : Instr) (s : State) (b : Band) (p : OpenPage), Examines i s b → s.pp.openPage = some p →
    p.tag = ⟨b.job, b.page⟩ → (s.job b.job).state = .active → (s.job b.job).kind ≠ .scan →
    ((s.job b.job).mode = .mono → b.plane = 0) → exec i s = .next (bandOfPage s.bandTaken p b)) ∧
  ∀ (s : State) (b : Band) (p : OpenPage),
    let r := p.planes[b.plane]
    let check (k : KeyRef) : Word :=
      Config.bandHash (s.key k.slot).checkKey
        (([0] ++ beBytes 2 b.page ++ [BitVec.ofNat 8 b.plane.val] ++ beBytes 2 b.index ++ [BitVec.ofNat 8 b.lines] ++
          beBytes 2 b.width ++ [BitVec.ofNat 8 b.last.toNat]) ++ b.payload)
    let genuine := p.kind = .release → ∀ k ∈ p.key, b.check = some (check k)
    let admitted := r.finished = false ∧ b.index = r.next ∧ b.width = p.width ∧ r.lines + b.lines ≤ 16384 ∧ genuine
    let tones := match p.kind, p.key with
      | .release, some k => bandCipher (s.key k.slot).cipherKey k b.page b.plane.val b.index b.payload
      | _, _ => b.payload
    let p' : OpenPage := { p with planes := p.planes.set b.plane ⟨r.next + 1, r.lines + b.lines, b.last⟩ }
    let acc := s.dm.accum.getD (Vector.replicate 4 ⟨0, 0⟩)
    let t := s.dm.tables[b.plane]
    let forwarded : State := { s with
      pp := { s.pp with openPage := some p' }
      dm := { s.dm with accum := some (acc.set b.plane
        ⟨acc[b.plane].weighted + (tones.map t.weight).sum, acc[b.plane].raw + (tones.map BitVec.toNat).sum⟩) }
      engineOut := s.engineOut ++ [markBand b.plane b.last b.index b.lines b.width tones]
      jt := s.jt.set b.job { s.job b.job with stallCount := some 0 } }
    let finished := b.last = true ∧ (p.mode = .mono → p'.planes[0].finished = true) ∧
      (p.mode = .color → ∀ c : Fin 4, p'.planes[c].finished = true)
    let equal := p.mode = .color → ∀ c : Fin 4, p'.planes[c].lines = p'.planes[0].lines
    (s.pp.engineReady = false →
      bandOfPage s p b = { s with li := { s.li with bandPosition := some ⟨b, .engine⟩ } }) ∧
    (s.pp.engineReady = true → ¬admitted → bandOfPage s p b = voidOpenPage s) ∧
    (s.pp.engineReady = true → admitted → ¬finished → bandOfPage s p b = forwarded) ∧
    (s.pp.engineReady = true → admitted → finished → equal → bandOfPage s p b = completePage forwarded p') ∧
    (s.pp.engineReady = true → admitted → finished → ¬equal → bandOfPage s p b = voidOpenPage forwarded)

/-- Completion of a page: PAGE END; for each plane of the mode the weighted sum times the gain, with the slot's
residue, is converted, the quotient by 2^28 the deposit and the remainder the new residue; the entry is COMPLETE with
final class, deposits and the serials of verified slots, its reservation lowered to the final price where that is
lower; the record is kept and the page slot is EMPTY. Nothing else changes. -/
def Obligations.PagesComplete : Prop :=
  ∀ (s : State) (p : OpenPage) (before after : List Entry) (e : Entry), s.st.entries = before ++ e :: after →
    e.tag = p.tag → e.status = .forwarding →
    (∀ x, x ∈ before ∨ x ∈ after → ¬(x.tag = p.tag ∧ x.status = .forwarding)) →
    let acc := s.dm.accum.getD (Vector.replicate 4 ⟨0, 0⟩)
    let planes : List (Fin 4) := if p.mode = .mono then [0] else [0, 1, 2, 3]
    let colour := acc[1].raw + acc[2].raw + acc[3].raw
    let share := 1000 * colour / (765 * (p.width * p.planes[0].lines))
    let coverage := if 0 < colour ∧ share = 0 then 1 else share
    let final : TariffClass :=
      if p.mode = .mono ∨ coverage = 0 then (if p.size = .small then .monoS else .monoL)
      else if coverage < s.dm.threshold then (if p.size = .small then .spotS else .spotL)
      else if p.size = .small then .colorS else .colorL
    let price := s.acct.prices[final.code]'(by cases final <;> decide)
    let total (c : Fin 4) : Nat := acc[c].weighted * s.dm.tables[c].gain + (s.slot c).residue
    let serial (c : Fin 4) : Option Dword :=
      if (s.slot c).state = .genuine ∨ (s.slot c).state = .spent then (s.slot c).serial else none
    let t := completePage s p
    t.engineOut = s.engineOut ++ [markPageEnd p.tag] ∧ t.pp = { s.pp with openPage := none } ∧
    (∃ e', t.st.entries = before ++ e' :: after ∧
      e' = { e with
        status := .complete, final := some final, reserved := min price e.reserved, deposits := e'.deposits,
        serials := e'.serials } ∧
      ∀ c, (c ∈ planes → e'.deposits[c] = some (total c / 2 ^ 28) ∧ e'.serials[c] = serial c) ∧
        (c ∉ planes → e'.deposits[c] = e.deposits[c] ∧ e'.serials[c] = e.serials[c])) ∧
    (∀ c, t.slot c = if c ∈ planes then { s.slot c with residue := total c % 2 ^ 28 } else s.slot c) ∧
    t.acct = (s.setAccount e.account { s.account e.account with
      reserved := (s.account e.account).reserved - (e.reserved - min price e.reserved) }).acct ∧
    t.dm = { s.dm with
      accum := none
      lastRecord := some
        { tag := p.tag, mode := p.mode, coverage := if p.mode = .mono then none else some coverage, final := final,
          planes := planes.map fun c =>
            { plane := c, weighted := acc[c].weighted, raw := acc[c].raw, deposit := total c / 2 ^ 28,
              serial := serial c, residue := total c % 2 ^ 28 } } } ∧
    t = { s with engineOut := t.engineOut, pp := t.pp, st := { s.st with entries := t.st.entries },
                 tu := { s.tu with slots := t.tu.slots }, acct := t.acct, dm := t.dm }

/-- A void of the open page: the PAGE VOID mark is sent, or becomes the pending void mark while the engine is not
ready; the FORWARDING entry becomes VOID and keeps its reservation; the accumulators are discarded, the void is
counted, PAGE VOID raised, the page slot EMPTY, and a band that waits is due for examination at the end of the event
(log entry 25). The job's state stays. -/
def Obligations.OpenPageVoided : Prop :=
  ∀ s : State,
    (s.pp.openPage = none → voidOpenPage s = s) ∧
    ∀ p, s.pp.openPage = some p →
      let j := s.job p.tag.job
      let marked : State :=
        if s.pp.engineReady then { s with engineOut := s.engineOut ++ [markPageVoid p.tag] }
        else { s with pp := { s.pp with pendingVoid := some p.tag } }
      let voided : State := { marked with
        st := { s.st with entries := s.st.entries.map fun e =>
          if e.tag = p.tag ∧ e.status = .forwarding then { e with status := .void } else e }
        dm := { s.dm with accum := none }
        jt := s.jt.set p.tag.job { j with
          counters := { j.counters with voided := min 4294967295 (j.counters.voided + 1) } }
        pp := { marked.pp with openPage := none }
        li := { s.li with bandPosition := s.li.bandPosition.map fun w => { w with reason := .due } } }
      voidOpenPage s = voided.raise .pageVoid [.u8 p.tag.job.val, .u16 p.tag.page, .u8 0]

/-- The engine line: marks that wait for it are sent once it is high, the pending void mark before the path-clear
instruction; a rise sends both and examines a band that waits for the line; a stall expiry voids the open page only
while the part does not hold the link itself. STALL EXPIRY sent alone sets the count to the limit whatever it stood at, the
model's choice (log entry 7). -/
def Obligations.EngineLineServed : Prop :=
  ∀ s : State,
    let voidSent : State :=
      match s.pp.pendingVoid with
      | some t =>
        if s.pp.engineReady then
          { s with pp := { s.pp with pendingVoid := none }, engineOut := s.engineOut ++ [markPageVoid t] }
        else s
      | none => s
    let clearSent : State :=
      if s.st.pathClear = true ∧ s.pp.engineReady = true then
        { voidSent with
          st := { s.st with pathClear := false }
          engineOut := voidSent.engineOut ++ [frameOf [0x14, 0x01, 0xFF, 0xFF, 0xFF]] }
      else voidSent
    exec .pendingVoidSend s = .next voidSent ∧ exec .pathClearSend s = .next clearSent ∧
    exec (.engineReadyLine false) s = .next { s with pp := { s.pp with engineReady := false } } ∧
    (s.pp.engineReady = true → exec (.engineReadyLine true) s = .next s) ∧
    (s.pp.engineReady = false →
      let high : State := { s with pp := { s.pp with engineReady := true } }
      ∃ u, exec .pathClearSend high = .next u ∧ exec (.engineReadyLine true) s = .next (settleBand u)) ∧
    (s.pp.openPage = none → exec .stallExpiry s = .next s) ∧
    ∀ p, s.pp.openPage = some p →
      exec .stallExpiry s = .next (
        if s.pp.engineReady = true ∧ s.li.commandQueue.length < 4 ∧ ∀ w ∈ s.li.bandPosition, w.reason = .interleave then
          settleBand (voidOpenPage
            (s.setJob p.tag.job { s.job p.tag.job with stallCount := (s.job p.tag.job).stallLimit }))
        else s)

/-! ### The Sheet Tracker -/

/-- A charge moves the amount from reserved to charged, raises the counter of the class, sets the last-charge time and
the dirty flag, and raises the charges-since-flush count; where the count reaches F it returns to 0 and the commit of
the account's row is requested, at the charge itself (log entry 38) and for that row alone (log entry 55). One removed
entry is settled by its manner: a COMPLETE page that exited is charged at its final class; any other releases its
reservation and charges nothing. A COMPLETE page whose sheet was developed then has its deposits booked in the order K,
C, M, Y. An exit counts as exited, a path reset counts nothing, every other removal counts as jammed. Entries leave from
the head in order, each settled before the next, and no other entry is touched. -/
def Obligations.EntriesSettled : Prop :=
  (∀ (s : State) (i : Fin 256) (amount : Nat) (cls : TariffClass),
     let a := s.account i
     let n := a.sinceFlush + 1
     let paid : Account :=
       { a with
         reserved := a.reserved - amount, charged := a.charged + amount
         counters := a.counters.set cls.code (min 4294967295 ((a.counters[cls.code]'(by cases cls <;> decide)) + 1))
           (by cases cls <;> decide)
         lastCharge := s.tb.seconds, dirty := true, sinceFlush := if s.acct.postscale ≤ n then 0 else n }
     charge s i amount cls =
       if s.acct.postscale ≤ n then (request (s.setAccount i paid) (.commit (accountRow i) 0)).1
       else s.setAccount i paid) ∧
  (∀ (s : State) (e : Entry) (m : Manner),
     let t := settleEntry s e m
     let a := s.account e.account
     let b := t.account e.account
     let charged := e.status = .complete ∧ m = .exited
     let cls := e.final.getD e.provisional
     let paid := if charged then charge s e.account e.reserved cls
       else s.setAccount e.account { a with reserved := a.reserved - e.reserved }
     let booked := ([0, 1, 2, 3] : List (Fin 4)).foldl (fun u c =>
       match e.deposits[c] with | some d => bookDeposit u c d e.serials[c] | none => u) paid
     b.reserved = a.reserved - e.reserved ∧
     b.charged = (if charged then a.charged + e.reserved else a.charged) ∧
     b.counters = (if charged then
       a.counters.set cls.code (min 4294967295 ((a.counters[cls.code]'(by cases cls <;> decide)) + 1))
         (by cases cls <;> decide) else a.counters) ∧
     b.lastCharge = (if charged then s.tb.seconds else a.lastCharge) ∧
     b.sinceFlush = (if charged then (if s.acct.postscale ≤ a.sinceFlush + 1 then 0 else a.sinceFlush + 1)
       else a.sinceFlush) ∧
     (b.id = a.id ∧ b.state = a.state ∧ b.privileges = a.privileges ∧ b.quota = a.quota ∧ b.window1 = a.window1 ∧
       b.window2 = a.window2) ∧
     (∀ i, i ≠ e.account → (t.account i).sameMoney (s.account i)) ∧
     (e.status ≠ .complete ∨ m = .undeveloped ∨ m = .cleared →
       t = { paid with jt := t.jt } ∧ t.tu = { s.tu with ringDirty := t.tu.ringDirty }) ∧
     (e.status = .complete → m ≠ .undeveloped → m ≠ .cleared → t = { booked with jt := t.jt }) ∧
     (∀ h, t.job h = if h = e.tag.job then
       { s.job h with counters := { (s.job h).counters with
         exited := if m = .exited then min 4294967295 ((s.job h).counters.exited + 1) else (s.job h).counters.exited
         jammed := if m = .exited ∨ m = .cleared then (s.job h).counters.jammed
           else min 4294967295 ((s.job h).counters.jammed + 1) } }
       else s.job h) ∧
     t.st = s.st ∧ t.pp = s.pp ∧ t.sp = s.sp ∧ t.kt = s.kt ∧ t.tb = s.tb ∧ t.li = s.li ∧ t.cu = s.cu ∧ t.dm = s.dm ∧
     t.ms.memory = s.ms.memory) ∧
  (∀ (s : State) (m : Manner) (n : Nat),
     (removeFront m n s).st = { s.st with entries := s.st.entries.drop n } ∧
     ∀ e rest, s.st.entries = e :: rest →
       removeFront m (n + 1) s = removeFront m n (settleEntry { s with st := { s.st with entries := rest } } e m))

/-- SHEET EXIT. A tag that names no entry is a stray. A tag at the head removes that entry and, for a count of two
sheets, the next, as exited; one behind the head is a skip: the entries before it are lost and their jobs held. Fewer
entries than the count is a short exit, and a removal that reaches the open page voids it first. The holds and drain
tests go in handle order (log entry 11), and the sheet count takes 2 bytes in the notice (log entry 50). -/
def Obligations.SheetExitRemoves : Prop :=
  ∀ (s : State) (job : Byte) (page : Half) (count : Byte),
    let names : Entry → Bool := fun e => e.tag.job.val == job.toNat && e.tag.page == page.toNat
    let fields : ReportFields := .exit job page count
    let n := if count.toNat ≤ 1 then 1 else 2
    let fault (t : State) (k : FaultKind) : State :=
      { t with st := { t.st with lastFault := some ⟨k, fields, t.tb.seconds⟩ } }.raise .trackFault
        [.u8 k.code, .u8 job.toNat, .u16 page.toNat, .u16 count.toNat]
    ((∀ e ∈ s.st.entries, names e = false) →
      exec (.sheetExit job page count) s = .next
        (fault { s with st := { s.st with stray := min 65535 (s.st.stray + 1) } } .stray)) ∧
    ∀ skipped named rest, s.st.entries = skipped ++ named :: rest → names named = true →
      (∀ e ∈ skipped, names e = false) →
      let removed := skipped ++ named :: rest.take (n - 1)
      let reached := ∃ p ∈ s.pp.openPage, ∃ e ∈ removed, e.status = .forwarding ∧ e.tag = p.tag
      let s1 := if skipped = [] then s else fault s .skip
      let s2 := if reached then voidOpenPage (fault s1 .unfinished) else s1
      let s3 := removeFront .exited n (removeFront .lost skipped.length s2)
      let s4 := if rest = [] ∧ n = 2 then fault s3 .short else s3
      let lost (h : Fin 16) : Prop :=
        (∃ e ∈ skipped, e.tag.job = h) ∨ (skipped ≠ [] ∧ reached ∧ ∃ p ∈ s.pp.openPage, p.tag.job = h)
      ∃ held tested : List (Fin 16),
        held.Pairwise (· < ·) ∧ (∀ h, h ∈ held ↔ lost h) ∧
        tested.Pairwise (· < ·) ∧ (∀ h, h ∈ tested ↔ ∃ e ∈ removed, e.tag.job = h) ∧
        exec (.sheetExit job page count) s = .next
          (settleBand (tested.foldl drainTest (held.foldl (fun t h => holdJob t h .jam) s4)))

/-- SHEET JAM and PATH PURGE. The open page is voided first; the entries the report takes are removed, a jam's developed
ones before its undeveloped ones, and their jobs, with the open page's, are held; then their drains are tested and a
band that waits is examined. A jam that reports more sheets than there are raises a track fault. The holds and drain
tests go in handle order (log entry 11), and L and D take 2 bytes each in the notice (log entry 50). -/
def Obligations.JamAndPurgeRemove : Prop :=
  ∀ s : State,
    let openJob (h : Fin 16) : Prop := ∃ p ∈ s.pp.openPage, p.tag.job = h
    let settled (removed : List Entry) (t : State) (o : Host.Outcome State Fault Refusal) : Prop :=
      ∃ held tested : List (Fin 16),
        held.Pairwise (· < ·) ∧ (∀ h, h ∈ held ↔ openJob h ∨ ∃ e ∈ removed, e.tag.job = h) ∧
        tested.Pairwise (· < ·) ∧ (∀ h, h ∈ tested ↔ ∃ e ∈ removed, e.tag.job = h) ∧
        o = .next (settleBand (tested.foldl drainTest (held.foldl (fun t h => holdJob t h .jam) t)))
    (∀ lost developed : Byte,
      let l := min lost.toNat s.st.entries.length
      let d := min developed.toNat l
      let faulted : State :=
        if l < lost.toNat ∨ d < developed.toNat then
          { s with st := { s.st with lastFault := some ⟨.overcount, .jam lost developed, s.tb.seconds⟩ } }.raise .trackFault
            [.u8 4, .u16 lost.toNat, .u16 developed.toNat]
        else s
      settled (s.st.entries.take l)
        (removeFront .undeveloped (l - d) (removeFront .developed d (voidOpenPage faulted)))
        (exec (.sheetJam lost developed) s)) ∧
    settled s.st.entries (removeFront .purged s.st.entries.length (voidOpenPage s)) (exec .pathPurge s)

/-! ### Scan pages and the upstream link -/

/-- PAGE BEGIN and PAGE END of the scanner. While a SCAN job is ACTIVE, the buffer has room, no page is ENDED and the
path-reset line is low they are taken; otherwise they are discarded as link errors. PAGE BEGIN announces its page and
voids one in progress first. PAGE END makes a whole page ENDED, completes it at once where no band of it is buffered,
and voids a page that is not whole. Completion charges the reservation as one SCAN impression, counts the page as exited
and tests the drain. A void releases the reservation uncharged, counts it, raises PAGE VOID, clears the announced page,
leaves the buffer as it is and tests the drain. SCAN PAGE COMPLETION sent alone while no ENDED page has left the buffer
has no effect, the model's choice (log entry 7). -/
def Obligations.ScannerPagesBeginAndEnd : Prop :=
  (∀ s : State,
     let ready := (∃ h, (s.job h).kind = .scan ∧ (s.job h).state = .active) ∧ s.sp.buffer.length < 8 ∧
       (∀ p ∈ s.sp.page, p.ended = false) ∧ s.li.pathLine = false
     let withPage (p : Option ScanPage) : State := { s with sp := { s.sp with page := p } }
     let whole (p : ScanPage) : Prop :=
       if (s.job p.tag.job).mode = .mono then p.planes[0].finished = true
       else (∀ c : Fin 3, p.planes[c].finished = true) ∧ ∀ c : Fin 3, p.planes[c].lines = p.planes[0].lines
     let complete (p : ScanPage) (t : State) : State :=
       let u := charge t (t.job p.tag.job).account p.reservation .scan
       drainTest { (u.setJob p.tag.job { u.job p.tag.job with
         counters := { (u.job p.tag.job).counters with
           exited := min 4294967295 ((u.job p.tag.job).counters.exited + 1) } }) with
         sp := { u.sp with page := none } } p.tag.job
     (∀ page, ¬ready → exec (.scannerPageBegin page) s = .next (s.linkError .scanner)) ∧
     (∀ b, ¬ready → exec (.scannerBand b) s = .next (s.linkError .scanner)) ∧
     (¬ready → exec .scannerPageEnd s = .next (s.linkError .scanner)) ∧
     (∀ page : Half, ready → s.sp.page = none →
       exec (.scannerPageBegin page) s = .next { s with sp := { s.sp with announced := some page.toNat } }) ∧
     (∀ page : Half, ready → s.sp.page ≠ none →
       let t := voidScanPage s
       exec (.scannerPageBegin page) s = .next { t with sp := { t.sp with announced := some page.toNat } }) ∧
     (ready → s.sp.page = none → exec .scannerPageEnd s = .next { s with sp := { s.sp with announced := none } }) ∧
     (∀ p, s.sp.page = some p → ready → ¬whole p → exec .scannerPageEnd s = .next (voidScanPage s)) ∧
     (∀ p, s.sp.page = some p → ready → whole p →
       let ended := withPage (some { p with ended := true })
       exec .scannerPageEnd s = .next (if p.inBuffer = 0 then complete p ended else ended)) ∧
     (∀ p, s.sp.page = some p → p.ended = true → p.inBuffer = 0 → exec .scanPageCompletion s = .next (complete p s)) ∧
     ((∀ p, s.sp.page = some p → p.ended = false ∨ p.inBuffer ≠ 0) → exec .scanPageCompletion s = .next s)) ∧
  (∀ s : State,
     (s.sp.page = none → voidScanPage s = s) ∧
     ∀ p, s.sp.page = some p →
       let h := p.tag.job
       let j := s.job h
       let a := s.account j.account
       let released : State := s.setAccount j.account { a with reserved := a.reserved - p.reservation }
       let counted : State := released.setJob h
         { j with counters := { j.counters with voided := min 4294967295 (j.counters.voided + 1) } }
       let raised := counted.raise .pageVoid [.u8 h.val, .u16 p.tag.page, .u8 1]
       voidScanPage s = drainTest { raised with sp := { s.sp with page := none, announced := none } } h)

/-- A band of the scanner, taken while the link is given readiness. Out of range it is a link error; outside the mode
or stale it is counted as refused; without an announcement of its page, or with an index that is not 0, it raises BAND
REFUSED once per page. The admission refuses a clear job whose class has become CIPHER, then asks the Account Table; a
refusal holds the job. An admission reserves the SCAN price and starts the page. A band that passes the checks of the
open page is formed into a SCAN frame, enciphered and with its band check for a cipher job, and appended to the
buffer; one that fails voids the page. -/
def Obligations.ScannerBandsTaken : Prop :=
  ∀ (s : State) (h : Fin 16) (b : ScannerBand),
    (s.job h).kind = .scan → (s.job h).state = .active →
    (∀ g, (s.job g).kind = .scan → (s.job g).state = .active → g = h) →
    s.sp.buffer.length < 8 → (∀ p ∈ s.sp.page, p.ended = false) → s.li.pathLine = false →
    let n := b.page.toNat
    let inRange := b.plane.toNat < 4 ∧ b.index.toNat ≤ 16383 ∧ 1 ≤ b.lines.toNat ∧ b.lines.toNat ≤ 64 ∧
      1 ≤ b.width.toNat ∧ b.width.toNat ≤ 8192 ∧ b.payload.length = b.width.toNat * b.lines.toNat
    let j := s.job h
    let a := s.account j.account
    let inMode := if j.mode = .mono then b.plane.toNat = 0 else b.plane.toNat < 3
    let taken := exec (.scannerBand b) s
    let count (t : State) : State :=
      t.setJob h { t.job h with
        counters := { (t.job h).counters with refused := min 4294967295 ((t.job h).counters.refused + 1) } }
    let refused : State :=
      if s.marker h = some n then count s
      else ((count s).setMarker h (some n)).raise .bandRefused [.u8 h.val, .u16 n]
    let held (r : Reason) : State :=
      let t := count (holdJob s h r)
      { t with sp := { t.sp with announced := none } }
    let stale := ∃ m ∈ j.lastPage, n ≤ m
    let entry : EgressEntry := match j.dest with | some c => s.sp.egress[c] | none => ⟨.cipher, 1440, 1⟩
    let cls := match j.dest with | some c => c.val | none => 0
    let allowed := cls = 0 ∨ a.window1.Holds cls ∨ a.window2.Holds cls
    let price := s.acct.prices[6]
    let frame : ScanFrame :=
      let payload := match j.key with
        | some k => bandCipher (s.key k.slot).cipherKey k n b.plane.toNat b.index.toNat b.payload
        | none => b.payload
      { tag := ⟨h, n⟩, key := j.key, plane := b.plane.toNat, index := b.index.toNat, lines := b.lines.toNat,
        width := b.width.toNat, last := b.last, payload := payload,
        check := j.key.map fun k => bandCheck (s.key k.slot).checkKey n b.plane.toNat b.index.toNat b.lines.toNat
          b.width.toNat b.last payload }
    let formed (t : State) (p : ScanPage) (i : Fin 3) : State :=
      { t with sp := { t.sp with
        page := some { p with
          planes := p.planes.set i ⟨p.planes[i].next + 1, p.planes[i].lines + b.lines.toNat, b.last⟩
          inBuffer := p.inBuffer + 1 }
        buffer := s.sp.buffer ++ [frame] } }
    (¬inRange → taken = .next (s.linkError .scanner)) ∧
    (inRange → ¬inMode → taken = .next (count s)) ∧
    (∀ i : Fin 3, inRange → inMode → i.val = b.plane.toNat →
      (s.sp.page = none →
        (stale → taken = .next (count s)) ∧
        (¬stale → s.sp.announced ≠ some n ∨ b.index ≠ 0 → taken = .next refused) ∧
        (¬stale → s.sp.announced = some n → b.index = 0 →
          (j.key = none → entry.mode = .cipher → taken = .next (held .account)) ∧
          (j.key ≠ none ∨ entry.mode = .clear →
            (a.state = .suspended ∨ ¬allowed → taken = .next (held .account)) ∧
            (a.state ≠ .suspended → allowed → a.quota < a.charged + a.reserved + price → taken = .next (held .quota)) ∧
            (a.state ≠ .suspended → allowed → a.charged + a.reserved + price ≤ a.quota →
              let page : ScanPage :=
                { ended := false, tag := ⟨h, n⟩, width := b.width.toNat, planes := Vector.replicate 3 ⟨0, 0, false⟩,
                  reservation := price, inBuffer := 0 }
              let started : State := { s with
                acct := { s.acct with records := s.acct.records.set j.account { a with reserved := a.reserved + price } }
                tb := { s.tb with channels := if ∃ x ∈ s.acct.session, x.account = j.account
                  then s.tb.channels.set 0 s.tb.channels[0].start else s.tb.channels }
                sp := { s.sp with announced := none }
                jt := s.jt.set h { j with
                  lastPage := some n
                  counters := { j.counters with started := min 4294967295 (j.counters.started + 1) } } }
              taken = .next (formed started page i))))) ∧
      ∀ p, s.sp.page = some p →
        let passes := n = p.tag.page ∧ p.planes[i].finished = false ∧ b.index.toNat = p.planes[i].next ∧
          b.width.toNat = p.width ∧ p.planes[i].lines + b.lines.toNat ≤ 16384
        (passes → taken = .next (formed s p i)) ∧ (¬passes → taken = .next (voidScanPage s)))

/-- The upstream half of the controller link. A free link begins the waiting reply, else the oldest notice, else the
head scan frame; the controller's readiness is the event itself (log entry 8). A clear frame is tested first: where
its class is no longer CLEAR or no longer allowed, every frame of its job is discarded, its page in progress is
voided, and an ACTIVE job is HELD(ACCOUNT), a DRAINING one tested for its drain. A notice that has been sent leaves
the queue; a scan frame that has been sent leaves the buffer, lowers the page's bands in buffer, completes an ENDED
page at 0 and has its job's drain tested. After a stop the next frame begins at the next event, and a frame that a path
reset meets on the link is finished (log entries 26 and 18). -/
def Obligations.UpstreamFramesSent : Prop :=
  ∀ s : State,
    let sends (x : Sending) : State := { s with li := { s.li with sending := some x } }
    let entry (h : Fin 16) : EgressEntry :=
      match (s.job h).dest with | some c => s.sp.egress[c] | none => ⟨.cipher, 1440, 1⟩
    let passes (f : ScanFrame) : Prop :=
      let h := f.tag.job
      let a := s.account (s.job h).account
      let c := match (s.job h).dest with | some c => c.val | none => 0
      f.key ≠ none ∨ ((entry h).mode = .clear ∧ (c = 0 ∨ a.window1.Holds c ∨ a.window2.Holds c))
    (s.li.sending ≠ none → exec .upstreamFrameBegin s = .next s) ∧
    (s.li.sending = none →
      (∀ r, s.cu.state = .replying r → exec .upstreamFrameBegin s = .next (sends (.reply r))) ∧
      ((∀ r, s.cu.state ≠ .replying r) →
        (∀ n rest, s.status.notices = n :: rest → exec .upstreamFrameBegin s = .next (sends (.notice n true))) ∧
        (s.status.notices = [] →
          (s.sp.buffer = [] → exec .upstreamFrameBegin s = .next s) ∧
          ∀ f rest, s.sp.buffer = f :: rest →
            (passes f → exec .upstreamFrameBegin s = .next (sends (.scan f true))) ∧
            (¬passes f →
              let h := f.tag.job
              let dropped : State := { s with sp := { s.sp with buffer := s.sp.buffer.filter fun g => g.tag.job != h } }
              let t := if ∃ p ∈ s.sp.page, p.tag.job = h then voidScanPage dropped else dropped
              exec .upstreamFrameBegin s = .next (
                if (t.job h).state = .active then holdJob t h .account else drainTest t h))))) ∧
    ((∀ n q, s.li.sending ≠ some (.notice n q)) → exec .noticeSent s = .next s) ∧
    (∀ n queued, s.li.sending = some (.notice n queued) →
      exec .noticeSent s = .next { s with
        li := { s.li with sending := none }
        upstreamOut := s.upstreamOut ++ [encodeNotice n]
        status := { s.status with notices := if queued then s.status.notices.drop 1 else s.status.notices } }) ∧
    ((∀ f q, s.li.sending ≠ some (.scan f q)) → exec .scanFrameSent s = .next s) ∧
    ∀ f buffered, s.li.sending = some (.scan f buffered) →
      let sent : State := { s with
        li := { s.li with sending := none }, upstreamOut := s.upstreamOut ++ [encodeScanFrame f] }
      let left : State := { sent with sp := { s.sp with
        buffer := s.sp.buffer.drop 1
        page := s.sp.page.map fun p => if p.tag = f.tag then { p with inBuffer := p.inBuffer - 1 } else p } }
      (buffered = false → exec .scanFrameSent s = .next sent) ∧
      (buffered = true → ∃ t, exec .scanPageCompletion left = .next t ∧
        exec .scanFrameSent s = .next (drainTest t f.tag.job))

/-! ### Time and resets -/

/-- A reference step: 2^20 + trim is added to the accumulator, and one tick is taken for each 2^20 in it: none, one or
two. A tick advances the time counts. Each tick counts at the exchanges on the cartridge lines, and the 41st ends an
exchange with its slot MUTE. A tick of the 32/s tap samples and debounces the presence lines, begins the full check of a
SENSED slot, and raises the stall count of the open page's job while the part does not hold the link itself, voiding the
page at the limit. A running channel counts the ticks of its own tap, ending a stop that is pending and applying staged
settings at its period; ch0 stops at its period and closes the session. At the tick that reaches its period a channel
expires as CHANNEL EXPIRY has it, its owner acting on what the lines and the stall count left: the channels come last, in
order. Consumers see the counts as the tick leaves them (log entry 42), and the order among consumers is the model's (log
entry 9). -/
def Obligations.TimeAdvances : Prop :=
  ∀ (s : State) (presence : Vector Bool 4),
    let sum := s.tb.accumulator + (1048576 + s.tb.trim).toNat
    let t := tick presence s
    let second := s.tb.subSecond = 1023
    let tap32 := (s.tb.subSecond + 1) % 32 = 0
    let ticks (x : Channel) : Prop :=
      x.tap = .t1024 ∨ (x.tap = .t32 ∧ tap32) ∨ (x.tap = .t1 ∧ second) ∨ (x.tap = .t60 ∧ second ∧ s.tb.minute = 59)
    let edge (c : Fin 4) : Prop := tap32 ∧ presence[c] ≠ (s.slot c).level ∧ 7 ≤ (s.slot c).debounce
    let runs := tap32 ∧ s.pp.engineReady = true ∧ s.li.commandQueue.length < 4 ∧
      ∀ w ∈ s.li.bandPosition, w.reason = .interleave
    (TimeInRange s →
      exec (.referenceStep presence) s = .next
        ((tick presence)^[sum / 1048576] { s with tb := { s.tb with accumulator := sum % 1048576 } }) ∧
      sum / 1048576 ≤ 2 ∧ (sum / 1048576 = 2 → 0 < s.tb.trim) ∧ (sum / 1048576 = 0 → s.tb.trim < 0)) ∧
    (s.tb.subSecond < 1024 → s.tb.minute < 60 →
      t.tb.subSecond = (if second then 0 else s.tb.subSecond + 1) ∧
      t.tb.seconds = (if second then min 4294967295 (s.tb.seconds + 1) else s.tb.seconds) ∧
      t.tb.minute = (if second then (if s.tb.minute + 1 < 60 then s.tb.minute + 1 else 0) else s.tb.minute) ∧
      t.tb.accumulator = s.tb.accumulator ∧ t.tb.trim = s.tb.trim ∧
      (∀ c, (s.tb.subSecond + 1) % 32 ≠ 0 →
        (t.slot c).sample = (s.slot c).sample ∧ (t.slot c).debounce = (s.slot c).debounce ∧
        (t.slot c).level = (s.slot c).level) ∧
      (∀ c, (s.tb.subSecond + 1) % 32 = 0 → (t.slot c).sample = presence[c] ∧
        (t.slot c).debounce = (if presence[c] = (s.slot c).level ∨ 7 ≤ (s.slot c).debounce then 0
          else (s.slot c).debounce + 1) ∧
        (t.slot c).level = (if 7 ≤ (s.slot c).debounce then presence[c] else (s.slot c).level)) ∧
      (∀ c : Fin 4,
        let x := s.slot c
        ¬edge c →
          (∀ e, x.exchange = some e → e.elapsed + 1 < 41 →
            (t.slot c).exchange = some { e with elapsed := e.elapsed + 1 }) ∧
          (∀ e, x.exchange = some e → 41 ≤ e.elapsed + 1 →
            (t.slot c).state = .mute ∧ (t.slot c).exchange = none ∧ t.status.has .cartridgeState = true) ∧
          (x.state = .sensed → x.exchange = none →
            (t.slot c).state = (if tap32 then .checking else .sensed) ∧
            (t.slot c).exchange = (if tap32 then some ⟨.identify, .check, 0⟩ else none))) ∧
      ((s.pp.openPage = none ∨ ¬runs → t.pp = s.pp ∧ t.jt = s.jt) ∧
       ∀ p, s.pp.openPage = some p → runs →
         let j := s.job p.tag.job
         let n := j.stallCount.getD 0 + 1
         (j.stallLimit ≠ some n → t.pp = s.pp ∧ t.jt = s.jt.set p.tag.job { j with stallCount := some n }) ∧
         (j.stallLimit = some n → (∀ w ∈ s.li.bandPosition, w.band.job ≠ p.tag.job) →
           (∀ q ∈ t.pp.openPage, q.tag.job ≠ p.tag.job) ∧ t.status.has .pageVoid = true ∧
           t.job p.tag.job = { j with
             stallCount := some n
             counters := { j.counters with voided := min 4294967295 (j.counters.voided + 1) } })) ∧
      (s.li.bandPosition = none →
        let x := s.channel 0
        (¬ticks x ∨ x.running = false → t.channel 0 = x) ∧
        (ticks x → x.running = true → x.count + 1 ≠ x.period →
          t.channel 0 = if x.stopPending then { x with running := false, stopPending := false, count := 0 }
            else { x with count := x.count + 1 }) ∧
        (ticks x → x.running = true → x.count + 1 = x.period →
          t.channel 0 = { x with running := false, stopPending := false, count := 0 } ∧ t.acct.session = none ∧
          (s.acct.session ≠ none → t.status.has .sessionEnded = true)) ∧
        (¬(ticks x ∧ x.running = true ∧ x.count + 1 = x.period) → t.acct.session = s.acct.session)) ∧
      (∀ c : Fin 4, c ≠ 0 →
        let x := s.channel c
        let ticks := ticks x
        (¬ticks ∨ x.running = false → t.channel c = x) ∧
        (ticks → x.running = true → x.count + 1 ≠ x.period →
          t.channel c = if x.stopPending then { x with running := false, stopPending := false, count := 0 }
            else { x with count := x.count + 1 }) ∧
        (ticks → x.running = true → x.count + 1 = x.period →
          t.channel c =
            if x.stopPending then { x with running := false, stopPending := false, count := 0 }
            else match x.staged with
              | some (tap, period) => { x with tap := tap, period := period, staged := none, count := 0 }
              | none => { x with count := 0 })) ∧
      ∃ u : State,
        t = ([0, 1, 2, 3] : List (Fin 4)).foldl (fun v c =>
          let x := v.channel c
          if ¬ticks x ∨ x.running = false then v
          else if x.count + 1 = x.period then (match exec (.channelExpiry c) v with | .next w => w | _ => v)
          else v.setChannel c (if x.stopPending then { x with running := false, stopPending := false, count := 0 }
            else { x with count := x.count + 1 })) u ∧
        (s.li.bandPosition = none ∨ (∀ p ∈ s.pp.openPage, runs →
            (s.job p.tag.job).stallLimit ≠ some ((s.job p.tag.job).stallCount.getD 0 + 1)) →
          u.kt = s.kt ∧
          u.tb = { s.tb with subSecond := t.tb.subSecond, seconds := t.tb.seconds, minute := t.tb.minute } ∧
          ((∀ c, ¬edge c) → u.ms = s.ms ∧ u.acct = s.acct ∧ u.tu = { s.tu with slots := u.tu.slots } ∧
            u.draws = s.draws) ∧
          ∀ c : Fin 4, ¬edge c →
            let x := s.slot c
            let y := if tap32 then
                { x with sample := presence[c], debounce := if presence[c] = x.level then 0 else x.debounce + 1 }
              else x
            u.slot c = match x.exchange with
              | some e =>
                if e.elapsed + 1 < 41 then { y with exchange := some { e with elapsed := e.elapsed + 1 } }
                else { y with state := .mute, exchange := none, writePending := false, recheckPending := false }
              | none =>
                if tap32 ∧ x.state = .sensed then { y with state := .checking, exchange := some ⟨.identify, .check, 0⟩ }
                else y))

/-- The expiry of a channel: its owner acts, then the channel stops (ch0, or a stop pending) or goes on from 0 with its
staged settings applied. ch0 closes the panel session with SESSION ENDED; ch1 erases expired unnamed slots and makes row
requests again; ch2 requests the commits of dirty records and of an unsaved lock; ch3 rechecks GENUINE slots in rising
order and requests dirty history rows in rising ring positions, orders that are the model's (log entry 39). That an
unsaved lock is requested again at ch2 alone is the model's reading (log entry 55). A channel that does not run ignores
it (log entry 7). -/
def Obligations.ChannelsExpire : Prop :=
  ∀ (s : State) (c : Fin 4),
    let x := s.channel c
    let full := s.setChannel c { x with count := x.period }
    let owner : State :=
      if c = 0 then
        match s.acct.session with
        | some y => { full with acct := { s.acct with session := none } }.raise .sessionEnded
            [.u8 y.account.val, .u32 y.openTime]
        | none => full
      else if c = 1 then
        (List.finRange 64).foldl (fun t k =>
          let y := t.key k
          let u := if y.state = .retained ∧ (∃ e ∈ y.expiry, e ≤ t.tb.seconds) ∧ y.naming = none
            then enterErasing t k .expired else t
          if (u.key k).rowRequest = .none then u else requestKeyRow u k (u.key k).rowRequest) full
      else if c = 2 then
        let t := ((List.finRange 256).filter fun i => (s.account i).dirty).foldl (fun t i =>
          (request (t.setAccount i { t.account i with sinceFlush := 0 }) (.commit (accountRow i) 0)).1) full
        if t.ms.lockUnsaved then (request t (.commit (settingsRow 0) 0)).1 else t
      else
        let t := (List.finRange 4).foldl (fun t d => if (t.slot d).state = .genuine then requestRecheck t d else t) full
        ((List.finRange 16).filter fun p => t.tu.ringDirty[p]).foldl
          (fun t p => (request t (.commit (historyRow p) 0)).1) t
    let next : Channel :=
      if x.stopPending ∨ c = 0 then { x with running := false, stopPending := false, count := 0 }
      else match x.staged with
        | some (tap, period) => { x with tap := tap, period := period, staged := none, count := 0 }
        | none => { x with count := 0 }
    (x.running = false → exec (.channelExpiry c) s = .next s) ∧
    (x.running = true → exec (.channelExpiry c) s = .next (owner.setChannel c next))

/-- RESET PATH carries out one path reset and reports what it found: the jobs that were not FREE, the page voided, the
entries cleared, a scan page voided, the slots zeroised. A rise of the line does the same, empties the command queue
and discards a reply not yet begun; a line that is high already changes nothing, and its fall only opens the links. A
path reset leaves every context at its power-on value, the tracker, the page slot, the buffer, the band position and
the notice queue empty, flags, mask, store, tables and money kept, every reservation released uncharged, ACTIVE slots
zeroised and FREE, named slots unnamed, exchanges aborted and ch0 stopped. The holds and notices formed during it are
lost with the queue (log entry 28). With the engine line high the PAGE VOID mark of an open page and then the path-clear
instruction are sent; with the line low the one is the pending void mark and the other is pending. A line rise discards a
reply of RESET PATH that has not begun as it does any other (log entry 43). The layout of the RESET PATH reply over the
table of section 12.1 is the model's reading (log entry 13), its handles in rising order the model's choice (log entry 46),
the byte that tells a voided scan page log entry 47. -/
def Obligations.PathResets : Prop :=
  ∀ s : State,
    let t := pathReset s
    let jobs := (List.finRange 16).filter fun h => (s.job h).state != .free
    (∀ tag, Ready s → exec (.resetPath tag) s = .next (t.answered 22 tag .ok (
      [.u8 jobs.length] ++ jobs.map (fun h => Val.u8 h.val) ++
      [match s.pp.openPage with
       | some p => .present 3 (p.tag.job.val * 65536 + p.tag.page)
       | none => .absent 3,
       .u16 s.st.entries.length, .flag (match s.sp.page with | some _ => true | none => false),
       .u16 ((List.finRange 64).filter fun k => (s.key k).state == .active).length]))) ∧
    (s.li.pathLine = true → exec .pathResetLine s = .next s) ∧
    (s.li.pathLine = false →
      let u := pathReset { s with li := { s.li with pathLine := true } }
      exec .pathResetLine s = .next { u with
        li := { u.li with commandQueue := [] }
        cu := { u.cu with state :=
          match s.cu.state, s.li.sending with
          | .replying _, some (.reply _) => s.cu.state
          | .replying _, _ => .idle
          | _, _ => s.cu.state } }) ∧
    exec .pathResetLineFall s = .next { s with li := { s.li with pathLine := false } } ∧
    (let mark := match s.pp.openPage with | some p => [markPageVoid p.tag] | none => []
     (s.pp.engineReady = true →
       t.engineOut = s.engineOut ++ mark ++ [frameOf [0x14, 0x01, 0xFF, 0xFF, 0xFF]] ∧
       t.st.pathClear = s.st.pathClear ∧ t.pp.pendingVoid = s.pp.pendingVoid) ∧
     (s.pp.engineReady = false →
       t.engineOut = s.engineOut ∧ t.st.pathClear = true ∧
       t.pp.pendingVoid = match s.pp.openPage with | some p => some p.tag | none => s.pp.pendingVoid) ∧
     t.pp.engineReady = s.pp.engineReady) ∧
    (PagesActive s →
    (∀ h, t.job h = Job.initial) ∧ t.st = { s.st with entries := [], pathClear := t.st.pathClear } ∧
    t.pp.openPage = none ∧ t.pp.markers = Vector.replicate 16 none ∧
    t.sp = { s.sp with page := none, announced := none, buffer := [] } ∧
    t.li.bandPosition = none ∧ t.li.errors = s.li.errors ∧ t.li.commandQueue = s.li.commandQueue ∧
    t.status.notices = [] ∧ t.status.mask = s.status.mask ∧ (∀ f, s.status.has f = true → t.status.has f = true) ∧
    t.acct.session = none ∧ t.acct.prices = s.acct.prices ∧
    (∀ i, (t.account i).charged = (s.account i).charged ∧ (t.account i).quota = (s.account i).quota ∧
      (t.account i).counters = (s.account i).counters) ∧
    (∀ k, t.key k =
      if (s.key k).state = .active then
        { state := .free, generation := (s.key k).generation, owner := 0, cipherKey := 0, checkKey := 0, created := 0,
          expiry := none, releases := 0, persisted := false, naming := none, cause := none, rowRequest := .none }
      else { s.key k with naming := none }) ∧
    (∀ c, t.slot c =
      let x := s.slot c
      if x.exchange = none then x
      else { x with
        exchange := none, writePending := false, recheckPending := false
        state := if x.state = .checking ∨ x.state = .genuine ∨ x.state = .spent then .sensed else x.state }) ∧
    t.tu = { s.tu with slots := t.tu.slots } ∧ t.ms = s.ms ∧ t.dm = { s.dm with accum := t.dm.accum } ∧
    t.tb = (s.setChannel 0 { s.tb.channels[0] with running := false, stopPending := false, count := 0 }).tb ∧
    (LedgerLaw s → ∀ i, (t.account i).reserved = 0))

/-- POWER ON RESET: every volatile item takes its power-on value, every owner loads its rows or takes its defaults
where they are not valid, STORE FAULT is set exactly for a corrupt row or a duplicate account id, the array keeps its
contents, and part time is the latest time of record, or 0. A duplicate record is ABSENT and dirty, every other is as its
row gives it. The next-write position of the ring follows the row of the latest event time, the higher position at a tie.
A key row whose releases are 0 comes up ERASING with its keys zeroised, and the erases of these rows are requested in slot
order: the first is in flight unless the power warning is high, the next 16 wait, and the rest are row requests. No other
operation is in flight, nothing else waits and nothing is held. What a write in flight leaves, the codes of the lock byte
and the saved time of row 2 follow log entries 19, 27 and 32, the line sample of a slot log entry 2, the place of the generation
in a key row log entry 4. -/
def Obligations.PowerOnLoads : Prop :=
  ∀ s : State, ∃ t, exec .powerOnReset s = .next t ∧
    let m := s.ms.memory
    let valid (r : Row) : Prop := rowCondition (m.row r) = .valid
    let saved := ∀ k : Fin 6, valid (settingsRow k)
    (∀ h, t.job h =
      { state := .free, kind := .print, account := 0, mode := .mono, size := none, key := none, dest := none,
        stallLimit := none, stallCount := none, reason := none, cancel := false, lastPage := none,
        counters := ⟨0, 0, 0, 0, 0⟩ }) ∧
    (t.pp = { openPage := none, markers := Vector.replicate 16 none, pendingVoid := none,
              engineReady := s.pp.engineReady }) ∧
    (t.st = { entries := [], stray := 0, lastFault := none, pathClear := false }) ∧
    (t.li = { commandQueue := [], bandPosition := none, errors := 0, pathLine := s.li.pathLine, sending := none }) ∧
    (t.cu.state = .idle ∧ t.cu.identity = m.row 0 ∧ t.cu.identityCondition = rowCondition (m.row 0)) ∧
    (∀ c, t.slot c = Cartridge.initial) ∧ t.acct.session = none ∧ t.sp.page = none ∧ t.sp.announced = none ∧
    t.sp.buffer = [] ∧ t.dm.accum = none ∧ t.dm.lastRecord = none ∧ t.ms.memory = m ∧
    t.status.mask = 0 ∧ t.status.sequence = 0 ∧ t.status.notices = [] ∧
    (∀ f, t.status.has f = true ↔ f = .storeFault ∧ ((∃ r : Row, rowCondition (m.row r) = .corrupt) ∨
      ∃ i j : Fin 256, i < j ∧ (loadRecord m i).state ≠ .absent ∧ (loadRecord m j).state ≠ .absent ∧
        (loadRecord m i).id = (loadRecord m j).id)) ∧
    t.tb.accumulator = 0 ∧ t.tb.subSecond = 0 ∧ t.tb.minute = 0 ∧
    (let ofRecord (time : Nat) : Prop :=
       (valid 0 ∧ time = fieldAt (m.row 0) 10 4) ∨
       (valid (settingsRow 0) ∧ time = fieldAt (m.row (settingsRow 0)) 0 4) ∨
       (∃ i : Fin 256, valid (accountRow i) ∧ time = fieldAt (m.row (accountRow i)) 48 4) ∨
       (∃ k : Fin 64, valid (keyRow k) ∧ time = (decodeKeySlot (m.row (keyRow k))).created) ∨
       ∃ p : Fin 16, valid (historyRow p) ∧
         (time = fieldAt (m.row (historyRow p)) 16 4 ∨ time = fieldAt (m.row (historyRow p)) 20 4)
     (∀ time, ofRecord time → time ≤ t.tb.seconds) ∧ (ofRecord t.tb.seconds ∨ t.tb.seconds = 0)) ∧
    (∃ spent : List (Fin 64), spent.Pairwise (· < ·) ∧
      (∀ k, k ∈ spent ↔ valid (keyRow k) ∧ (decodeKeySlot (m.row (keyRow k))).releases = 0) ∧
      let erases : List StoreEntry :=
        spent.map fun k => ⟨.erase (keyRow k) (decodeKeySlot (m.row (keyRow k))).generation, false⟩
      let flying := s.ms.warning = false ∧ spent ≠ []
      t.ms.op = (if flying then spent.head?.map fun k =>
        ⟨.erase (keyRow k) (decodeKeySlot (m.row (keyRow k))).generation, false, keyRow k, 1, 0⟩ else none) ∧
      t.ms.latches = List.replicate 64 (if flying then 0xFF else 0x00) ∧
      t.ms.queue = ((if flying then erases.drop 1 else erases).take 16) ∧ t.ms.held = [] ∧
      t.ms.lockUnsaved = false ∧ t.ms.warning = s.ms.warning ∧
      ∀ k ∈ spent, t.key k = { decodeKeySlot (m.row (keyRow k)) with
        state := .erasing, cipherKey := 0, checkKey := 0, cause := some .released,
        rowRequest := if k ∈ spent.take (if flying then 17 else 16) then .none else .erase }) ∧
    (∀ i : Fin 256,
      let duplicate := (loadRecord m i).state ≠ .absent ∧
        ∃ j : Fin 256, j < i ∧ (loadRecord m j).state ≠ .absent ∧ (loadRecord m j).id = (loadRecord m i).id
      t.account i = if duplicate then { Account.blank with dirty := true } else loadRecord m i) ∧
    ((∀ p : Fin 16, t.tu.ring[p] = none) → t.tu.ringNext = 0) ∧
    (∀ (p : Fin 16) (h : HistoryRow), t.tu.ring[p] = some h →
      (∀ (q : Fin 16) (g : HistoryRow), t.tu.ring[q] = some g →
        g.eventTime < h.eventTime ∨ (g.eventTime = h.eventTime ∧ q ≤ p)) → t.tu.ringNext = p + 1) ∧
    (∀ c, t.channel c = { tap := (t.channel c).tap, period := (t.channel c).period, count := 0, running := c != 0,
                          stopPending := false, staged := none }) ∧
    (¬saved → t.acct.prices = Vector.replicate 7 0 ∧ t.acct.postscale = 8 ∧
      t.dm.tables = Vector.replicate 4 ToneTable.default ∧ t.dm.threshold = 50 ∧ t.tu.policy = .strict ∧
      t.tu.lowMark = 100 ∧ t.tu.step = 1048576 ∧ t.tb.trim = 0 ∧ t.ms.lock = false ∧
      (t.channel 0).tap = .t1 ∧ (t.channel 0).period = 120 ∧ (t.channel 1).tap = .t60 ∧ (t.channel 1).period = 1 ∧
      (t.channel 2).tap = .t60 ∧ (t.channel 2).period = 5 ∧ (t.channel 3).tap = .t60 ∧ (t.channel 3).period = 60) ∧
    (saved →
      let v := decodeSettings (m.row (settingsRow 0))
      t.acct.prices = v.prices ∧ t.acct.postscale = v.postscale ∧ t.dm.threshold = v.threshold ∧ t.tu.policy = v.policy ∧
      t.tu.lowMark = v.lowMark ∧ t.tu.step = v.step ∧ t.tb.trim = v.trim ∧ t.ms.lock = v.lock ∧
      (∀ c : Fin 4, ((t.channel c).tap, (t.channel c).period) = v.channels[c]) ∧
      ∀ c : Fin 4, t.dm.tables[c] = decodeToneTable (m.row (settingsRow ⟨c.val + 1, by omega⟩))) ∧
    t.tu.masterSecret = (if rowCondition (m.row 1) = .valid then some ((m.row 1).take 60) else none) ∧
    (∀ i : Fin 256, ¬valid (accountRow i) → (t.account i).state = .absent ∧ (t.account i).id = 0) ∧
    (∀ i : Fin 256, valid (accountRow i) →
      (∀ j : Fin 256, j < i → (loadRecord m j).state = .absent ∨
        (loadRecord m j).id ≠ (decodeAccount (m.row (accountRow i))).id) →
      t.account i = decodeAccount (m.row (accountRow i))) ∧
    (∀ c : Fin 256, valid (egressRow ⟨c.val / 16, by omega⟩) →
      t.sp.egress[c] = decodeEgress c (m.row (egressRow ⟨c.val / 16, by omega⟩))) ∧
    (∀ p : Fin 16, valid (historyRow p) → t.tu.ring[p] = decodeHistory (m.row (historyRow p))) ∧
    (∀ k : Fin 64, valid (keyRow k) → 0 < (decodeKeySlot (m.row (keyRow k))).releases →
      t.key k = decodeKeySlot (m.row (keyRow k))) ∧
    (∀ i j : Fin 256, i ≠ j → (t.account i).state ≠ .absent → (t.account j).state ≠ .absent →
      (t.account i).id ≠ (t.account j).id) ∧
    (∀ i, (t.account i).reserved = 0 ∧ (t.account i).charged ≤ (t.account i).quota) ∧
    (∀ c : Fin 256, ¬valid (egressRow ⟨c.val / 16, by omega⟩) → t.sp.egress[c] = ⟨.cipher, 1440, 1⟩) ∧
    t.sp.egress[0].mode = .cipher ∧
    (∀ p : Fin 16, ¬valid (historyRow p) → t.tu.ring[p] = none) ∧ (∀ p : Fin 16, t.tu.ringDirty[p] = false) ∧
    (∀ k : Fin 64, ¬valid (keyRow k) → t.key k =
      { state := .free, generation := 0, owner := 0, cipherKey := 0, checkKey := 0, created := 0, expiry := none,
        releases := 0, persisted := false, naming := none, cause := none, rowRequest := .none }) ∧
    ∀ k : Fin 64, valid (keyRow k) → (t.key k).naming = none ∧ (t.key k).generation.toNat = fieldAt (m.row (keyRow k)) 0 2 ∧
      ((t.key k).state = .retained ∧ (t.key k).persisted = true ∧ 0 < (t.key k).releases ∨
        (t.key k).state = .erasing ∧ (t.key k).cause = some .released ∧ (t.key k).cipherKey = 0 ∧
          (t.key k).checkKey = 0)

/-! ### Laws that every step keeps -/

/-- Every step keeps the queues and tables within their limits, the time counts and channels in range, the residues
below 2^28, class 0 CIPHER, and the array in its canonical form. The canonical form is the model's (log entry 1), and so is
the seventeenth waiting store request, which the row being written may take (log entry 35). -/
def Obligations.StepKeepsLimits : Prop :=
  let inv (s : State) : Prop :=
    Fits s ∧ TimeInRange s ∧ (∀ c, (s.channel c).InRange) ∧ (∀ c, (s.slot c).ResidueLaw) ∧
      s.sp.egress[0].mode = .cipher ∧ s.ms.memory.wf = true
  ∀ s t : State, inv s → step s = .next t → inv t

/-- Every step keeps the law of verified slots, mirror ≤ confirmed ration ≤ rated yield, with what it rests on: an
exchange of a full check belongs to a CHECKING slot, and a slot whose debounced level is low is EMPTY and has no exchange.
-/
def Obligations.StepKeepsRations : Prop :=
  ∀ s t : State, (∀ c, (s.slot c).RationLaw) → step s = .next t → ∀ c, (t.slot c).RationLaw

/-- Every step keeps the laws of pages, entries and accounts together: page numbers rise within a job, an entry's job
is not FREE, a job that is not ACTIVE has no open page, the open page's job is not of kind SCAN, a FORWARDING entry is the
open page's, reserved is the sum of
what is held against the account, and charged + reserved stays within the quota. -/
def Obligations.StepKeepsLedger : Prop :=
  ∀ s t : State, LedgerLaw s → step s = .next t → LedgerLaw t

/-- The three invariants hold right after reset. The memory of a fresh part is the model's choice (log entry 1). -/
def Obligations.InvariantsAtReset : Prop :=
  let s := State.reset
  (Fits s ∧ TimeInRange s ∧ (∀ c, (s.channel c).InRange) ∧ (∀ c, (s.slot c).ResidueLaw) ∧
      s.sp.egress[0].mode = .cipher ∧ s.ms.memory.wf = true) ∧
    (∀ c, (s.slot c).RationLaw) ∧ LedgerLaw s

/-- The events listed here keep the charged total, the quota, the counters, the id and the state of every account. Not
listed, and not spoken of, are SHEET EXIT, PAGE END, SCAN PAGE COMPLETION, SCAN FRAME SENT and POWER ON RESET, which charge
or load; the command rows and those that bring or begin a command (COMMAND FRAME RECEIVED, BAND FRAME RECEIVED, REPLY SENT);
and the three DISCARD rows, which carry the bytes of a frame and take a good one as the link does (log entry 30). -/
def Obligations.ListedEventsKeepCharges : Prop :=
  ∀ (i : Instr) (s t : State), exec i s = .next t →
    (match i with
     | .stallExpiry | .engineReadyLine _ | .pendingVoidSend | .pathClearSend | .sheetJam _ _ | .pathPurge
     | .drainCompletion _ | .scannerPageBegin _ | .scannerBand _ | .upstreamFrameBegin | .noticeSent | .bandReexamined
     | .referenceStep _ | .channelExpiry _ | .debouncedRise _ | .debouncedFall _ | .fullCheckStart _
     | .identifyAnswer _ _ _ _ _ | .challengeAnswer _ _ | .readRationAnswer _ _ _ | .writeRationAnswer _ _ _
     | .exchangeLimit _ | .serveWaitingWork _ | .storeOperationStart | .storeWriteComplete _ | .powerWarningRise
     | .powerWarningFall | .pathResetLine | .pathResetLineFall => True
     | _ => False) →
    ∀ a, (t.account a).charged = (s.account a).charged ∧ (t.account a).quota = (s.account a).quota ∧
      (t.account a).counters = (s.account a).counters ∧ (t.account a).id = (s.account a).id ∧
      (t.account a).state = (s.account a).state

/-! ### Arithmetic and row images -/

/-- The arithmetic of the raster. The band cipher keeps the length, is its own inverse under the same counters, and
combines each byte with its byte of the permutation's output (a free constant, log entry 5). A tone weighs the
interpolation of its two table entries, at most 4,095, and white weighs nothing. A conversion loses nothing: deposit ×
2^28 + residue is the weighted sum times the gain plus the old residue. The coverage is at most 1,000, and 0 only for
a page without colour. -/
def Obligations.RasterArithmetic : Prop :=
  (∀ (key : Key) (k : KeyRef) (page plane index : Nat) (payload : List Byte),
    (bandCipher key k page plane index payload).length = payload.length ∧
    bandCipher key k page plane index (bandCipher key k page plane index payload) = payload ∧
    ∀ n (h : n < payload.length) (h' : n < (bandCipher key k page plane index payload).length),
      (bandCipher key k page plane index payload)[n] = payload[n] ^^^
        Config.keyStream key ⟨k.slot.val, k.generation.toNat, page, plane, index, n / 16⟩ ⟨n % 16, by omega⟩) ∧
  (∀ (t : ToneTable) (tone : Byte), (∀ i : Fin 17, t.weights[i] ≤ 4095) → t.weights[0] = 0 →
    t.weight tone ≤ 4095 ∧ t.weight 0 = 0 ∧
    t.weight tone = ((t.weights[tone.toNat / 16]'(by omega)) * (16 - tone.toNat % 16) +
      (t.weights[tone.toNat / 16 + 1]'(by omega)) * (tone.toNat % 16)) / 16) ∧
  (∀ (acc : Vector Accum 4) (s : State) (c : Fin 4),
    let r := convertPlane acc s c
    r.2.deposit * 2 ^ 28 + r.2.residue = acc[c].weighted * s.dm.tables[c].gain + (s.slot c).residue ∧
    (r.1.slot c).residue = r.2.residue ∧ r.2.residue < 2 ^ 28) ∧
  ∀ raw pixels : Nat, 0 < pixels → raw ≤ 765 * pixels →
    coverage raw pixels ≤ 1000 ∧ (coverage raw pixels = 0 ↔ raw = 0)

/-- The row images of the owners come back: an account, a history row, a key slot, the settings, a tone table and an
egress entry that are in range are read from the image written as they were, with volatile fields at their power-on
values, and every image is valid, row 7's of fill alone among them. The layout of the key row's fields follows log entry 4. -/
def Obligations.RowImagesRoundTrip : Prop :=
  let w : Nat := 4294967296
  (∀ a : Account, a.id ≠ 0 → a.id < w → a.state ≠ .absent → a.quota < w → a.charged ≤ a.quota →
    (∀ i : Fin 7, a.counters[i] < w) → a.window1.base < 256 → a.window1.limit < 256 → a.window2.base < 256 →
    a.window2.limit < 256 → a.lastCharge < w →
    rowCondition (encodeAccount a) = .valid ∧
    decodeAccount (encodeAccount a) = { a with reserved := 0, dirty := false, sinceFlush := 0 }) ∧
  (∀ a : Account, a.state = .absent → rowCondition (encodeAccount a) = .valid ∧
    decodeAccount (encodeAccount a) = Account.blank) ∧
  (∀ h : HistoryRow, h.mirror < w → h.insertionTime < w → h.eventTime < w → h.developed < w → h.overdraw < w →
    rowCondition (encodeHistory (some h)) = .valid ∧ decodeHistory (encodeHistory (some h)) = some h) ∧
  (∀ (k : KeySlot) (e : Nat), k.owner < w → k.created < w → k.expiry = some e → e < w → k.releases < 256 →
    rowCondition (encodeKeySlot k) = .valid ∧ decodeKeySlot (encodeKeySlot k) = { k with
      state := .retained, persisted := true, naming := none, cause := none, rowRequest := .none }) ∧
  (∀ s : State, s.tb.seconds < w → (∀ i : Fin 7, s.acct.prices[i] < 65536) → 1 ≤ s.acct.postscale →
    s.acct.postscale ≤ 16 → s.dm.threshold ≤ 1000 → s.tu.lowMark ≤ 1000 → 1 ≤ s.tu.step → s.tu.step ≤ 16777216 →
    -1023 ≤ s.tb.trim → s.tb.trim ≤ 1023 →
    (∀ c : Fin 4, 1 ≤ (s.channel c).saved.2 ∧ (s.channel c).saved.2 < 65536) →
    rowCondition (encodeSettings 0 s) = .valid ∧
    decodeSettings (encodeSettings 0 s) =
      { lock := s.ms.lock, prices := s.acct.prices, postscale := s.acct.postscale, threshold := s.dm.threshold,
        policy := s.tu.policy, lowMark := s.tu.lowMark, step := s.tu.step, trim := s.tb.trim,
        channels := s.tb.channels.map Channel.saved }) ∧
  (∀ (s : State) (c : Fin 4), s.dm.tables[c].weights[0] = 0 → (∀ i : Fin 17, s.dm.tables[c].weights[i] ≤ 4095) →
    1 ≤ s.dm.tables[c].gain → s.dm.tables[c].gain < 65536 →
    rowCondition (encodeSettings ⟨c.val + 1, by omega⟩ s) = .valid ∧
    decodeToneTable (encodeSettings ⟨c.val + 1, by omega⟩ s) = s.dm.tables[c]) ∧
  (∀ s : State, rowCondition (encodeSettings 5 s) = .valid) ∧
  ∀ (s : State) (c : Fin 256), (∀ d : Fin 256, 1 ≤ s.sp.egress[d].retention ∧ s.sp.egress[d].retention < 65536 ∧
      1 ≤ s.sp.egress[d].releases ∧ s.sp.egress[d].releases < 256) → s.sp.egress[0].mode = .cipher →
    rowCondition (encodeEgress ⟨c.val / 16, by omega⟩ s) = .valid ∧
    decodeEgress c (encodeEgress ⟨c.val / 16, by omega⟩ s) = s.sp.egress[c]
end

