-- ==== Sys2Proof/Laws/State.lean ====
section
/-! SUPPORT. What each named update of the state leaves as it was: one lemma per field per update, true by rfl, so that no proof
unfolds a record update; and what reading back the record just written gives. -/

namespace Sys2Proof.Machine

section
variable (s : State) (h : Fin 16) (j : Job)
@[simp] theorem State.setJob_li : (s.setJob h j).li = s.li := rfl
@[simp] theorem State.setJob_cu : (s.setJob h j).cu = s.cu := rfl
@[simp] theorem State.setJob_acct : (s.setJob h j).acct = s.acct := rfl
@[simp] theorem State.setJob_pp : (s.setJob h j).pp = s.pp := rfl
@[simp] theorem State.setJob_dm : (s.setJob h j).dm = s.dm := rfl
@[simp] theorem State.setJob_st : (s.setJob h j).st = s.st := rfl
@[simp] theorem State.setJob_tu : (s.setJob h j).tu = s.tu := rfl
@[simp] theorem State.setJob_sp : (s.setJob h j).sp = s.sp := rfl
@[simp] theorem State.setJob_kt : (s.setJob h j).kt = s.kt := rfl
@[simp] theorem State.setJob_ms : (s.setJob h j).ms = s.ms := rfl
@[simp] theorem State.setJob_tb : (s.setJob h j).tb = s.tb := rfl
@[simp] theorem State.setJob_status : (s.setJob h j).status = s.status := rfl
@[simp] theorem State.setJob_draws : (s.setJob h j).draws = s.draws := rfl
@[simp] theorem State.setJob_engineOut : (s.setJob h j).engineOut = s.engineOut := rfl
@[simp] theorem State.setJob_upstreamOut : (s.setJob h j).upstreamOut = s.upstreamOut := rfl
@[simp] theorem State.setJob_tagOut : (s.setJob h j).tagOut = s.tagOut := rfl
@[simp] theorem State.setJob_pending : (s.setJob h j).pending = s.pending := rfl
end

section
variable (s : State) (i : Fin 256) (a : Account)
@[simp] theorem State.setAccount_li : (s.setAccount i a).li = s.li := rfl
@[simp] theorem State.setAccount_cu : (s.setAccount i a).cu = s.cu := rfl
@[simp] theorem State.setAccount_jt : (s.setAccount i a).jt = s.jt := rfl
@[simp] theorem State.setAccount_pp : (s.setAccount i a).pp = s.pp := rfl
@[simp] theorem State.setAccount_dm : (s.setAccount i a).dm = s.dm := rfl
@[simp] theorem State.setAccount_st : (s.setAccount i a).st = s.st := rfl
@[simp] theorem State.setAccount_tu : (s.setAccount i a).tu = s.tu := rfl
@[simp] theorem State.setAccount_sp : (s.setAccount i a).sp = s.sp := rfl
@[simp] theorem State.setAccount_kt : (s.setAccount i a).kt = s.kt := rfl
@[simp] theorem State.setAccount_ms : (s.setAccount i a).ms = s.ms := rfl
@[simp] theorem State.setAccount_tb : (s.setAccount i a).tb = s.tb := rfl
@[simp] theorem State.setAccount_status : (s.setAccount i a).status = s.status := rfl
@[simp] theorem State.setAccount_draws : (s.setAccount i a).draws = s.draws := rfl
@[simp] theorem State.setAccount_engineOut : (s.setAccount i a).engineOut = s.engineOut := rfl
@[simp] theorem State.setAccount_upstreamOut : (s.setAccount i a).upstreamOut = s.upstreamOut := rfl
@[simp] theorem State.setAccount_tagOut : (s.setAccount i a).tagOut = s.tagOut := rfl
@[simp] theorem State.setAccount_pending : (s.setAccount i a).pending = s.pending := rfl
end

section
variable (s : State) (c : Fin 4) (x : Cartridge)
@[simp] theorem State.setSlot_li : (s.setSlot c x).li = s.li := rfl
@[simp] theorem State.setSlot_cu : (s.setSlot c x).cu = s.cu := rfl
@[simp] theorem State.setSlot_jt : (s.setSlot c x).jt = s.jt := rfl
@[simp] theorem State.setSlot_acct : (s.setSlot c x).acct = s.acct := rfl
@[simp] theorem State.setSlot_pp : (s.setSlot c x).pp = s.pp := rfl
@[simp] theorem State.setSlot_dm : (s.setSlot c x).dm = s.dm := rfl
@[simp] theorem State.setSlot_st : (s.setSlot c x).st = s.st := rfl
@[simp] theorem State.setSlot_sp : (s.setSlot c x).sp = s.sp := rfl
@[simp] theorem State.setSlot_kt : (s.setSlot c x).kt = s.kt := rfl
@[simp] theorem State.setSlot_ms : (s.setSlot c x).ms = s.ms := rfl
@[simp] theorem State.setSlot_tb : (s.setSlot c x).tb = s.tb := rfl
@[simp] theorem State.setSlot_status : (s.setSlot c x).status = s.status := rfl
@[simp] theorem State.setSlot_draws : (s.setSlot c x).draws = s.draws := rfl
@[simp] theorem State.setSlot_engineOut : (s.setSlot c x).engineOut = s.engineOut := rfl
@[simp] theorem State.setSlot_upstreamOut : (s.setSlot c x).upstreamOut = s.upstreamOut := rfl
@[simp] theorem State.setSlot_tagOut : (s.setSlot c x).tagOut = s.tagOut := rfl
@[simp] theorem State.setSlot_pending : (s.setSlot c x).pending = s.pending := rfl
end

section
variable (s : State) (k : Fin 64) (x : KeySlot)
@[simp] theorem State.setKey_li : (s.setKey k x).li = s.li := rfl
@[simp] theorem State.setKey_cu : (s.setKey k x).cu = s.cu := rfl
@[simp] theorem State.setKey_jt : (s.setKey k x).jt = s.jt := rfl
@[simp] theorem State.setKey_acct : (s.setKey k x).acct = s.acct := rfl
@[simp] theorem State.setKey_pp : (s.setKey k x).pp = s.pp := rfl
@[simp] theorem State.setKey_dm : (s.setKey k x).dm = s.dm := rfl
@[simp] theorem State.setKey_st : (s.setKey k x).st = s.st := rfl
@[simp] theorem State.setKey_tu : (s.setKey k x).tu = s.tu := rfl
@[simp] theorem State.setKey_sp : (s.setKey k x).sp = s.sp := rfl
@[simp] theorem State.setKey_ms : (s.setKey k x).ms = s.ms := rfl
@[simp] theorem State.setKey_tb : (s.setKey k x).tb = s.tb := rfl
@[simp] theorem State.setKey_status : (s.setKey k x).status = s.status := rfl
@[simp] theorem State.setKey_draws : (s.setKey k x).draws = s.draws := rfl
@[simp] theorem State.setKey_engineOut : (s.setKey k x).engineOut = s.engineOut := rfl
@[simp] theorem State.setKey_upstreamOut : (s.setKey k x).upstreamOut = s.upstreamOut := rfl
@[simp] theorem State.setKey_tagOut : (s.setKey k x).tagOut = s.tagOut := rfl
@[simp] theorem State.setKey_pending : (s.setKey k x).pending = s.pending := rfl
end

section
variable (s : State) (c : Fin 4) (x : Channel)
@[simp] theorem State.setChannel_li : (s.setChannel c x).li = s.li := rfl
@[simp] theorem State.setChannel_cu : (s.setChannel c x).cu = s.cu := rfl
@[simp] theorem State.setChannel_jt : (s.setChannel c x).jt = s.jt := rfl
@[simp] theorem State.setChannel_acct : (s.setChannel c x).acct = s.acct := rfl
@[simp] theorem State.setChannel_pp : (s.setChannel c x).pp = s.pp := rfl
@[simp] theorem State.setChannel_dm : (s.setChannel c x).dm = s.dm := rfl
@[simp] theorem State.setChannel_st : (s.setChannel c x).st = s.st := rfl
@[simp] theorem State.setChannel_tu : (s.setChannel c x).tu = s.tu := rfl
@[simp] theorem State.setChannel_sp : (s.setChannel c x).sp = s.sp := rfl
@[simp] theorem State.setChannel_kt : (s.setChannel c x).kt = s.kt := rfl
@[simp] theorem State.setChannel_ms : (s.setChannel c x).ms = s.ms := rfl
@[simp] theorem State.setChannel_status : (s.setChannel c x).status = s.status := rfl
@[simp] theorem State.setChannel_draws : (s.setChannel c x).draws = s.draws := rfl
@[simp] theorem State.setChannel_engineOut : (s.setChannel c x).engineOut = s.engineOut := rfl
@[simp] theorem State.setChannel_upstreamOut : (s.setChannel c x).upstreamOut = s.upstreamOut := rfl
@[simp] theorem State.setChannel_tagOut : (s.setChannel c x).tagOut = s.tagOut := rfl
@[simp] theorem State.setChannel_pending : (s.setChannel c x).pending = s.pending := rfl
end

section
variable (s : State) (h : Fin 16) (m : Option Nat)
@[simp] theorem State.setMarker_li : (s.setMarker h m).li = s.li := rfl
@[simp] theorem State.setMarker_cu : (s.setMarker h m).cu = s.cu := rfl
@[simp] theorem State.setMarker_jt : (s.setMarker h m).jt = s.jt := rfl
@[simp] theorem State.setMarker_acct : (s.setMarker h m).acct = s.acct := rfl
@[simp] theorem State.setMarker_dm : (s.setMarker h m).dm = s.dm := rfl
@[simp] theorem State.setMarker_st : (s.setMarker h m).st = s.st := rfl
@[simp] theorem State.setMarker_tu : (s.setMarker h m).tu = s.tu := rfl
@[simp] theorem State.setMarker_sp : (s.setMarker h m).sp = s.sp := rfl
@[simp] theorem State.setMarker_kt : (s.setMarker h m).kt = s.kt := rfl
@[simp] theorem State.setMarker_ms : (s.setMarker h m).ms = s.ms := rfl
@[simp] theorem State.setMarker_tb : (s.setMarker h m).tb = s.tb := rfl
@[simp] theorem State.setMarker_status : (s.setMarker h m).status = s.status := rfl
@[simp] theorem State.setMarker_draws : (s.setMarker h m).draws = s.draws := rfl
@[simp] theorem State.setMarker_engineOut : (s.setMarker h m).engineOut = s.engineOut := rfl
@[simp] theorem State.setMarker_upstreamOut : (s.setMarker h m).upstreamOut = s.upstreamOut := rfl
@[simp] theorem State.setMarker_tagOut : (s.setMarker h m).tagOut = s.tagOut := rfl
@[simp] theorem State.setMarker_pending : (s.setMarker h m).pending = s.pending := rfl
end

section
variable (s : State) (f : Flag)
@[simp] theorem State.setFlag_li : (s.setFlag f).li = s.li := rfl
@[simp] theorem State.setFlag_cu : (s.setFlag f).cu = s.cu := rfl
@[simp] theorem State.setFlag_jt : (s.setFlag f).jt = s.jt := rfl
@[simp] theorem State.setFlag_acct : (s.setFlag f).acct = s.acct := rfl
@[simp] theorem State.setFlag_pp : (s.setFlag f).pp = s.pp := rfl
@[simp] theorem State.setFlag_dm : (s.setFlag f).dm = s.dm := rfl
@[simp] theorem State.setFlag_st : (s.setFlag f).st = s.st := rfl
@[simp] theorem State.setFlag_tu : (s.setFlag f).tu = s.tu := rfl
@[simp] theorem State.setFlag_sp : (s.setFlag f).sp = s.sp := rfl
@[simp] theorem State.setFlag_kt : (s.setFlag f).kt = s.kt := rfl
@[simp] theorem State.setFlag_ms : (s.setFlag f).ms = s.ms := rfl
@[simp] theorem State.setFlag_tb : (s.setFlag f).tb = s.tb := rfl
@[simp] theorem State.setFlag_draws : (s.setFlag f).draws = s.draws := rfl
@[simp] theorem State.setFlag_engineOut : (s.setFlag f).engineOut = s.engineOut := rfl
@[simp] theorem State.setFlag_upstreamOut : (s.setFlag f).upstreamOut = s.upstreamOut := rfl
@[simp] theorem State.setFlag_tagOut : (s.setFlag f).tagOut = s.tagOut := rfl
@[simp] theorem State.setFlag_pending : (s.setFlag f).pending = s.pending := rfl
end

section
variable (s : State) (f : Flag) (v : List Val)
@[simp] theorem State.raise_li : (s.raise f v).li = s.li := rfl
@[simp] theorem State.raise_cu : (s.raise f v).cu = s.cu := rfl
@[simp] theorem State.raise_jt : (s.raise f v).jt = s.jt := rfl
@[simp] theorem State.raise_acct : (s.raise f v).acct = s.acct := rfl
@[simp] theorem State.raise_pp : (s.raise f v).pp = s.pp := rfl
@[simp] theorem State.raise_dm : (s.raise f v).dm = s.dm := rfl
@[simp] theorem State.raise_st : (s.raise f v).st = s.st := rfl
@[simp] theorem State.raise_tu : (s.raise f v).tu = s.tu := rfl
@[simp] theorem State.raise_sp : (s.raise f v).sp = s.sp := rfl
@[simp] theorem State.raise_kt : (s.raise f v).kt = s.kt := rfl
@[simp] theorem State.raise_ms : (s.raise f v).ms = s.ms := rfl
@[simp] theorem State.raise_tb : (s.raise f v).tb = s.tb := rfl
@[simp] theorem State.raise_draws : (s.raise f v).draws = s.draws := rfl
@[simp] theorem State.raise_engineOut : (s.raise f v).engineOut = s.engineOut := rfl
@[simp] theorem State.raise_upstreamOut : (s.raise f v).upstreamOut = s.upstreamOut := rfl
@[simp] theorem State.raise_tagOut : (s.raise f v).tagOut = s.tagOut := rfl
@[simp] theorem State.raise_pending : (s.raise f v).pending = s.pending := rfl
end

section
variable (s : State) (m : List Byte)
@[simp] theorem State.emitEngine_li : (s.emitEngine m).li = s.li := rfl
@[simp] theorem State.emitEngine_cu : (s.emitEngine m).cu = s.cu := rfl
@[simp] theorem State.emitEngine_jt : (s.emitEngine m).jt = s.jt := rfl
@[simp] theorem State.emitEngine_acct : (s.emitEngine m).acct = s.acct := rfl
@[simp] theorem State.emitEngine_pp : (s.emitEngine m).pp = s.pp := rfl
@[simp] theorem State.emitEngine_dm : (s.emitEngine m).dm = s.dm := rfl
@[simp] theorem State.emitEngine_st : (s.emitEngine m).st = s.st := rfl
@[simp] theorem State.emitEngine_tu : (s.emitEngine m).tu = s.tu := rfl
@[simp] theorem State.emitEngine_sp : (s.emitEngine m).sp = s.sp := rfl
@[simp] theorem State.emitEngine_kt : (s.emitEngine m).kt = s.kt := rfl
@[simp] theorem State.emitEngine_ms : (s.emitEngine m).ms = s.ms := rfl
@[simp] theorem State.emitEngine_tb : (s.emitEngine m).tb = s.tb := rfl
@[simp] theorem State.emitEngine_status : (s.emitEngine m).status = s.status := rfl
@[simp] theorem State.emitEngine_draws : (s.emitEngine m).draws = s.draws := rfl
@[simp] theorem State.emitEngine_upstreamOut : (s.emitEngine m).upstreamOut = s.upstreamOut := rfl
@[simp] theorem State.emitEngine_tagOut : (s.emitEngine m).tagOut = s.tagOut := rfl
@[simp] theorem State.emitEngine_pending : (s.emitEngine m).pending = s.pending := rfl
end

section
variable (s : State) (m : List Byte)
@[simp] theorem State.emitUpstream_li : (s.emitUpstream m).li = s.li := rfl
@[simp] theorem State.emitUpstream_cu : (s.emitUpstream m).cu = s.cu := rfl
@[simp] theorem State.emitUpstream_jt : (s.emitUpstream m).jt = s.jt := rfl
@[simp] theorem State.emitUpstream_acct : (s.emitUpstream m).acct = s.acct := rfl
@[simp] theorem State.emitUpstream_pp : (s.emitUpstream m).pp = s.pp := rfl
@[simp] theorem State.emitUpstream_dm : (s.emitUpstream m).dm = s.dm := rfl
@[simp] theorem State.emitUpstream_st : (s.emitUpstream m).st = s.st := rfl
@[simp] theorem State.emitUpstream_tu : (s.emitUpstream m).tu = s.tu := rfl
@[simp] theorem State.emitUpstream_sp : (s.emitUpstream m).sp = s.sp := rfl
@[simp] theorem State.emitUpstream_kt : (s.emitUpstream m).kt = s.kt := rfl
@[simp] theorem State.emitUpstream_ms : (s.emitUpstream m).ms = s.ms := rfl
@[simp] theorem State.emitUpstream_tb : (s.emitUpstream m).tb = s.tb := rfl
@[simp] theorem State.emitUpstream_status : (s.emitUpstream m).status = s.status := rfl
@[simp] theorem State.emitUpstream_draws : (s.emitUpstream m).draws = s.draws := rfl
@[simp] theorem State.emitUpstream_engineOut : (s.emitUpstream m).engineOut = s.engineOut := rfl
@[simp] theorem State.emitUpstream_tagOut : (s.emitUpstream m).tagOut = s.tagOut := rfl
@[simp] theorem State.emitUpstream_pending : (s.emitUpstream m).pending = s.pending := rfl
end

section
variable (s : State) (c : Fin 4) (m : List Byte)
@[simp] theorem State.emitTag_li : (s.emitTag c m).li = s.li := rfl
@[simp] theorem State.emitTag_cu : (s.emitTag c m).cu = s.cu := rfl
@[simp] theorem State.emitTag_jt : (s.emitTag c m).jt = s.jt := rfl
@[simp] theorem State.emitTag_acct : (s.emitTag c m).acct = s.acct := rfl
@[simp] theorem State.emitTag_pp : (s.emitTag c m).pp = s.pp := rfl
@[simp] theorem State.emitTag_dm : (s.emitTag c m).dm = s.dm := rfl
@[simp] theorem State.emitTag_st : (s.emitTag c m).st = s.st := rfl
@[simp] theorem State.emitTag_tu : (s.emitTag c m).tu = s.tu := rfl
@[simp] theorem State.emitTag_sp : (s.emitTag c m).sp = s.sp := rfl
@[simp] theorem State.emitTag_kt : (s.emitTag c m).kt = s.kt := rfl
@[simp] theorem State.emitTag_ms : (s.emitTag c m).ms = s.ms := rfl
@[simp] theorem State.emitTag_tb : (s.emitTag c m).tb = s.tb := rfl
@[simp] theorem State.emitTag_status : (s.emitTag c m).status = s.status := rfl
@[simp] theorem State.emitTag_draws : (s.emitTag c m).draws = s.draws := rfl
@[simp] theorem State.emitTag_engineOut : (s.emitTag c m).engineOut = s.engineOut := rfl
@[simp] theorem State.emitTag_upstreamOut : (s.emitTag c m).upstreamOut = s.upstreamOut := rfl
@[simp] theorem State.emitTag_pending : (s.emitTag c m).pending = s.pending := rfl
end

section
variable (s : State) (u : UnitState)
@[simp] theorem State.setUnit_li : (s.setUnit u).li = s.li := rfl
@[simp] theorem State.setUnit_jt : (s.setUnit u).jt = s.jt := rfl
@[simp] theorem State.setUnit_acct : (s.setUnit u).acct = s.acct := rfl
@[simp] theorem State.setUnit_pp : (s.setUnit u).pp = s.pp := rfl
@[simp] theorem State.setUnit_dm : (s.setUnit u).dm = s.dm := rfl
@[simp] theorem State.setUnit_st : (s.setUnit u).st = s.st := rfl
@[simp] theorem State.setUnit_tu : (s.setUnit u).tu = s.tu := rfl
@[simp] theorem State.setUnit_sp : (s.setUnit u).sp = s.sp := rfl
@[simp] theorem State.setUnit_kt : (s.setUnit u).kt = s.kt := rfl
@[simp] theorem State.setUnit_ms : (s.setUnit u).ms = s.ms := rfl
@[simp] theorem State.setUnit_tb : (s.setUnit u).tb = s.tb := rfl
@[simp] theorem State.setUnit_status : (s.setUnit u).status = s.status := rfl
@[simp] theorem State.setUnit_draws : (s.setUnit u).draws = s.draws := rfl
@[simp] theorem State.setUnit_engineOut : (s.setUnit u).engineOut = s.engineOut := rfl
@[simp] theorem State.setUnit_upstreamOut : (s.setUnit u).upstreamOut = s.upstreamOut := rfl
@[simp] theorem State.setUnit_tagOut : (s.setUnit u).tagOut = s.tagOut := rfl
@[simp] theorem State.setUnit_pending : (s.setUnit u).pending = s.pending := rfl
end

section
variable (s : State) (q : List Instr)
@[simp] theorem State.withPending_li : (s.withPending q).li = s.li := rfl
@[simp] theorem State.withPending_cu : (s.withPending q).cu = s.cu := rfl
@[simp] theorem State.withPending_jt : (s.withPending q).jt = s.jt := rfl
@[simp] theorem State.withPending_acct : (s.withPending q).acct = s.acct := rfl
@[simp] theorem State.withPending_pp : (s.withPending q).pp = s.pp := rfl
@[simp] theorem State.withPending_dm : (s.withPending q).dm = s.dm := rfl
@[simp] theorem State.withPending_st : (s.withPending q).st = s.st := rfl
@[simp] theorem State.withPending_tu : (s.withPending q).tu = s.tu := rfl
@[simp] theorem State.withPending_sp : (s.withPending q).sp = s.sp := rfl
@[simp] theorem State.withPending_kt : (s.withPending q).kt = s.kt := rfl
@[simp] theorem State.withPending_ms : (s.withPending q).ms = s.ms := rfl
@[simp] theorem State.withPending_tb : (s.withPending q).tb = s.tb := rfl
@[simp] theorem State.withPending_status : (s.withPending q).status = s.status := rfl
@[simp] theorem State.withPending_draws : (s.withPending q).draws = s.draws := rfl
@[simp] theorem State.withPending_engineOut : (s.withPending q).engineOut = s.engineOut := rfl
@[simp] theorem State.withPending_upstreamOut : (s.withPending q).upstreamOut = s.upstreamOut := rfl
@[simp] theorem State.withPending_tagOut : (s.withPending q).tagOut = s.tagOut := rfl
end

/-! ### Reading back -/

@[simp] theorem State.job_setJob_self (s : State) (h : Fin 16) (j : Job) : (s.setJob h j).job h = j := by
  simp [State.job, State.setJob]

theorem State.job_setJob_of_ne (s : State) {h g : Fin 16} (j : Job) (ne : g ≠ h) : (s.setJob h j).job g = s.job g := by
  have : h.val ≠ g.val := fun e => ne (Fin.ext e.symm)
  simp [State.job, State.setJob, this]

@[simp] theorem State.account_setAccount_self (s : State) (i : Fin 256) (a : Account) :
    (s.setAccount i a).account i = a := by
  simp [State.account, State.setAccount]

theorem State.account_setAccount_of_ne (s : State) {i j : Fin 256} (a : Account) (ne : j ≠ i) :
    (s.setAccount i a).account j = s.account j := by
  have : i.val ≠ j.val := fun e => ne (Fin.ext e.symm)
  simp [State.account, State.setAccount, this]

@[simp] theorem State.slot_setSlot_self (s : State) (c : Fin 4) (x : Cartridge) : (s.setSlot c x).slot c = x := by
  simp [State.slot, State.setSlot]

theorem State.slot_setSlot_of_ne (s : State) {c d : Fin 4} (x : Cartridge) (ne : d ≠ c) :
    (s.setSlot c x).slot d = s.slot d := by
  have : c.val ≠ d.val := fun e => ne (Fin.ext e.symm)
  simp [State.slot, State.setSlot, this]

@[simp] theorem State.key_setKey_self (s : State) (k : Fin 64) (x : KeySlot) : (s.setKey k x).key k = x := by
  simp [State.key, State.setKey]

theorem State.key_setKey_of_ne (s : State) {k l : Fin 64} (x : KeySlot) (ne : l ≠ k) :
    (s.setKey k x).key l = s.key l := by
  have : k.val ≠ l.val := fun e => ne (Fin.ext e.symm)
  simp [State.key, State.setKey, this]

@[simp] theorem State.channel_setChannel_self (s : State) (c : Fin 4) (x : Channel) :
    (s.setChannel c x).channel c = x := by
  simp [State.channel, State.setChannel]

theorem State.channel_setChannel_of_ne (s : State) {c d : Fin 4} (x : Channel) (ne : d ≠ c) :
    (s.setChannel c x).channel d = s.channel d := by
  have : c.val ≠ d.val := fun e => ne (Fin.ext e.symm)
  simp [State.channel, State.setChannel, this]

@[simp] theorem State.marker_setMarker_self (s : State) (h : Fin 16) (m : Option Nat) :
    (s.setMarker h m).marker h = m := by
  simp [State.marker, State.setMarker]

@[simp] theorem State.setUnit_cu_state (s : State) (u : UnitState) : (s.setUnit u).cu.state = u := rfl
@[simp] theorem State.withPending_pending (s : State) (q : List Instr) : (s.withPending q).pending = q := rfl

/-! ### Reads of a record through an update of another table -/

section
variable (s : State) (h : Fin 16) (i : Fin 256) (c : Fin 4) (k : Fin 64)

@[simp] theorem State.job_raise (f : Flag) (v : List Val) : (s.raise f v).job h = s.job h := rfl
@[simp] theorem State.account_raise (f : Flag) (v : List Val) : (s.raise f v).account i = s.account i := rfl
@[simp] theorem State.slot_raise (f : Flag) (v : List Val) : (s.raise f v).slot c = s.slot c := rfl
@[simp] theorem State.key_raise (f : Flag) (v : List Val) : (s.raise f v).key k = s.key k := rfl
@[simp] theorem State.channel_raise (f : Flag) (v : List Val) : (s.raise f v).channel c = s.channel c := rfl
@[simp] theorem State.job_setAccount (a : Account) : (s.setAccount i a).job h = s.job h := rfl
@[simp] theorem State.job_setSlot (x : Cartridge) : (s.setSlot c x).job h = s.job h := rfl
@[simp] theorem State.job_setKey (x : KeySlot) : (s.setKey k x).job h = s.job h := rfl
@[simp] theorem State.account_setJob (j : Job) : (s.setJob h j).account i = s.account i := rfl
@[simp] theorem State.account_setSlot (x : Cartridge) : (s.setSlot c x).account i = s.account i := rfl
@[simp] theorem State.slot_setAccount (a : Account) : (s.setAccount i a).slot c = s.slot c := rfl
@[simp] theorem State.slot_setJob (j : Job) : (s.setJob h j).slot c = s.slot c := rfl
@[simp] theorem State.key_setJob (j : Job) : (s.setJob h j).key k = s.key k := rfl
end

end Sys2Proof.Machine
end

