-- ==== Sys2Proof/Laws/CommandUnit.lean ====
section
/-! SUPPORT. What the downstream half of the controller link and the Command Unit do with one command frame: said once, so that no
proof about a command unfolds the link. -/

namespace Sys2Proof.Machine

/-- With no band waiting, the end of an event examines none. -/
theorem settleBand_of_none (s : State) (h : s.li.bandPosition = none) : settleBand s = s := by
  simp [settleBand, h]

/-- The link gives readiness to a part that is ready. -/
theorem linkOpen_of_ready {s : State} (h : Ready s) : linkOpen s = true := by
  obtain ⟨-, hq, hb, hl⟩ := h
  simp [linkOpen, hq, hb, hl]

/-- A command frame that reaches a part that is ready is taken at once: the command queue is empty again after it. -/
theorem deliver_of_ready {s : State} (h : Ready s) (f : CommandFrame) : deliver f s = execute f s := by
  have hl := linkOpen_of_ready h
  obtain ⟨hi, hq, -, -⟩ := h
  have : ({ s with li := { s.li with commandQueue := [] } } : State) = s := by
    cases s with | mk li => cases li; simp_all
  simp [deliver, hl, takeNext, hi, hq, this]

/-- A command that reaches a part that is ready is carried out at once: what it does is its owner's, its answer is built, and
the band it has released, if any, examined. -/
theorem deliverCommand_of_ready {s : State} (h : Ready s) (tag : Byte) (c : Command) :
    deliverCommand tag c s =
      settleBand ((runCommand c s).1.setUnit (.after c.kind tag (runCommand c s).2)) := by
  simp [deliverCommand, deliver_of_ready h, execute, carryOut]

/-- A command whose owner leaves the band position empty ends with its answer. -/
theorem deliverCommand_answered {s : State} (h : Ready s) (tag : Byte) (c : Command)
    (hb : (runCommand c s).1.li.bandPosition = none) :
    deliverCommand tag c s = (runCommand c s).1.setUnit (.after c.kind tag (runCommand c s).2) := by
  rw [deliverCommand_of_ready h, settleBand_of_none]
  simpa using hb

end Sys2Proof.Machine
end

