-- ==== Sys2Proof/Laws/Flags.lean ====
section
/-! SUPPORT. What raising a condition can do to the notice queue and to the link error count. -/

namespace Sys2Proof.Machine

/-- Raising a condition adds at most one notice, and none to a full queue (R178). -/
theorem State.raise_notices_length (s : State) (f : Flag) (fields : List Val) (h : s.status.notices.length ≤ 32) :
    (s.raise f fields).status.notices.length ≤ 32 := by
  simp only [State.raise]
  split
  · by_cases hl : s.status.notices.length < 32
    · simp [Status.formNotice, Status.set, hl]
    · simpa [Status.formNotice, Status.set, hl] using h
  · simpa [Status.set] using h

/-- Setting a flag alone queues no notice. -/
theorem State.setFlag_notices (s : State) (f : Flag) : (s.setFlag f).status.notices = s.status.notices := rfl

/-- A link error leaves everything but the error count and the status block as it is (R2). -/
theorem State.linkError_frame (s : State) (l : LinkName) :
    s.linkError l = { s with li := (s.linkError l).li, status := (s.linkError l).status } := rfl

/-- The link error count never passes 65,535 (R2). -/
theorem State.linkError_errors_le (s : State) (l : LinkName) : (s.linkError l).li.errors ≤ 65535 := by
  simp only [State.linkError, State.raise_li, satAdd, max16]
  omega

end Sys2Proof.Machine
end

