-- ==== Sys2Proof/Laws/Memory.lean ====
section
/-! SUPPORT. The non-volatile array: a byte written is read back, every other byte stays, and every operation over the array keeps
its canonical form. -/

namespace Sys2Proof.Machine.Memory

/-- Below its first entry a list in canonical form reads as if nothing were listed. -/
theorem read_of_all_lt {m : Memory} {a : Nat} (h : m.all (fun c => decide (a < c.1)) = true) : read m a = unlisted a := by
  induction m with
  | nil => rfl
  | cons c rest ih =>
    obtain ⟨b, x⟩ := c
    simp only [List.all_cons, Bool.and_eq_true, decide_eq_true_eq] at h
    simp only [read, if_neg (Nat.ne_of_lt h.1)]
    exact ih h.2

/-- The byte written is the byte read (canonical form assumed). -/
theorem read_write_same {m : Memory} (h : m.wf = true) (a : Nat) (x : Byte) : read (write m a x) a = x := by
  induction m with
  | nil => simp only [write]; split <;> simp_all [read]
  | cons c rest ih =>
    obtain ⟨b, y⟩ := c
    simp only [wf, Bool.and_eq_true, decide_eq_true_eq] at h
    obtain ⟨⟨-, hlt⟩, hr⟩ := h
    simp only [write]
    split
    next hab =>
      split
      next hx =>
        simp only [read, if_neg (Nat.ne_of_lt hab), hx]
        refine read_of_all_lt (List.all_eq_true.mpr fun c hc => ?_)
        have := List.all_eq_true.mp hlt c hc
        simp only [decide_eq_true_eq] at this ⊢
        omega
      next => simp [read]
    next hab =>
      split
      next hb =>
        subst hb
        split
        next hx => rw [read_of_all_lt hlt, hx]
        next => simp [read]
      next hne => simp only [read, if_neg hne, ih hr]

/-- A write leaves every other byte as it was. -/
theorem read_write_other {m : Memory} {a b : Nat} (x : Byte) (hne : b ≠ a) : read (write m a x) b = read m b := by
  induction m with
  | nil => simp only [write]; split <;> simp [read, hne]
  | cons c rest ih =>
    obtain ⟨d, y⟩ := c
    simp only [write]
    split
    · split <;> simp [read, hne]
    · split
      next had =>
        subst had
        split <;> simp [read, hne]
      next => simp only [read]; split <;> simp_all

/-- A write adds no address below those that were there and its own. -/
theorem write_all_lt {m : Memory} {a n : Nat} (x : Byte) (hn : n < a) (h : m.all (fun c => decide (n < c.1)) = true) :
    (write m a x).all (fun c => decide (n < c.1)) = true := by
  induction m with
  | nil => simp only [write]; split <;> simp [hn]
  | cons c rest ih =>
    obtain ⟨b, y⟩ := c
    simp only [List.all_cons, Bool.and_eq_true, decide_eq_true_eq] at h
    obtain ⟨hb, hr⟩ := h
    simp only [write]
    split
    · split <;> simp only [List.all_cons, hb, hr, hn, decide_true, Bool.and_self]
    · split
      · split <;> simp only [List.all_cons, hr, hn, decide_true, Bool.and_self]
      · simp only [List.all_cons, hb, ih hr, decide_true, Bool.and_self]

/-- A write keeps the canonical form. -/
theorem write_wf {m : Memory} (h : m.wf = true) (a : Nat) (x : Byte) : (write m a x).wf = true := by
  induction m with
  | nil => simp only [write]; split <;> simp_all [wf]
  | cons c rest ih =>
    obtain ⟨b, y⟩ := c
    have h' := h
    simp only [wf, Bool.and_eq_true, decide_eq_true_eq] at h'
    obtain ⟨⟨hy, hlt⟩, hr⟩ := h'
    simp only [write]
    split
    next hab =>
      split
      next => exact h
      next hx =>
        simp only [wf, Bool.and_eq_true, decide_eq_true_eq, List.all_cons]
        refine ⟨⟨hx, hab, List.all_eq_true.mpr fun c hc => ?_⟩, ⟨hy, hlt⟩, hr⟩
        have := List.all_eq_true.mp hlt c hc
        simp only [decide_eq_true_eq] at this ⊢
        omega
    next hab =>
      split
      next hb =>
        subst hb
        split
        next => exact hr
        next hx =>
          simp only [wf, Bool.and_eq_true, decide_eq_true_eq]
          exact ⟨⟨hx, hlt⟩, hr⟩
      next hne =>
        simp only [wf, Bool.and_eq_true, decide_eq_true_eq]
        exact ⟨⟨hy, write_all_lt x (by omega) hlt⟩, ih hr⟩

/-- Storing any number of bytes keeps the canonical form. -/
theorem foldl_write_wf (l : List Nat) (f : Nat → Nat) (g : Nat → Byte) {m : Memory} (h : m.wf = true) :
    (l.foldl (fun m o => write m (f o) (g o)) m).wf = true := by
  induction l generalizing m with
  | nil => exact h
  | cons o rest ih => exact ih (write_wf h _ _)

/-- Storing a row keeps the canonical form. -/
theorem writeRow_wf {m : Memory} (h : m.wf = true) (r : Row) (image : List Byte) : (m.writeRow r image).wf = true :=
  foldl_write_wf _ _ _ h

/-- A byte that no store of a run of stores reaches stays as it was. -/
theorem read_foldl_write_other (l : List Nat) (f : Nat → Nat) (g : Nat → Byte) {m : Memory} {a : Nat}
    (h : ∀ o ∈ l, f o ≠ a) : read (l.foldl (fun m o => write m (f o) (g o)) m) a = read m a := by
  induction l generalizing m with
  | nil => rfl
  | cons o rest ih =>
    rw [List.foldl_cons, ih fun o ho => h o (List.mem_cons_of_mem _ ho),
      read_write_other _ (Ne.symm (h o List.mem_cons_self))]

/-- Nothing is listed in the array of a fresh part: the form holds. -/
theorem wf_nil : wf [] = true := rfl

end Sys2Proof.Machine.Memory

namespace Sys2Proof.Machine

/-- The array right after reset has the canonical form. -/
theorem State.reset_memory_wf : State.reset.ms.memory.wf = true := rfl

end Sys2Proof.Machine
end

