-- ==== Sys2Proof/Laws/Store.lean ====
section
/-! SUPPORT. What taking a store request and starting an operation can do to the rest of the part: said once, so that no proof about
an owner unfolds the queue. -/

namespace Sys2Proof.Machine

/-- What the store may change while it takes requests and starts operations: its own record, the dirty flags of accounts and of
history rows (R154), and nothing else. -/
structure StoreStep (s t : State) : Prop where
  frame : t = { s with ms := t.ms, acct := { s.acct with records := t.acct.records },
                       tu := { s.tu with ringDirty := t.tu.ringDirty } }
  money : ∀ i, (t.account i).sameMoney (s.account i)
  memory : t.ms.memory = s.ms.memory
  lock : t.ms.lock = s.ms.lock
  warning : t.ms.warning = s.ms.warning

theorem StoreStep.refl (s : State) : StoreStep s s := ⟨rfl, fun _ => rfl, rfl, rfl, rfl⟩

theorem StoreStep.trans {s t u : State} (h : StoreStep s t) (k : StoreStep t u) : StoreStep s u := by
  obtain ⟨hf, hm, h1, h2, h3⟩ := h
  obtain ⟨kf, km, k1, k2, k3⟩ := k
  refine ⟨?_, fun i => ?_, k1.trans h1, k2.trans h2, k3.trans h3⟩
  · rw [kf, hf]
  · have a := hm i
    have b := km i
    simp only [Account.sameMoney] at a b ⊢
    rw [← a, ← b]

/-- A change of the waiting and held requests alone is a store step. -/
theorem StoreStep.queue (s : State) (q h : List StoreEntry) :
    StoreStep s { s with ms := { s.ms with queue := q, held := h } } :=
  ⟨rfl, fun _ => rfl, rfl, rfl, rfl⟩

/-- A snapshot clears at most the mark of its own row (R154). -/
theorem snapshot_step (s : State) (r : Row) (g : Half) : StoreStep s (snapshot s r g).2 := by
  unfold snapshot
  cases rowOwner r with
  | manufacture => exact .refl s
  | settings k =>
    dsimp only
    split
    · exact ⟨rfl, fun _ => rfl, rfl, rfl, rfl⟩
    · exact .refl s
  | egress k => exact .refl s
  | account i =>
    refine ⟨rfl, fun j => ?_, rfl, rfl, rfl⟩
    by_cases h : j = i
    · subst h; simp [Account.sameMoney, State.modAccount, State.account, State.setAccount]
    · have : i.val ≠ j.val := fun e => h (Fin.ext e.symm)
      simp [Account.sameMoney, State.modAccount, State.account, State.setAccount, this]
  | key k => dsimp only; split <;> exact .refl s
  | history p => exact ⟨rfl, fun _ => rfl, rfl, rfl, rfl⟩

theorem startEntry_step (s : State) (e : StoreEntry) : StoreStep s (startEntry s e) := by
  unfold startEntry
  cases e.request with
  | commit r g =>
    have h := snapshot_step s r g
    dsimp only
    split <;> (rename_i hs; rw [hs] at h; exact h.trans ⟨rfl, fun _ => rfl, rfl, rfl, rfl⟩)
  | erase r g => exact ⟨rfl, fun _ => rfl, rfl, rfl, rfl⟩
  | region g => exact ⟨rfl, fun _ => rfl, rfl, rfl, rfl⟩

/-- The start of an operation, where one may start, is a store step (R154). -/
theorem startIfReady_step (s : State) : StoreStep s (startIfReady s) := by
  unfold startIfReady
  split
  · unfold startHead
    split
    · exact .refl s
    · exact ((StoreStep.queue s _ s.ms.held).trans (startEntry_step _ _)).trans (.queue _ _ _)
  · exact .refl s

/-- An owner's request is a store step (R153). -/
theorem request_step (s : State) (q : StoreRequest) : StoreStep s (request s q).1 := by
  unfold request
  split
  · exact (StoreStep.queue s _ s.ms.held).trans (startIfReady_step _)
  · exact .refl s

/-- The history row a slot appends is recorded as the statements have it (R116). -/
theorem appendHistory_recorded (s : State) (c : Fin 4) (event : HistoryEvent) :
    appendHistory s c event = s.recorded
      { event := event, slot := c, serial := (s.slot c).serial.getD 0, mirror := (s.slot c).mirror,
        insertionTime := (s.slot c).insertionTime, eventTime := s.tb.seconds, developed := (s.slot c).developed,
        overdraw := (s.slot c).overdraw } := rfl

/-- Recording a history row writes the ring and the store alone: what follows the row is a store step (R116). -/
theorem State.recorded_step (s : State) (row : HistoryRow) :
    StoreStep { s with tu := { s.tu with
      ring := s.tu.ring.set s.tu.ringNext (some row), ringDirty := s.tu.ringDirty.set s.tu.ringNext true,
      ringNext := s.tu.ringNext + 1 } } (s.recorded row) := request_step _ _

/-- A long command's request is a store step (R153, R157, R158). -/
theorem requestOwn_step (s : State) (q : StoreRequest) : StoreStep s (requestOwn s q) := by
  unfold requestOwn
  split
  · exact (StoreStep.queue s _ s.ms.held).trans (startIfReady_step _)
  · exact ⟨rfl, fun _ => rfl, rfl, rfl, rfl⟩

/-- The request of a region erase is a store step (R156). -/
theorem requestRegion_step (s : State) (g : Region) : StoreStep s (requestRegion s g) := by
  unfold requestRegion
  exact (StoreStep.queue s _ s.ms.held).trans (requestOwn_step _ _)

/-- Everything a request can meet (R153): a waiting entry of its row, which it merges into; a queue that appends it, having
room or its row being the one written; or a full queue that does neither. -/
theorem enqueue_cases (writing : Option Row) (queue : List StoreEntry) (e : StoreEntry) :
    (queue.any (·.sameRow e) = true ∧
      enqueue writing queue e = some (queue.map fun w => if w.sameRow e then w.merge e else w)) ∨
    (queue.any (·.sameRow e) = false ∧
      (queue.length < 16 ∨ (e.request.row? ≠ none ∧ e.request.row? = writing)) ∧
      enqueue writing queue e = some (queue ++ [e])) ∨
    (queue.any (·.sameRow e) = false ∧ 16 ≤ queue.length ∧ (e.request.row? = none ∨ e.request.row? ≠ writing) ∧
      enqueue writing queue e = none) := by
  unfold enqueue queueLimit
  cases h : queue.any (·.sameRow e) with
  | true => exact .inl ⟨rfl, by simp⟩
  | false =>
    by_cases hl : queue.length < 16
    · exact .inr (.inl ⟨rfl, .inl hl, by simp [hl]⟩)
    · by_cases hw : e.request.row? ≠ none ∧ e.request.row? = writing
      · exact .inr (.inl ⟨rfl, .inr hw, by simp [← hw.2, Option.isSome_iff_ne_none.mpr hw.1]⟩)
      · refine .inr (.inr ⟨rfl, by omega, ?_, ?_⟩)
        · by_cases hn : e.request.row? = none
          · exact .inl hn
          · exact .inr fun he => hw ⟨hn, he⟩
        · cases hr : e.request.row? with
          | none => simp [hl]
          | some r =>
            have : some r ≠ writing := fun he => hw ⟨by simp [hr], hr.trans he⟩
            simp [hl, this]

/-- A queue that takes a row request gains at most one entry. -/
theorem enqueue_length {writing : Option Row} {queue l : List StoreEntry} {e : StoreEntry}
    (h : enqueue writing queue e = some l) : l.length ≤ queue.length + 1 := by
  obtain ⟨-, he⟩ | ⟨-, -, he⟩ | ⟨-, -, -, he⟩ := enqueue_cases writing queue e <;> rw [he] at h <;> cases h <;> simp

end Sys2Proof.Machine
end

