-- ==== Sys2Proof/WellFormed.lean ====
section
/-! DEFINITION. Which commands a connection can carry: the lengths that the layouts of chapter 12 bound. Every other
limit on an operand is a rule about what the part does with it, and stands in the meanings. -/

namespace Sys2Proof

/-- The longest downstream frame of section 12.2: 11 header bytes, 8,192 × 64 tones, band check and CRC-32. -/
def maxBandFrame : Nat := 11 + 8192 * 64 + 4 + 4

/-- The longest scanner frame of section 12.3: kind, 9 header bytes, 8,192 × 64 tones and CRC-32. -/
def maxScannerFrame : Nat := 1 + 9 + 8192 * 64 + 4

/-- A row of the Meter Store has 64 bytes (R150). -/
def rowBytes : Nat := 64

/-- A command is well formed when its byte strings have lengths the connections carry. -/
def Instr.WellFormed : Instr → Bool
  | .commandFrameReceived f => f.length ≤ maxBandFrame
  | .bandFrameReceived f => f.length ≤ maxBandFrame
  | .scannerBand b => b.payload.length ≤ 8192 * 64
  | .storeWriteComplete (some r) => r.length == rowBytes
  | .engineReportDiscard f => f.length ≤ maxBandFrame
  | .scannerFrameDiscard f => f.length ≤ maxScannerFrame
  | .tagAnswerDiscard _ f => f.length ≤ maxBandFrame
  | _ => true

end Sys2Proof
end

