-- ==== Sys2Proof/Tests/Slice0.lean ====
section
/-! SUPPORT. The model's own tests: the values the spec works out, ill-formed commands refused, single commands on small states, and for
each statement a state that meets its hypotheses. -/

namespace Sys2Proof.Tests

open Sys2Proof Sys2Proof.Machine

set_option Elab.async false

/-! ### Ill-formed commands -/

theorem test_wf_command_frame : (Instr.commandFrameReceived (List.replicate (maxBandFrame + 1) 0)).WellFormed = false := by
  simp [Instr.WellFormed]
theorem test_wf_band_frame : (Instr.bandFrameReceived (List.replicate (maxBandFrame + 1) 0)).WellFormed = false := by
  simp [Instr.WellFormed]
theorem test_wf_scanner_band :
    (Instr.scannerBand ⟨0, 0, false, 0, 1, 1, List.replicate (8192 * 64 + 1) 0⟩).WellFormed = false := by
  simp only [Instr.WellFormed, List.length_replicate]; decide
theorem test_wf_retained_row : (Instr.storeWriteComplete (some (List.replicate 63 0))).WellFormed = false := by
  decide
theorem test_wf_engine_discard : (Instr.engineReportDiscard (List.replicate (maxBandFrame + 1) 0)).WellFormed = false := by
  simp [Instr.WellFormed]
theorem test_wf_scanner_discard : (Instr.scannerFrameDiscard (List.replicate (maxScannerFrame + 1) 0)).WellFormed = false := by
  simp [Instr.WellFormed]
theorem test_wf_tag_discard : (Instr.tagAnswerDiscard 0 (List.replicate (maxBandFrame + 1) 0)).WellFormed = false := by
  simp [Instr.WellFormed]
theorem test_wf_row_of_64 : (Instr.storeWriteComplete (some (List.replicate 64 0))).WellFormed = true := by decide

/-! ### Values the spec works out -/

/-- A tone table with two points given, for the worked cases of section 4.3. -/
def tableWith (i : Fin 17) (a : Nat) (j : Fin 17) (b : Nat) : ToneTable :=
  ⟨(ToneTable.default.weights.set i a).set j b, 800⟩

/-- Section 4.3, worked case: W[12] = 2,400 and W[13] = 2,600. -/
theorem test_weight_plane_k :
    (tableWith 12 2400 13 2600).weight 200 = 2500 ∧ (tableWith 12 2400 13 2600).weight 192 = 2400 ∧
      (tableWith 12 2400 13 2600).weight 207 = 2587 := by decide +kernel

/-- Section 4.3, worked case: W[2] = 300 and W[3] = 460. -/
theorem test_weight_plane_c :
    (tableWith 2 300 3 460).weight 37 = 350 ∧ (tableWith 2 300 3 460).weight 38 = 360 := by decide +kernel

/-- Section 4.3: the default table at tones 240 and 255. -/
theorem test_weight_default : ToneTable.default.weight 240 = 3840 ∧ ToneTable.default.weight 255 = 4079 := by
  decide +kernel

/-- Section 4.11 and the limit cases of section 4.13: coverage. -/
theorem test_coverage : coverage 1850 1000 = 2 ∧ coverage 1 1000000 = 1 ∧ coverage 0 1000 = 0 ∧
    coverage (3 * 255 * 1000) 1000 = 1000 := by decide +kernel

/-- The check values of section 12.1 over "123456789". -/
theorem test_check_values :
    crc32 [0x31, 0x32, 0x33, 0x34, 0x35, 0x36, 0x37, 0x38, 0x39] = 0xCBF43926#32 ∧
      crc16 [0x31, 0x32, 0x33, 0x34, 0x35, 0x36, 0x37, 0x38, 0x39] = 0x29B1#16 := by decide +kernel

/-- Section 11.3, R183: OPEN JOB is kind 1 with nine argument bytes, READ IDENTITY kind 44 with none; kinds 0 and 45 name
none. -/
theorem test_command_kinds :
    decodeCommand 1 [0, 3, 1, 0, 16, 5, 0x01, 0x02, 7] = some (.openJob ⟨0, 3, 1, 0, 16, 5, 0x0102, 7⟩) ∧
      decodeCommand 44 [] = some .readIdentity ∧ decodeCommand 0 [] = none ∧ decodeCommand 45 [] = none ∧
      decodeCommand 44 [0] = none := by decide +kernel

/-- R182: values are sent most significant byte first, ADJUST QUOTA of index 2 to 01020304h. -/
theorem test_value_order : decodeCommand 8 [2, 1, 2, 3, 4] = some (.adjustQuota 2 0x01020304) := by decide +kernel

/-- R182, section 12.1: a count takes two bytes, so LOAD EGRESS CLASS has six argument bytes, retention 0102h and release
count 0003h. -/
theorem test_release_count_width :
    decodeCommand 29 [1, 0, 1, 2, 0, 3] = some (.loadEgressClass 1 0 0x0102 3) ∧ decodeCommand 29 [1, 0, 1, 2, 3] = none := by
  decide +kernel

/-! ### Small states -/

/-- The state a command leaves. -/
def after (i : Instr) (s : State) : State :=
  match exec i s with
  | .next t => t
  | _ => s

/-- The code of the reply that waits. -/
def replyCode (s : State) : Option ReplyCode :=
  match s.cu.state with
  | .replying r => some r.code
  | _ => none

/-- The results of the reply that waits. -/
def results (s : State) : List Val :=
  match s.cu.state with
  | .replying r => r.results
  | _ => []

/-- An account with a quota of 1,000, every privilege and the windows 1 to 9 and none. -/
def acct5 : Account :=
  { Account.blank with id := 5, state := .enabled, privileges := 7, quota := 1000, window1 := ⟨1, 9⟩ }

/-- Account 0 loaded, the panel session open for it, class 1 CLEAR, the TOLERANT policy and the engine ready. -/
def desk : State :=
  let s := State.reset.setAccount 0 acct5
  { s with
    acct := { s.acct with session := some ⟨0, 0⟩, prices := #v[3, 4, 5, 6, 7, 8, 9] }
    sp := { s.sp with egress := s.sp.egress.set 1 ⟨.clear, 60, 2⟩ }
    tu := { s.tu with policy := .tolerant }
    pp := { s.pp with engineReady := true } }

/-- A MONO PRINT job of size class S, ACTIVE at handle 0. -/
def printJob : Job := { Job.initial with state := .active, size := some .small, stallLimit := some 16, stallCount := some 0 }

/-- A MONO SCAN job to class 1 with no key slot, ACTIVE. -/
def scanJob : Job := { Job.initial with state := .active, kind := .scan, dest := some 1 }

def printing : State := desk.setJob 0 printJob
def scanning : State := desk.setJob 0 scanJob

/-- A band of two pixels, plane K, index 0, page 1 of job 0. -/
def band0 : Band := ⟨0, 1, 0, true, 0, 1, 2, [200, 0], none⟩

/-- A band waits and its cause has ended. -/
def bandDue (s : State) (b : Band) : State := { s with li := { s.li with bandPosition := some ⟨b, .due⟩ } }

/-- The open page 1 of job 0, its K plane not begun. -/
def page1 : OpenPage :=
  { tag := ⟨0, 1⟩, kind := .print, mode := .mono, size := .small, key := none, width := 2,
    planes := Vector.replicate 4 PlaneRec.initial }

def entry1 : Entry :=
  { tag := ⟨0, 1⟩, account := 0, provisional := .monoS, reserved := 3, status := .forwarding, final := none,
    deposits := Vector.replicate 4 none, serials := Vector.replicate 4 none }

/-- Page 1 of job 0 is open, with its entry and its reservation. -/
def pageOpen : State :=
  let s := (desk.setJob 0 { printJob with lastPage := some 1 }).setAccount 0 { acct5 with reserved := 3 }
  { s with
    pp := { s.pp with openPage := some page1 }
    st := { s.st with entries := [entry1] }
    dm := { s.dm with accum := some (Vector.replicate 4 ⟨0, 0⟩) } }

/-- Scan page 1 of job 0 is in progress. -/
def scanPage1 : ScanPage :=
  { ended := false, tag := ⟨0, 1⟩, width := 2, planes := #v[⟨1, 1, true⟩, PlaneRec.initial, PlaneRec.initial],
    reservation := 9, inBuffer := 0 }

def scanFrame1 : ScanFrame :=
  { tag := ⟨0, 1⟩, key := none, plane := 0, index := 0, lines := 1, width := 2, last := true, payload := [1, 2],
    check := none }

def scanOpen : State :=
  let s := (desk.setJob 0 { scanJob with lastPage := some 1 }).setAccount 0 { acct5 with reserved := 9 }
  { s with sp := { s.sp with page := some scanPage1 } }

/-- A GENUINE cartridge with a ration of 100 of 1,000. -/
def toner : Cartridge :=
  { Cartridge.initial with
    state := .genuine, serial := some 77, model := some ⟨0, 1⟩, ratedYield := 1000, rationKnown := true, mirror := 100,
    confirmed := 100, level := true, latch := true, sample := true }

/-- Slot K holds it, with an exchange on its line. -/
def onLine (x : Cartridge) (e : Option Exchange) : State := desk.setSlot 0 { x with exchange := e }

/-- A RETAINED key slot of account id 5, generation 2, unexpired. -/
def retained : KeySlot :=
  { KeySlot.freed 2 with state := .retained, owner := 5, expiry := some 3600, releases := 1, cipherKey := 1, checkKey := 2 }

/-- Sixteen account commits wait behind an operation in flight. -/
def storeBusy : State :=
  { desk with ms := { desk.ms with
      op := some ⟨.commit (accountRow 255) 0, false, accountRow 255, 1, 0⟩
      queue := (List.finRange 16).map fun i => ⟨.commit (accountRow ⟨i.val, by omega⟩) 0, false⟩ } }

/-- One entry waits and nothing stands in its way. -/
def storeWaits (q : StoreRequest) : State := { desk with ms := { desk.ms with queue := [⟨q, false⟩] } }

/-- An operation is in flight with its latches at all ones. -/
def storeFlies (op : StoreOp) : State := { desk with ms := { desk.ms with op := some op, latches := erasedRow } }

/-! ### Single commands on small states -/

/-- R169: a run request that names none of the three is MALFORMED, before channel 0 is refused. -/
theorem test_set_timer_run_request : replyCode (after (.setTimer 0 0 0 5 3) State.reset) = some .malformed ∧
    replyCode (after (.setTimer 0 0 0 5 1) State.reset) = some .refused := by decide +kernel

/-- R25, R27: the lowest context is taken and a stall limit of 0 is stored as 1. -/
theorem test_open_job_print :
    let t := after (.openJob 0 ⟨0, 0, 0, 0, 0, 0, 0, 0⟩) desk
    (t.job 0).state = .active ∧ (t.job 0).stallLimit = some 1 ∧ results t = [.u8 0] := by decide +kernel

/-- R26 order 2: an ABSENT account. -/
theorem test_open_job_absent_account : replyCode (after (.openJob 0 ⟨0, 9, 0, 0, 0, 0, 0, 0⟩) desk) = some .noEntry := by
  decide +kernel

/-- R9 to R16: the one band of a MONO page opens it, is forwarded and completes it; three marks leave. -/
theorem test_one_band_page :
    let t := after .bandReexamined (bandDue printing band0)
    t.st.entries.map (fun e => (e.status, e.reserved, e.final)) = [(.complete, 3, some .monoS)] ∧
      t.engineOut.length = 3 ∧ t.pp.openPage = none ∧ (t.account 0).reserved = 3 := by decide +kernel

/-- R47: the exit of a COMPLETE page charges it at its class; R81 counts it. -/
theorem test_exit_charges :
    let t := after (.sheetExit 0 1 1) { pageOpen with
      pp := { pageOpen.pp with openPage := none }
      st := { pageOpen.st with entries := [{ entry1 with status := .complete, final := some .monoS }] } }
    (t.account 0).charged = 3 ∧ (t.account 0).reserved = 0 ∧ (t.account 0).counters[0] = 1 ∧
      (t.job 0).counters.exited = 1 ∧ t.st.entries = [] := by decide +kernel

/-- R86: an exit that names no entry is a stray. -/
theorem test_stray_exit : (after (.sheetExit 3 9 1) pageOpen).st.stray = 1 := by decide +kernel

/-- R88: a jam voids the open page, releases its reservation uncharged and holds its job. -/
theorem test_jam_holds :
    let t := after (.sheetJam 1 1) pageOpen
    (t.job 0).state = .held ∧ (t.job 0).reason = some .jam ∧ (t.account 0).reserved = 0 ∧ (t.account 0).charged = 0 ∧
      (t.job 0).counters.jammed = 1 ∧ (t.job 0).counters.voided = 1 := by decide +kernel

/-- R161: a protected row is reported as zeros, valid. -/
theorem test_read_row_protected : results (after (.readRow 0 1) State.reset) = [.raw (List.replicate 64 0), .u8 0] := by
  decide +kernel

/-- R161: a row number of 360 is answered NO-ENTRY, and row 359 is blank in a fresh part. -/
theorem test_read_row_ends : replyCode (after (.readRow 0 360) State.reset) = some .noEntry ∧
    results (after (.readRow 0 359) State.reset) = [.raw erasedRow, .u8 1] := by decide +kernel

/-- R122, section 4.3 of the scope: a release count of 0 is stored as 1, one of 300 as the limit 255. -/
theorem test_release_count_range :
    ((after (.loadEgressClass 0 1 0 0 0) desk).sp.egress[1] = ⟨.clear, 1, 1⟩) ∧
      (after (.loadEgressClass 0 1 0 7 300) desk).sp.egress[1] = ⟨.clear, 7, 255⟩ := by decide +kernel

/-- R164: a trim of −2,000 is stored as −1,023. -/
theorem test_set_trim_clamps : (after (.setTrim 0 (BitVec.ofInt 16 (-2000))) State.reset).tb.trim = -1023 := by
  decide +kernel

/-- Section 10.6: step 1,026 at a trim of +1,023 yields two ticks and leaves 1,022. -/
theorem test_trim_step_1026 :
    let s := { State.reset with tb := { State.reset.tb with trim := 1023, accumulator := 1048575 } }
    let t := after (.referenceStep (Vector.replicate 4 false)) s
    t.tb.subSecond = 2 ∧ t.tb.accumulator = 1022 := by decide +kernel

/-- R125, R126: the opening band of an announced page reserves the SCAN price and its frame enters the buffer in clear. -/
theorem test_scan_band :
    let s := after (.scannerPageBegin 1) scanning
    let t := after (.scannerBand ⟨1, 0, true, 0, 1, 2, [1, 2]⟩) s
    t.sp.buffer.map (fun f => (f.tag.page, f.payload, f.check)) = [(1, [1, 2], none)] ∧ (t.account 0).reserved = 9 := by
  decide +kernel

/-- R127: PAGE END of a whole page with nothing buffered completes it: the SCAN counter rises. -/
theorem test_scan_page_end :
    let t := after .scannerPageEnd scanOpen
    (t.account 0).charged = 9 ∧ (t.account 0).counters[6] = 1 ∧ t.sp.page = none ∧ (t.job 0).counters.exited = 1 := by
  decide +kernel

/-- R100: a debounced rise clears the slot, keeps the unmetered deposit and sets CARTRIDGE CHANGE. -/
theorem test_rise_clears :
    let t := after (.debouncedRise 1) (desk.setSlot 1 { Cartridge.initial with residue := 7, unmetered := 9 })
    (t.slot 1).state = .sensed ∧ (t.slot 1).residue = 0 ∧ (t.slot 1).unmetered = 9 ∧ (t.slot 1).insertions = 1 ∧
      t.status.has .cartridgeChange = true := by decide +kernel

/-- R106: a check that reads a ration above the rated yield trusts the rated yield. -/
theorem test_check_limits_ration :
    let t := after (.readRationAnswer 0 5000 3)
      (onLine { toner with state := .checking, rationKnown := false } (some ⟨.readRation, .check, 0⟩))
    (t.slot 0).state = .genuine ∧ (t.slot 0).mirror = 1000 ∧ (t.slot 0).writeCount = 3 := by decide +kernel

/-- R110: a deposit above the mirror makes the slot SPENT and goes to the overdraw. -/
theorem test_booking_spends :
    let t := bookDeposit (onLine toner none) 0 130 (some 77)
    (t.slot 0).state = .spent ∧ (t.slot 0).mirror = 0 ∧ (t.slot 0).overdraw = 30 := by decide +kernel

/-- R153: a request for a waiting row merges, and a full queue takes no new row but that of the row being written. -/
theorem test_queue_full : (request storeBusy (.commit (accountRow 3) 0)).1.ms.queue.length = 16 ∧
    (request storeBusy (.commit (accountRow 3) 0)).2 = true ∧ (request storeBusy (.commit (accountRow 20) 0)).2 = false ∧
    (request storeBusy (.commit (accountRow 255) 0)).1.ms.queue.length = 17 := by
  decide +kernel

/-- R145, R153: the erase of a slot whose commit is in flight is queued behind the commit, the queue full or not. -/
theorem test_erase_behind_write :
    let s := { (desk.setKey 3 { retained with persisted := true }) with ms := { storeBusy.ms with
      op := some ⟨.commit (keyRow 3) 2, false, keyRow 3, 1, 0⟩ } }
    let t := enterErasing s 3 .expired
    (t.key 3).state = .erasing ∧ (t.key 3).rowRequest = .none ∧
      t.ms.queue.getLast? = some ⟨.erase (keyRow 3) 2, false⟩ := by decide +kernel

/-- R183: a command frame of one byte of payload is MALFORMED with tag 0. -/
theorem test_short_command :
    (match (after (.commandFrameReceived (frameOf [1, 5])) desk).cu.state with
      | .replying r => decide (r.kind = 5 ∧ r.tag = 0 ∧ r.code = .malformed)
      | _ => false) = true := by decide +kernel

/-- R183: a frame of the controller link whose kind byte names no frame is a link error. -/
theorem test_unknown_kind :
    let t := after (.commandFrameReceived (frameOf [9])) desk
    t.li.errors = 1 ∧ t.status.has .linkFrameError = true := by decide +kernel

/-- R37, R147: SANITIZE KEYS leaves a RELEASE job with a page in the tracker DRAINING, cancelled, its slot without keys and
releases, and a slot that no job names ERASING or, where its row was never written, FREE. -/
theorem test_sanitize_keys :
    let s := ((pageOpen.setJob 0 { printJob with kind := .release, lastPage := some 1, key := some ⟨0, 2⟩ }).setKey 0
      { retained with naming := some 0, releases := 3 }).setKey 1 { retained with persisted := true }
    let t := after (.sanitize 0 0) (s.setKey 2 retained)
    ((t.job 0).state, (t.job 0).cancel, (t.job 0).reason) = (.draining, true, some .sanitize) ∧
      ((t.key 0).state, (t.key 0).cipherKey, (t.key 0).releases) = (.retained, 0, 0) ∧ (t.key 1).state = .erasing ∧
      (t.key 2).state = .free := by decide +kernel

/-- R103: the 41st tick of the 1,024/s tap ends the exchange and the slot is MUTE; the 40th does not. -/
theorem test_tick_41 :
    let e (n : Nat) : Exchange := ⟨.readRation, .check, n⟩
    let t (n : Nat) := tick (Vector.replicate 4 false) (onLine { toner with state := .checking } (some (e n)))
    ((t 40).slot 0).state = .mute ∧ ((t 40).slot 0).exchange = none ∧ ((t 39).slot 0).exchange = some (e 40) := by
  decide +kernel

/-- At a tick of the 32/s tap. -/
def at32 (s : State) : State := { s with tb := { s.tb with subSecond := 31 } }

/-- R19: a 32/s tick raises the stall count, and at the limit it voids the page. -/
theorem test_stall :
    let t (n : Nat) := tick (Vector.replicate 4 false) (at32 (pageOpen.setJob 0 { printJob with lastPage := some 1, stallCount := some n }))
    ((t 14).job 0).stallCount = some 15 ∧ (t 14).pp.openPage = some page1 ∧ (t 15).pp.openPage = none ∧
      ((t 15).job 0).counters.voided = 1 := by decide +kernel

/-- R100, R106: the full check begins at the 32/s tick after a slot is SENSED. -/
theorem test_check_starts :
    let s := desk.setSlot 0 { toner with state := .sensed }
    let line : Vector Bool 4 := #v[true, false, false, false]
    ((tick line (at32 s)).slot 0).state = .checking ∧ ((tick line s).slot 0).state = .sensed := by decide +kernel

/-- R155: a second mismatch drops the operation and sets STORE FAULT; the account is dirty again. -/
theorem test_dropped_commit :
    let t := after (.storeWriteComplete (some (List.replicate 64 0)))
      (storeFlies ⟨.commit (accountRow 0) 0, false, accountRow 0, 2, 0⟩)
    t.ms.op = none ∧ t.status.has .storeFault = true ∧ (t.account 0).dirty = true := by decide +kernel

/-- R138: a scan to a CIPHER class draws keys into the lowest FREE slot at a new generation. -/
theorem test_open_scan_cipher :
    let t := after (.openJob 0 ⟨2, 0, 0, 0, 0, 0, 0, 0⟩) desk
    (t.key 0).state = .active ∧ (t.key 0).generation = 1 ∧ (t.key 0).owner = 5 ∧
      results t = [.u8 0, .u8 0, .u16 1] := by decide +kernel

/-- R179: a path reset frees the job and releases the page's reservation. -/
theorem test_path_reset :
    let t := after (.resetPath 0) pageOpen
    t.job 0 = Job.initial ∧ (t.account 0).reserved = 0 ∧ t.st.entries = [] ∧ t.st.pathClear = false := by decide +kernel

/-- R183: no word of the opcode table spells a command. -/
theorem test_no_table_word : decodeTableWord 8 1 = none ∧ State.reset.withFetchWord 8 1 = State.reset := by decide +kernel

/-- A step takes the front command and leaves the rest. -/
theorem test_step_front :
    (match step { State.reset with pending := [.setTime 0 9, .readTime 0] } with
      | .next t => decide (t.tb.seconds = 9 ∧ t.pending = [.readTime 0])
      | _ => false) = true := by decide +kernel

/-! ### States that meet the hypotheses of the statements

Each theorem below names the statement and the clause whose hypotheses its state meets. -/

/-- Every command statement: a part right after reset carries a command out at once. -/
theorem test_witness_ready : Ready State.reset ∧ Ready desk ∧ Ready printing ∧ Ready pageOpen ∧ Ready scanOpen := by
  decide +kernel

/-- StepTakesFront: a queue with a front, and an empty one. -/
theorem test_witness_front :
    ({ desk with pending := [.readTime 0] } : State).pending = .readTime 0 :: [] ∧ desk.pending = [] := by decide +kernel

/-- CommandFramesTaken: kinds and lengths that form no command. -/
theorem test_witness_malformed :
    Ready desk ∧ decodeCommand 0 [] = none ∧ decodeCommand 45 [] = none ∧ decodeCommand 255 [] = none ∧
      decodeCommand 1 [0] = none := by decide +kernel

/-- A command is being answered and its reply is on the link. -/
def replying (kind : Byte) (code : ReplyCode) : State :=
  let r : Reply := ⟨kind, 0, code, []⟩
  { desk with cu := { desk.cu with state := .replying r }, li := { desk.li with sending := some (.reply r) } }

/-- CommandFramesTaken: a unit that is not IDLE with room in the queue; a reply on the link, of RESET PATH and of another
command; a frame that forms no command at the head of the queue. -/
theorem test_witness_commands_queue :
    (replying 42 .ok).cu.state ≠ .idle ∧ linkOpen (replying 42 .ok) = true ∧
      (replying 22 .ok).li.sending = some (.reply ⟨22, 0, .ok, []⟩) ∧
      (replying 42 .ok).li.sending = some (.reply ⟨42, 0, .ok, []⟩) ∧
      (let s := { desk with li := { desk.li with commandQueue := [⟨45, 7, none⟩] } }
       s.li.commandQueue = ⟨45, 7, none⟩ :: [] ∧ s.cu.state = .idle) := by decide +kernel

/-- DamagedFramesDiscarded: a frame of each link that is no good frame; the shortest frame, one byte too few. -/
theorem test_witness_damaged :
    linkOpen desk = true ∧ checkFrame [0, 0, 0, 0] = none ∧ checkFrame [1, 2, 0, 0, 0, 0] = none ∧
      decodeReport [] = none ∧ decodeScanner [] = none ∧ decodeTagAnswer [] = none := by decide +kernel

/-- The body of the band frame of `band0`. -/
def bandBody : List Byte := [0x02, 0, 0, 1, 0, 1, 0, 0, 1, 0, 2, 200, 0]

/-- DamagedFramesDiscarded: good CRCs over an unknown kind, a band frame one byte short of its header, and
band frames that fail R2: handle 16, plane 4, no lines, a payload one byte too long. -/
theorem test_witness_unknown_frames :
    checkFrame (frameOf [9]) = some [9] ∧
      checkFrame (frameOf (0x02 :: List.replicate 9 0)) = some (0x02 :: List.replicate 9 0) ∧
      checkFrame (frameOf (bandBody.set 1 16)) = some (bandBody.set 1 16) ∧ ¬(16 : Byte).toNat < 16 ∧
      checkFrame (frameOf (bandBody.set 4 4)) = some (bandBody.set 4 4) ∧ ¬(4 : Byte).toNat < 4 ∧
      checkFrame (frameOf (bandBody.set 8 0)) = some (bandBody.set 8 0) ∧ ¬1 ≤ (0 : Byte).toNat ∧
      checkFrame (frameOf (bandBody ++ [0])) = some (bandBody ++ [0]) ∧ (bandBody.drop 11 ++ [0]).length ≠ 2 * 1 + 0 := by
  decide +kernel

/-- ConditionsRaiseNotices: a kind not enabled; an enabled one with 31 and with 32 notices waiting. -/
theorem test_witness_notices :
    let full (n : Nat) : State := { desk with status := { desk.status with
      mask := BitVec.allOnes 12, notices := List.replicate n ⟨.jobHeld, 0, 0, []⟩ } }
    desk.status.enabled .jobHeld = false ∧ (full 31).status.enabled .jobHeld = true ∧
      (full 31).status.notices.length < 32 ∧ 32 ≤ (full 32).status.notices.length := by decide +kernel

/-- OpenJobRefusals: a value that names nothing, at the first such kind, mode and size class. -/
theorem test_witness_open_malformed :
    ¬NamesValues ⟨3, 0, 0, 0, 0, 0, 0, 0⟩ ∧ ¬NamesValues ⟨0, 0, 2, 0, 0, 0, 0, 0⟩ ∧ ¬NamesValues ⟨0, 0, 0, 2, 0, 0, 0, 0⟩ := by
  decide +kernel

/-- OpenJobRefusals: an ABSENT account, the second condition of R26. -/
theorem test_witness_open_refused :
    NamesValues ⟨0, 9, 0, 0, 0, 0, 0, 0⟩ ∧ FirstHolds (openTable desk ⟨0, 9, 0, 0, 0, 0, 0, 0⟩) .noEntry :=
  ⟨by decide +kernel, .inr ⟨by decide +kernel, .inl ⟨by decide +kernel, rfl⟩⟩⟩

/-- OpenJobRefusals: no context is FREE, the first condition. -/
theorem test_witness_open_full :
    FirstHolds (openTable { desk with jt := Vector.replicate 16 printJob } ⟨0, 0, 0, 0, 0, 0, 0, 0⟩) .full :=
  .inl ⟨by decide +kernel, rfl⟩

/-- OpenJobRefusals: the last condition, a CIPHER scan with no FREE slot. -/
theorem test_witness_open_no_slot :
    FirstHolds (openTable { desk with kt := Vector.replicate 64 retained } ⟨2, 0, 0, 0, 0, 0, 0, 0⟩) .full := by
  simp only [openTable, FirstHolds]
  exact .inr ⟨by decide +kernel, .inr ⟨by decide +kernel, .inr ⟨by decide +kernel, .inr ⟨by decide +kernel,
    .inr ⟨by decide +kernel, .inr ⟨by decide +kernel, .inr ⟨by decide +kernel, .inr ⟨by decide +kernel,
    .inr ⟨by decide +kernel, .inr ⟨by decide +kernel, .inl ⟨by decide +kernel, trivial⟩⟩⟩⟩⟩⟩⟩⟩⟩⟩⟩

/-- OpenJobAccepted: a PRINT job; no context is below the first. -/
theorem test_witness_open_print :
    NamesValues ⟨0, 0, 0, 0, 0, 0, 0, 0⟩ ∧ (∀ row ∈ openTable desk ⟨0, 0, 0, 0, 0, 0, 0, 0⟩, ¬row.1) ∧
      (desk.job 0).state = .free ∧ ∀ g < (0 : Fin 16), (desk.job g).state ≠ .free := by
  refine ⟨by decide +kernel, ?_, by decide +kernel, by decide +kernel⟩
  intro row hr
  simp only [openTable, List.mem_cons, List.not_mem_nil, or_false] at hr
  rcases hr with rfl | rfl | rfl | rfl | rfl | rfl | rfl | rfl | rfl | rfl | rfl <;> dsimp only <;> decide +kernel

/-- OpenJobAccepted: a SCAN job to a CIPHER class, slot 0 the lowest FREE one, and one to a CLEAR class. -/
theorem test_witness_open_scan :
    (∀ row ∈ openTable desk ⟨2, 0, 0, 0, 0, 0, 0, 0⟩, ¬row.1) ∧ (∀ row ∈ openTable desk ⟨2, 0, 0, 0, 0, 0, 0, 1⟩, ¬row.1) ∧
      desk.sp.egress[0].mode = .cipher ∧ desk.sp.egress[1].mode = .clear ∧ (desk.key 0).state = .free ∧
      ∀ g < (0 : Fin 64), (desk.key g).state ≠ .free := by
  refine ⟨?_, ?_, by decide +kernel, by decide +kernel, by decide +kernel, by decide +kernel⟩ <;>
  · intro row hr
    simp only [openTable, List.mem_cons, List.not_mem_nil, or_false] at hr
    rcases hr with rfl | rfl | rfl | rfl | rfl | rfl | rfl | rfl | rfl | rfl | rfl <;> dsimp only <;> decide +kernel

/-- OpenJobAccepted: a RELEASE job of the last slot, with contexts below the one it takes; a band of that handle waits. -/
theorem test_witness_open_release :
    let s := bandDue ((desk.setKey 63 retained).setJob 0 printJob) { band0 with job := 1 }
    (∀ row ∈ openTable s ⟨1, 0, 0, 0, 0, 63, 2, 0⟩, ¬row.1) ∧ (s.job 1).state = .free ∧
      (∀ g < (1 : Fin 16), (s.job g).state ≠ .free) ∧ s.li.bandPosition = some ⟨{ band0 with job := 1 }, .due⟩ := by
  refine ⟨?_, by decide +kernel, by decide +kernel, by decide +kernel⟩
  intro row hr
  simp only [openTable, List.mem_cons, List.not_mem_nil, or_false] at hr
  rcases hr with rfl | rfl | rfl | rfl | rfl | rfl | rfl | rfl | rfl | rfl | rfl <;> dsimp only <;> decide +kernel

/-- ResumeJobResumes, CloseAndCancelDrain: the last handle, the first number above it, and a HELD SCAN job. -/
theorem test_witness_handles :
    16 ≤ (16 : Byte).toNat ∧ (15 : Fin 16).val = (15 : Byte).toNat ∧
      (let s := desk.setJob 15 { scanJob with state := .held, reason := some .quota }
       Ready s ∧ (s.job 15).state = .held ∧ (s.job 15).kind = .scan) := by decide +kernel

/-- A DRAINING job that names slot 0. -/
def draining (kind : JobKind) (cancel : Bool) (x : KeySlot) : State :=
  (desk.setJob 0 { scanJob with state := .draining, kind := kind, cancel := cancel, key := some ⟨0, 2⟩ }).setKey 0
    { x with naming := some 0 }

/-- CloseAndCancelDrain: a buffer whose head the link is sending, and one it is not. -/
theorem test_witness_discard :
    (∀ f, scanning.li.sending ≠ some (.scan f true)) ∧
      (let s := { scanning with
          li := { scanning.li with sending := some (.scan scanFrame1 true) }
          sp := { scanning.sp with buffer := [scanFrame1, { scanFrame1 with index := 1 }] } }
       s.li.sending = some (.scan scanFrame1 true) ∧ s.sp.buffer = scanFrame1 :: [{ scanFrame1 with index := 1 }]) :=
  ⟨fun f h => by simp [scanning, desk, State.setJob, State.setAccount, State.reset] at h, by decide +kernel⟩

/-- The drain condition of DrainCompletes. -/
abbrev Done (s : State) (h : Fin 16) : Prop :=
  (s.job h).state = .draining ∧ (∀ e ∈ s.st.entries, e.tag.job ≠ h) ∧ (∀ p ∈ s.sp.page, p.tag.job ≠ h) ∧
    ∀ f ∈ s.sp.buffer, f.tag.job ≠ h

/-- DrainCompletes: no drain; a drain of a job that names no slot; a cancelled and a closed SCAN job; a RELEASE job. -/
theorem test_witness_drains :
    ¬Done desk 0 ∧
      (let s := desk.setJob 0 { printJob with state := .draining }
       Done s 0 ∧ ∀ r ∈ (s.job 0).key, (s.key r.slot).naming ≠ some 0) ∧
      (let s := draining .scan true { retained with state := .active }
       Done s 0 ∧ (s.job 0).key = some ⟨0, 2⟩ ∧ (s.key 0).naming = some 0 ∧ (s.job 0).cancel = true) ∧
      (let s := draining .scan false { retained with state := .active }
       Done s 0 ∧ (s.job 0).dest = some 1 ∧ (s.job 0).cancel = false) ∧
      (let s := draining .release false retained
       Done s 0 ∧ (s.job 0).kind = .release ∧ (s.key 0).naming = some 0) := by decide +kernel

/-- HoldSteps: each of the four states; a SCAN job that is ACTIVE; a scan page of the job in progress, and none. -/
theorem test_witness_holds :
    ((scanning.job 0).kind = .scan ∧ (scanning.job 0).state = .active ∧ (∃ p ∈ scanOpen.sp.page, p.tag.job = 0) ∧
      ¬∃ p ∈ pageOpen.sp.page, p.tag.job = 0) ∧
    (desk.job 0).state = .free ∧ ((desk.setJob 0 { printJob with state := .draining }).job 0).state = .draining ∧
      (pageOpen.job 0).state = .active ∧ ((desk.setJob 0 { printJob with state := .held }).job 0).state = .held := by
  decide +kernel

/-- KeySlotsErased, RequestsMeetTheQueue: a queue with room, a queue of 16 that takes no new row, one that merges, one that
takes the row being written. -/
theorem test_witness_queue :
    enqueue desk.ms.writing desk.ms.queue ⟨.commit (keyRow 0) 2, false⟩ = some [⟨.commit (keyRow 0) 2, false⟩] ∧
      enqueue storeBusy.ms.writing storeBusy.ms.queue ⟨.erase (keyRow 63) 2, false⟩ = none ∧
      (∃ op ∈ storeBusy.ms.op, op.request.row? = some (accountRow 255)) ∧
      (¬∃ op ∈ storeBusy.ms.op, op.request.row? = some (accountRow 16)) ∧
      (∀ e ∈ storeBusy.ms.queue, (e.request.row? == some (accountRow 255)) = false) ∧ 16 ≤ storeBusy.ms.queue.length ∧
      (storeBusy.ms.queue.take 15).length < 16 ∧
      (∃ e ∈ storeBusy.ms.queue, (e.request.row? == some (accountRow 15)) = true) ∧
      (∀ e ∈ storeBusy.ms.queue, (e.request.row? == some (accountRow 16)) = false) ∧
      (StoreRequest.commit (accountRow 15) 0).row? = some (accountRow 15) := by decide +kernel

/-- KeySlotsErased: the last slot and the first number above it. -/
theorem test_witness_slots : 64 ≤ (64 : Byte).toNat ∧ (63 : Fin 64).val = (63 : Byte).toNat ∧ RowRequest.commit ≠ .none := by
  decide

/-- RequestsMeetTheQueue: a full queue with a held request that does not fit; a queue of 15 whose first held request
fits; no request held. -/
theorem test_witness_held :
    let held : List StoreEntry := [⟨.commit (accountRow 20) 0, true⟩]
    (desk.ms.held = [] ∧ enqueue none storeBusy.ms.queue ⟨.commit (accountRow 20) 0, true⟩ = none) ∧
    storeBusy.ms.queue.length ≤ 16 ∧ (admitHeld none storeBusy.ms.queue held).2 = ⟨.commit (accountRow 20) 0, true⟩ :: [] ∧
      enqueue none (storeBusy.ms.queue.take 15) ⟨.commit (accountRow 20) 0, true⟩ ≠ none ∧
      (admitHeld (some (accountRow 20)) storeBusy.ms.queue held).1.length = 17 := by decide +kernel

/-- StoreOperationStarts: an operation in flight, an empty queue, a high warning; an entry of each kind at the head. -/
theorem test_witness_starts :
    storeBusy.ms.op ≠ none ∧ desk.ms.queue = [] ∧ { desk.ms with warning := true }.warning = true ∧
      ∀ q ∈ ([.commit (accountRow 255) 0, .commit (historyRow 15) 0, .commit (settingsRow 0) 0, .commit (settingsRow 5) 0,
          .commit (egressRow 15) 0, .commit (keyRow 63) 2, .erase (keyRow 0) 1, .region .all] : List StoreRequest),
        (storeWaits q).ms.queue = ⟨q, false⟩ :: [] ∧ (storeWaits q).ms.op = none ∧ (storeWaits q).ms.warning = false := by
  decide +kernel

/-- RowWriteCompletes: none in flight; a match; a mismatch at attempt 1 and at attempt 2. -/
theorem test_witness_writes :
    let op (n : Nat) : StoreOp := ⟨.commit (accountRow 0) 0, false, accountRow 0, n, 0⟩
    desk.ms.op = none ∧ (storeFlies (op 1)).ms.op = some (op 1) ∧ (storeFlies (op 2)).ms.op = some (op 2) ∧
      (none : Option (List Byte)).getD (storeFlies (op 1)).ms.latches = (storeFlies (op 1)).ms.latches ∧
      (some (List.replicate 64 0)).getD (storeFlies (op 1)).ms.latches ≠ (storeFlies (op 1)).ms.latches := by decide +kernel

/-- RowWriteCompletes: an operation on one row is no region erase. -/
theorem test_witness_row_operation : ∀ g, StoreRequest.commit (accountRow 0) 0 ≠ .region g := by
  intro g h
  cases h

/-- OwnersAreTold: a slot RETAINED and one ERASING at the generation of the request, and a slot at another. -/
theorem test_witness_owners :
    let s := (desk.setKey 0 retained).setKey 63 { retained with state := .erasing, persisted := true, cause := some .expired }
    ((s.key 0).state = .retained ∧ (s.key 0).generation = 2) ∧ ((s.key 63).state = .erasing ∧ (s.key 63).generation = 2) ∧
      ¬(((s.key 0).state = .retained ∨ (s.key 0).state = .erasing) ∧ (s.key 0).generation = 3) := by decide +kernel

/-- RegionErases: a mismatch at attempt 1; a row that is not the last; the last row. -/
theorem test_witness_region :
    let op (r : Row) : StoreOp := ⟨.region .keys, false, r, 1, 0⟩
    (storeFlies (op 280)).ms.op = some (op 280) ∧ (op 280).request = .region .keys ∧
      (some (List.replicate 64 0)).getD (storeFlies (op 280)).ms.latches ≠ (storeFlies (op 280)).ms.latches ∧
      (op 342).row.val < Region.keys.last.val ∧ (343 : Row).val = (op 342).row.val + 1 ∧
      Region.keys.last.val ≤ (op 343).row.val ∧ (op 280).attempt = 1 ∧ ({ op 280 with attempt := 2 } : StoreOp).attempt = 2 := by
  decide +kernel

/-- StoreCommandsRequest: a long command that counts its last operation, and one that counts two. -/
theorem test_witness_counts :
    let s (n : Nat) : State := { desk with cu := { desk.cu with state := .working 33 7 (.rows n 2 1) } }
    (s 1).cu.state = .working 33 7 (.rows 1 2 1) ∧ (s 2).cu.state = .working 33 7 (.rows 2 2 1) ∧ 0 < 1 ∧ 0 < 2 := by
  decide +kernel

/-- SanitizeScopes: the first scope that names none; a part with a job and one with none; a slot with keys; a job that
KEYS cancels. -/
theorem test_witness_sanitize :
    3 ≤ (3 : Byte).toNat ∧ (∃ h, (printing.job h).state ≠ .free) ∧ (¬∃ h, (desk.job h).state ≠ .free) ∧
      ((desk.setKey 0 retained).key 0).state = .retained ∧ (printing.job 0).kind = .print ∧
      ((draining .scan true { retained with state := .active }).key 0).state = .active ∧
      (scanning.job 0).kind ≠ .print ∧ (scanning.job 0).state ≠ .free := by decide +kernel

/-- RowsReadBack: an array in canonical form, an image of 64 bytes, two rows. -/
theorem test_witness_rows :
    Memory.wf [(128, 0#8), (129, 1#8)] = true ∧ erasedRow.length = 64 ∧ (1 : Row) ≠ 2 := by decide +kernel

/-- ChecksBegin: the last slot and the first number above it. -/
theorem test_witness_tag_slots : 4 ≤ (4 : Byte).toNat ∧ (3 : Fin 4).val = (3 : Byte).toNat := by decide

/-- IdentifyAndChallengeAnswered: an IDENTIFY in progress, the right colorant and a wrong one; no IDENTIFY in progress. -/
theorem test_witness_identify :
    let s := onLine { toner with state := .checking } (some ⟨.identify, .check, 0⟩)
    (s.slot 0).exchange = some ⟨.identify, .check, 0⟩ ∧ (0 : Byte).toNat = (0 : Fin 4).val ∧
      (1 : Byte).toNat ≠ (0 : Fin 4).val ∧ (∀ e ∈ ((onLine toner none).slot 0).exchange, e.request ≠ .identify) := by
  decide +kernel

/-- IdentifyAndChallengeAnswered: a CHALLENGE in progress with a response that is good; without a master secret none is. -/
theorem test_witness_challenge :
    let s := onLine { toner with state := .checking } (some ⟨.challenge 5, .check, 0⟩)
    let bare := { s with tu := { s.tu with masterSecret := none } }
    (s.slot 0).exchange = some ⟨.challenge 5, .check, 0⟩ ∧
      (∃ m, s.tu.masterSecret = some m ∧ Config.tagHash (Config.tagKey m ((s.slot 0).serial.getD 0)) 5 ((s.slot 0).serial.getD 0) =
        Config.tagHash (Config.tagKey m ((s.slot 0).serial.getD 0)) 5 ((s.slot 0).serial.getD 0)) ∧
      ¬∃ m, bare.tu.masterSecret = some m :=
  ⟨by decide +kernel, ⟨_, rfl, rfl⟩, fun ⟨_, h⟩ => by cases h⟩

/-- IdentifyAndChallengeAnswered: an exchange that is no CHALLENGE. -/
theorem test_witness_no_challenge :
    ∀ e ∈ ((onLine toner none).slot 0).exchange, ∀ n, e.request ≠ .challenge n := by
  intro e h
  have : ((onLine toner none).slot 0).exchange = none := by decide +kernel
  rw [this] at h
  cases h

/-- A low mark of half the rated yield. -/
def lowHalf (s : State) : State := { s with tu := { s.tu with lowMark := 500 } }

/-- CheckEnds: a check that ends with a ration of 100, below the low mark and not; one that ends with none. -/
theorem test_witness_check_low :
    let s := onLine { toner with state := .checking, rationKnown := false } (some ⟨.readRation, .check, 0⟩)
    let x := s.slot 0
    x.rationKnown = false ∧ 0 < min 100 x.ratedYield ∧ 100 * 1000 < (lowHalf s).tu.lowMark * x.ratedYield ∧
      x.lowReported = false ∧ ¬100 * 1000 < s.tu.lowMark * x.ratedYield ∧ min 0 x.ratedYield = 0 := by decide +kernel

/-- CheckEnds: a check that ends with a ration, with none, and with a kept mirror a step below. -/
theorem test_witness_check_ends :
    let e : Exchange := ⟨.readRation, .check, 0⟩
    let s := onLine { toner with state := .checking } (some e)
    (s.slot 0).exchange = some e ∧ e.request = .readRation ∧ e.sequence = .check ∧
      (let u := { s with tu := { s.tu with step := 10 } }
       u.tu.step ≤ min 500 (u.slot 0).ratedYield - min (u.slot 0).mirror 500) := by decide +kernel

/-- RecheckAndWriteAnswered: a recheck's READ RATION below, at and above the mirror, and an answer to WRITE RATION. -/
theorem test_witness_recheck_ends :
    let e : Exchange := ⟨.readRation, .recheck, 0⟩
    let w : Exchange := ⟨.writeRation 90, .writeBack, 0⟩
    ((onLine toner (some e)).slot 0).exchange = some e ∧ e.sequence ≠ .check ∧
      ((onLine toner (some e)).slot 0).state = .genuine ∧ ((onLine toner (some w)).slot 0).exchange = some w ∧
      w.request = .writeRation 90 ∧ min 99 toner.ratedYield < toner.mirror ∧ min 100 toner.ratedYield = toner.mirror ∧
      toner.mirror < min 101 toner.ratedYield := by decide +kernel

/-- RecheckAndWriteAnswered: a ration of 0 under a mirror that is not, and a ration that falls below the low mark. -/
theorem test_witness_recheck_spends :
    let s := lowHalf (onLine toner (some ⟨.readRation, .recheck, 0⟩))
    let x := s.slot 0
    (x.state = .genuine ∧ min 0 x.ratedYield = 0 ∧ 0 < x.mirror) ∧
      (min 99 x.ratedYield < x.mirror ∧ 99 * 1000 < s.tu.lowMark * x.ratedYield ∧ x.lowReported = false) := by
  decide +kernel

/-- R112, R116: a recheck that finds the ration gone makes the slot SPENT with a history row, then raises RATION LOW. -/
theorem test_recheck_spends :
    let t := after (.readRationAnswer 0 0 1) (lowHalf (onLine toner (some ⟨.readRation, .recheck, 0⟩)))
    (t.slot 0).state = .spent ∧ t.status.has .rationLow = true ∧ t.status.has .cartridgeState = true ∧
      t.tu.ring[0] = some ⟨.spent, 0, 77, 0, 0, 0, 0, 0⟩ ∧ t.tu.ringNext = 1 ∧
      t.ms.op.map (fun o => o.request) = some (.commit (historyRow 0) 0) := by decide +kernel

/-- R111: a booking that passes the write-back test behind another exchange sets write pending; one taken while a write is
in flight sets nothing. -/
theorem test_write_waits :
    let t (q : TagRequest) :=
      let s := onLine toner (some ⟨q, .recheck, 0⟩)
      (bookDeposit { s with tu := { s.tu with step := 10 } } 0 20 (some 77)).slot 0
    (t .readRation).writePending = true ∧ (t (.writeRation 90)).writePending = false := by decide +kernel

/-- DepositBooked: another exchange and a write in flight on the line; a mirror that the deposit takes to 0; one that falls
below the low mark. -/
theorem test_witness_booked_line :
    let x (q : TagRequest) := (onLine toner (some ⟨q, .recheck, 0⟩)).slot 0
    (x .readRation).exchange = some ⟨.readRation, .recheck, 0⟩ ∧
      (x (.writeRation 90)).exchange = some ⟨.writeRation 90, .recheck, 0⟩ ∧
      ((x .readRation).state = .genuine ∧ 0 < (x .readRation).mirror ∧ (x .readRation).mirror ≤ 100) ∧
      (100 - 50) * 1000 < (lowHalf desk).tu.lowMark * (x .readRation).ratedYield := by decide +kernel

/-- DepositBooked: a request that is no WRITE RATION. -/
theorem test_witness_no_write : ∀ v, TagRequest.readRation ≠ .writeRation v := by
  intro v h
  cases h

/-- DepositBooked: the serial the slot holds and another; a step that the booking reaches. -/
theorem test_witness_booked :
    let x := (onLine toner none).slot 0
    (some 77#64 ≠ none ∧ x.serial = some 77 ∧ x.state = .genuine) ∧ x.serial ≠ some 78 ∧ x.exchange = none ∧
      10 ≤ x.confirmed - (x.mirror - 10) ∧ 0 < x.mirror := by decide +kernel

/-- A band whose cause of waiting has ended is examined. -/
theorem examines_due (s : State) (b : Band) : Examines .bandReexamined (bandDue s b) b := .inr ⟨.due, rfl, rfl, rfl⟩

/-- BandsTurnedAway, PagesAdmitted, BandsOfThePage: a good band frame that arrives. -/
theorem test_witness_band_frame : Examines (.bandFrameReceived (frameOf bandBody)) printing band0 :=
  .inl ⟨_, bandBody.drop 1, rfl, by decide +kernel, by decide +kernel, by decide +kernel⟩

/-- A PRINT job at handle 1 beside the one at handle 0. -/
def twoJobs (s : State) : State := s.setJob 1 { printJob with lastPage := some 3 }

/-- BandsTurnedAway: a HELD job, a SCAN job, and plane C of a MONO job; its marker set and not set. -/
theorem test_witness_bands_refused :
    ((bandDue (desk.setJob 0 { printJob with state := .held }) band0).job 0).state ≠ .active ∧
      ((bandDue scanning band0).job 0).kind = .scan ∧
      (let s := bandDue printing { band0 with plane := 1 }
       (s.job 0).state = .active ∧ (s.job 0).kind ≠ .scan ∧ (s.job 0).mode = .mono ∧ (1 : Fin 4) ≠ 0 ∧ s.marker 0 ≠ some 1) ∧
      ((bandDue printing band0).setMarker 0 (some 1)).marker 0 = some 1 := by decide +kernel

/-- BandsTurnedAway: below the open page of its job; of another job, with a used page and with a new one. -/
theorem test_witness_bands_stale :
    pageOpen.pp.openPage = some page1 ∧ page1.tag.job = 0 ∧ 0 < page1.tag.page ∧
      (let s := twoJobs pageOpen
       s.pp.openPage = some page1 ∧ page1.tag.job ≠ 1 ∧ (s.job 1).state = .active ∧ (s.job 1).lastPage = some 3 ∧ 3 ≤ 3 ∧
         ¬4 ≤ 3) := by decide +kernel

/-- The tracker holds `n` entries. -/
def tracked (n : Nat) (s : State) : State := { s with st := { s.st with entries := List.replicate n entry1 } }

/-- BandsTurnedAway: no page is open; a used page, an index that is not 0, no engine, and a tracker of 24. -/
theorem test_witness_bands_wait :
    let off : State := { printing with pp := { printing.pp with engineReady := false } }
    printing.pp.openPage = none ∧ (desk.setJob 0 { printJob with lastPage := some 1 }).pp.openPage = none ∧
      (printing.job 0).lastPage = none ∧ ({ band0 with index := 1 } : Band).index ≠ 0 ∧ off.pp.engineReady = false ∧
      24 ≤ (tracked 24 printing).st.entries.length ∧ (tracked 23 printing).st.entries.length < 24 := by decide +kernel

/-- BandsTurnedAway: a band that waits and whose cause has not ended, for each of the three causes. -/
theorem test_witness_still_waits :
    let w (r : WaitReason) (s : State) : State := { s with li := { s.li with bandPosition := some ⟨band0, r⟩ } }
    (w .interleave pageOpen).li.bandPosition = some ⟨band0, .interleave⟩ ∧ (w .interleave pageOpen).pp.openPage ≠ none ∧
      (w .engine State.reset).li.bandPosition = some ⟨band0, .engine⟩ ∧ (w .engine State.reset).pp.engineReady = false ∧
      (w .tracker (tracked 24 desk)).li.bandPosition = some ⟨band0, .tracker⟩ ∧
      24 ≤ (w .tracker (tracked 24 desk)).st.entries.length := by decide +kernel

/-- PagesAdmitted: a band of a higher page of the open page's job. -/
theorem test_witness_higher_page :
    let s := bandDue pageOpen { band0 with page := 2 }
    s.pp.openPage = some page1 ∧ page1.tag.job = 0 ∧ page1.tag.page < 2 ∧ (s.job 0).state = .active := by decide +kernel

/-- PagesAdmitted: an opening band that reaches the admission, with each of its five answers. -/
theorem test_witness_admission :
    let s := bandDue printing band0
    let spent := bandDue ((onLine { toner with state := .spent } none).setJob 0 printJob) band0
    let strict := { s with tu := { s.tu with policy := .strict } }
    (s.pp.openPage = none ∧ (s.job 0).lastPage = none ∧ band0.index = 0 ∧ s.pp.engineReady = true ∧
      s.st.entries.length < 24) ∧
    ((spent.slot 0).state = .spent ∧ (spent.job 0).mode = .mono) ∧
    ((strict.slot 0).state ≠ .spent ∧ strict.tu.policy = .strict ∧ (strict.slot 0).state ≠ .genuine) ∧
    ((s.slot 0).state ≠ .spent ∧ s.tu.policy ≠ .strict) ∧
    ((s.setAccount 0 { acct5 with state := .suspended }).account 0).state = .suspended ∧
    (let q := (s.setAccount 0 { acct5 with quota := 2 }).account 0
     q.state ≠ .suspended ∧ q.quota < q.charged + q.reserved + s.acct.prices[0]) ∧
    (let q := (s.setAccount 0 { acct5 with quota := 3 }).account 0
     q.state ≠ .suspended ∧ q.charged + q.reserved + s.acct.prices[0] ≤ q.quota) := by decide +kernel

/-- BandsOfThePage: a band of the open page. -/
theorem test_witness_page_band :
    let s := bandDue pageOpen band0
    s.pp.openPage = some page1 ∧ page1.tag = ⟨band0.job, band0.page⟩ ∧ (s.job 0).state = .active ∧
      (s.job 0).kind ≠ .scan ∧ band0.plane = 0 := by decide +kernel

/-- A COLOR page with planes K, C and M finished after one line. -/
def colourPage : OpenPage :=
  { page1 with mode := .color, planes := #v[⟨1, 1, true⟩, ⟨1, 1, true⟩, ⟨1, 1, true⟩, PlaneRec.initial] }

/-- BandsOfThePage: no engine; an index that is not the next; a band that finishes no plane; one that finishes a MONO page;
one that finishes a COLOR page with equal line totals, and with unequal ones. -/
theorem test_witness_page_bands :
    State.reset.pp.engineReady = false ∧ pageOpen.pp.engineReady = true ∧
      ({ band0 with index := 1 } : Band).index ≠ page1.planes[0].next ∧
      (page1.planes[0].finished = false ∧ band0.index = page1.planes[0].next ∧ band0.width = page1.width ∧
        page1.planes[0].lines + band0.lines ≤ 16384 ∧ page1.kind ≠ .release) ∧
      ({ band0 with last := false } : Band).last = false ∧ page1.mode = .mono ∧
      (let r := colourPage.planes[3]
       r.finished = false ∧ r.next = 0 ∧ colourPage.width = 2 ∧ (∀ c : Fin 3, colourPage.planes[c].finished = true) ∧
         r.lines + 1 = colourPage.planes[0].lines ∧ r.lines + 2 ≠ colourPage.planes[0].lines) := by decide +kernel

/-- BandsOfThePage: a RELEASE page whose slot's check is the band's. -/
theorem test_witness_release_band :
    let s := desk.setKey 0 retained
    let p : OpenPage := { page1 with kind := .release, key := some ⟨0, 2⟩ }
    let c := bandCheck (s.key 0).checkKey 1 0 0 1 2 true [200, 0]
    ∀ k ∈ p.key, ({ band0 with check := some c } : Band).check = some (bandCheck (s.key k.slot).checkKey 1 0 0 1 2 true [200, 0]) := by
  intro s p c k hk
  have : k = ⟨0, 2⟩ := by
    simp only [p, Option.mem_def, Option.some.injEq] at hk
    exact hk.symm
  subst this
  rfl

/-- PagesComplete: the open page's entry between two others. -/
theorem test_witness_complete :
    let x : Entry := { entry1 with tag := ⟨1, 1⟩, status := .complete }
    let s : State := { pageOpen with st := { pageOpen.st with entries := [x, entry1, x] } }
    s.st.entries = [x] ++ entry1 :: [x] ∧ entry1.tag = page1.tag ∧ entry1.status = .forwarding ∧
      ∀ y, y ∈ [x] ∨ y ∈ [x] → ¬(y.tag = page1.tag ∧ y.status = .forwarding) := by
  refine ⟨by decide +kernel, by decide, by decide, ?_⟩
  rintro y (h | h) <;> · rw [List.mem_singleton] at h; subst h; decide

/-- OpenPageVoided, EngineLineServed: a page open and none, the line high and low, both marks that wait. -/
theorem test_witness_engine_line :
    let w : State := { pageOpen with
      pp := { pageOpen.pp with pendingVoid := some ⟨0, 1⟩ }, st := { pageOpen.st with pathClear := true } }
    pageOpen.pp.openPage = some page1 ∧ desk.pp.openPage = none ∧ desk.pp.engineReady = true ∧
      State.reset.pp.engineReady = false ∧ w.pp.pendingVoid = some ⟨0, 1⟩ ∧ w.st.pathClear = true := by decide +kernel

/-- R48: a charge that reaches F requests the commit of the account's row, which starts at once and takes the dirty flag;
one below F leaves the record dirty. -/
theorem test_charge_flushes :
    let t (f : Nat) := charge { desk with acct := { desk.acct with postscale := f } } 0 3 .spotS
    ((t 1).account 0).sinceFlush = 0 ∧ ((t 1).account 0).dirty = false ∧
      (t 1).ms.op.map (fun o => o.request) = some (.commit (accountRow 0) 0) ∧ ((t 2).account 0).sinceFlush = 1 ∧
      ((t 2).account 0).dirty = true ∧ (t 2).ms.op = none := by decide +kernel

/-- EntriesSettled: a head; a COMPLETE entry and one that is not; a count of charges that reaches F and one that does
not. -/
theorem test_witness_settled :
    (1 ≤ (desk.account 0).sinceFlush + 1 ∧ ¬2 ≤ (desk.account 0).sinceFlush + 1) ∧
    pageOpen.st.entries = entry1 :: [] ∧ entry1.status ≠ .complete ∧
      ({ entry1 with status := .complete } : Entry).status = .complete := by decide +kernel

/-- SheetExitRemoves: no entry named; the head named, with the sheet count that finds no second entry; a skip. -/
theorem test_witness_exits :
    let names (j : Byte) (n : Half) (e : Entry) : Bool := e.tag.job.val == j.toNat && e.tag.page == n.toNat
    let second : Entry := { entry1 with tag := ⟨0, 2⟩ }
    (∀ e ∈ pageOpen.st.entries, names 0 2 e = false) ∧ pageOpen.st.entries = [] ++ entry1 :: [] ∧
      names 0 1 entry1 = true ∧ ¬(2 : Byte).toNat ≤ 1 ∧ [entry1, second] = [entry1] ++ second :: [] ∧
      names 0 2 second = true ∧ ∀ e ∈ [entry1], names 0 2 e = false := by decide +kernel

/-- ScannerPagesBeginAndEnd: readiness and none; no page and one; a page that is whole and one that is not; an ENDED page
with its last band sent. -/
theorem test_witness_scan_pages :
    let ready (s : State) : Prop := (∃ h, (s.job h).kind = .scan ∧ (s.job h).state = .active) ∧ s.sp.buffer.length < 8 ∧
      (∀ p ∈ s.sp.page, p.ended = false) ∧ s.li.pathLine = false
    let ended : ScanPage := { scanPage1 with ended := true }
    ready scanning ∧ ready scanOpen ∧ ¬ready desk ∧ scanning.sp.page = none ∧ scanOpen.sp.page = some scanPage1 ∧
      (scanOpen.job 0).mode = .mono ∧ scanPage1.planes[0].finished = true ∧
      ({ scanPage1 with planes := Vector.replicate 3 PlaneRec.initial } : ScanPage).planes[0].finished = false ∧
      scanPage1.inBuffer = 0 ∧ ended.ended = true ∧ ended.inBuffer = 0 := by decide +kernel

/-- Page 1 is announced. -/
def announced (s : State) : State := { s with sp := { s.sp with announced := some 1 } }

/-- ScannerBandsTaken: the one ACTIVE SCAN job; lines at both ends of the range and beyond. -/
theorem test_witness_scan_band :
    (let s := announced scanning
     (s.job 0).kind = .scan ∧ (s.job 0).state = .active ∧
       (∀ g, (s.job g).kind = .scan → (s.job g).state = .active → g = 0) ∧ s.sp.buffer.length < 8 ∧
       (∀ p ∈ s.sp.page, p.ended = false) ∧ s.li.pathLine = false ∧ s.sp.announced = some 1 ∧ s.sp.page = none ∧
       (s.job 0).mode = .mono) ∧
    ¬1 ≤ (0 : Byte).toNat ∧ 1 ≤ (1 : Byte).toNat ∧ (64 : Byte).toNat ≤ 64 ∧ ¬(65 : Byte).toNat ≤ 64 ∧
    (16383 : Half).toNat ≤ 16383 ∧ ¬(16384 : Half).toNat ≤ 16383 ∧ (8192 : Half).toNat ≤ 8192 ∧
    ¬(8193 : Half).toNat ≤ 8192 := by decide +kernel

/-- ScannerBandsTaken: a class that has become CIPHER, an account that is not allowed, one whose quota is exceeded, one
that admits; a stale page; a page in progress whose next band passes and one that does not. -/
theorem test_witness_scan_admission :
    let s := announced scanning
    let quota (n : Nat) := (s.setAccount 0 { acct5 with quota := n }).account 0
    (scanning.job 0).key = none ∧ scanning.sp.egress[1].mode = .clear ∧ scanning.sp.egress[2].mode = .cipher ∧
      ¬acct5.window1.Holds 10 ∧ ¬acct5.window2.Holds 10 ∧ acct5.window1.Holds 9 ∧
      (s.account 0).state ≠ .suspended ∧ (quota 8).quota < (quota 8).charged + (quota 8).reserved + s.acct.prices[6] ∧
      (quota 9).charged + (quota 9).reserved + s.acct.prices[6] ≤ (quota 9).quota ∧
      (scanOpen.job 0).lastPage = some 1 ∧ 1 ≤ 1 ∧
      (let p : ScanPage := { scanPage1 with planes := Vector.replicate 3 PlaneRec.initial }
       p.planes[0].finished = false ∧ (0 : Half).toNat = p.planes[0].next ∧ (2 : Half).toNat = p.width ∧
         p.planes[0].lines + (64 : Byte).toNat ≤ 16384 ∧ (1 : Half).toNat ≠ p.planes[0].next) := by decide +kernel

/-- The link carries `x`, and the buffer holds scan frame 1. -/
def carrying (x : Option Sending) (s : State) : State :=
  { s with li := { s.li with sending := x }, sp := { s.sp with buffer := [scanFrame1] } }

/-- UpstreamFramesSent: a busy link; a reply, a notice and a scan frame that waits on a free one; nothing that waits. -/
theorem test_witness_upstream :
    let n : Notice := ⟨.jobHeld, 0, 0, []⟩
    (carrying (some (.notice n true)) scanOpen).li.sending = some (.notice n true) ∧
      (carrying (some (.scan scanFrame1 true)) scanOpen).li.sending = some (.scan scanFrame1 true) ∧
      (carrying (some (.scan scanFrame1 false)) scanOpen).li.sending = some (.scan scanFrame1 false) ∧
      desk.li.sending = none ∧ ({ replying 42 .ok with li := desk.li } : State).cu.state = .replying ⟨42, 0, .ok, []⟩ ∧
      ({ desk with status := { desk.status with notices := [n] } } : State).status.notices = n :: [] ∧
      desk.cu.state = .idle ∧ desk.status.notices = [] ∧ desk.sp.buffer = [] ∧
      (carrying none scanOpen).sp.buffer = scanFrame1 :: [] := by decide +kernel

/-- UpstreamFramesSent: a clear frame whose class is CLEAR and allowed, and one whose class is now CIPHER. -/
theorem test_witness_clear_frame :
    scanFrame1.key = none ∧ (scanOpen.job 0).dest = some 1 ∧ scanOpen.sp.egress[1].mode = .clear ∧
      (scanOpen.account 0).window1.Holds 1 ∧
      ({ scanOpen with sp := { scanOpen.sp with egress := scanOpen.sp.egress.set 1 EgressEntry.default } } : State).sp.egress[1].mode
        = .cipher := by decide +kernel

/-- TimeAdvances: the counts in range, with the trim at both ends; the tick that ends a second, a minute, a 1/32 s. -/
theorem test_witness_time :
    let at' (sub minute : Nat) (trim : Int) : State :=
      { desk with tb := { desk.tb with subSecond := sub, minute := minute, trim := trim } }
    TimeInRange (at' 1023 59 1023) ∧ TimeInRange (at' 0 0 (-1023)) ∧ (31 + 1) % 32 = 0 ∧ (0 + 1) % 32 ≠ 0 ∧
      ((at' 31 0 0).channel 1).running = true ∧ ((at' 31 0 0).channel 0).running = false := by decide +kernel

/-- TimeAdvances: an exchange at its 40th and its 41st tick and no edge; a SENSED slot with a free line; a page whose job's
stall count is below and at its limit, with no band waiting; ch0 counting with no band waiting. -/
theorem test_witness_consumers :
    let x (n : Nat) := (onLine { toner with state := .checking } (some ⟨.identify, .check, n⟩)).slot 0
    let page (n : Nat) := at32 (pageOpen.setJob 0 { printJob with lastPage := some 1, stallCount := some n })
    let ch0 := desk.setChannel 0 { desk.channel 0 with running := true, tap := .t1024, count := 119 }
    (x 39).exchange = some ⟨.identify, .check, 39⟩ ∧ 39 + 1 < 41 ∧ (x 40).exchange = some ⟨.identify, .check, 40⟩ ∧
      41 ≤ 40 + 1 ∧ (x 0).debounce < 7 ∧ (desk.setSlot 0 { toner with state := .sensed }).slot 0 = { toner with state := .sensed } ∧
      (∀ n, (page n).pp.openPage = some page1 ∧ (page n).pp.engineReady = true ∧ (page n).li.bandPosition = none) ∧
      ((page 14).job 0).stallLimit ≠ some 15 ∧ ((page 15).job 0).stallLimit = some 16 ∧ (31 + 1) % 32 = 0 ∧
      ch0.li.bandPosition = none ∧ (ch0.channel 0).count + 1 = (ch0.channel 0).period ∧
      (desk.channel 0).running = false ∧ ch0.acct.session ≠ none := by
  refine ⟨by decide +kernel, by decide, by decide +kernel, by decide, by decide +kernel, by decide +kernel,
    fun n => ⟨rfl, rfl, rfl⟩, by decide +kernel, by decide +kernel, by decide, by decide +kernel, by decide +kernel,
    by decide +kernel, by decide +kernel⟩

/-- TimeAdvances: no slot has an edge and no page reaches its stall limit; an edge at slot 0. -/
theorem test_witness_quiet :
    desk.li.bandPosition = none ∧ desk.pp.openPage = none ∧ (∀ c : Fin 4, (desk.slot c).debounce < 7) ∧
      (Vector.replicate 4 false)[(0 : Fin 4)] ≠ toner.level ∧ 7 ≤ { toner with debounce := 7 }.debounce := by
  decide +kernel

/-- R143, R168: the tick that takes ch1 to its period erases an unnamed slot whose expiry has come. -/
theorem test_tick_sweeps :
    let s := (desk.setKey 3 { retained with persisted := true, expiry := some 1 }).setChannel 1
      { desk.channel 1 with period := 1, count := 0, running := true, tap := .t1 }
    let t := tick (Vector.replicate 4 false) { s with tb := { s.tb with subSecond := 1023, seconds := 5 } }
    (t.key 3).state = .erasing ∧ (t.channel 1).count = 0 ∧ (t.channel 1).running = true := by decide +kernel

/-- TimeAdvances, ChannelsExpire: a channel that reaches its period, and one with a stop pending; both settings of a stop
and of staged values. -/
theorem test_witness_channels :
    (desk.channel 1).count + 1 = (desk.channel 1).period ∧ (desk.channel 2).count + 1 ≠ (desk.channel 2).period ∧
      (desk.channel 1).running = true ∧ (desk.channel 0).running = false ∧
      ((desk.setChannel 2 { desk.channel 2 with stopPending := true, staged := some (.t1, 7) }).channel 2).stopPending = true := by
  decide +kernel

/-- PathResets: a part with an open page that meets every law; the path-reset line and the engine line high and low. -/
theorem test_witness_path_reset : Ready pageOpen ∧ PagesActive pageOpen ∧ LedgerLaw pageOpen ∧ pageOpen.li.pathLine = false ∧
    pageOpen.pp.engineReady = true ∧ State.reset.pp.engineReady = false ∧
    ({ pageOpen with li := { pageOpen.li with pathLine := true } } : State).li.pathLine = true := by decide +kernel

/-- The store with row `r` written. -/
def stored (rows : List (Row × List Byte)) (s : State) : State :=
  { s with ms := { s.ms with memory := rows.foldl (fun m r => m.writeRow r.1 r.2) s.ms.memory } }

/-- PowerOnLoads: a valid row of each owner, a corrupt one, and no saved settings. -/
theorem test_witness_rows_load :
    let s := stored [(accountRow 0, encodeAccount acct5), (keyRow 0, encodeKeySlot retained),
      (egressRow 0, encodeEgress 0 desk), (historyRow 0, encodeHistory (some ⟨.removed, 0, 77, 100, 1, 2, 3, 4⟩)),
      (settingsRow 0, List.replicate 64 0)] desk
    rowCondition (s.ms.memory.row (accountRow 0)) = .valid ∧ rowCondition (s.ms.memory.row (keyRow 0)) = .valid ∧
      0 < (decodeKeySlot (s.ms.memory.row (keyRow 0))).releases ∧
      rowCondition (s.ms.memory.row (egressRow 0)) = .valid ∧ rowCondition (s.ms.memory.row (historyRow 0)) = .valid ∧
      rowCondition (s.ms.memory.row (settingsRow 0)) = .corrupt ∧ rowCondition (s.ms.memory.row (accountRow 1)) ≠ .valid ∧
      rowCondition (s.ms.memory.row 1) = .valid ∧
      ((loadRecord s.ms.memory 0).state ≠ .absent ∧ (loadRecord s.ms.memory 0).id = 5) := by decide +kernel

/-- PowerOnLoads: a key row with no release left, two account rows with one id, and two history rows of one event time. -/
def usedRows : State :=
  let h : HistoryRow := ⟨.removed, 0, 77, 100, 1, 2, 3, 4⟩
  stored [(keyRow 5, encodeKeySlot { retained with releases := 0 }), (accountRow 3, encodeAccount acct5),
    (accountRow 7, encodeAccount { acct5 with lastCharge := 9 }), (historyRow 4, encodeHistory (some h)),
    (historyRow 9, encodeHistory (some h))] State.reset

theorem test_witness_used_rows :
    let m := usedRows.ms.memory
    rowCondition (m.row (keyRow 5)) = .valid ∧ (decodeKeySlot (m.row (keyRow 5))).releases = 0 ∧
      (loadRecord m 7).state ≠ .absent ∧ (loadRecord m 3).id = (loadRecord m 7).id ∧
      rowCondition (m.row (historyRow 9)) = .valid := by decide +kernel

/-- R42: of two records with one id the higher index is the duplicate. -/
theorem test_load_duplicate :
    let records := ((Vector.replicate 256 Account.blank).set 3 acct5).set 7 acct5
    duplicateBelow records 7 = true ∧ duplicateBelow records 3 = false := by decide +kernel

/-- R117: the next-write position follows the higher of two rows of one event time. -/
theorem test_load_ring :
    let h : HistoryRow := ⟨.removed, 0, 77, 100, 1, 2, 3, 4⟩
    loadRingNext (((Vector.replicate 16 none).set 4 (some h)).set 9 (some h)) = 10 := by decide +kernel

/-- R135: a restored slot with no release left comes up ERASING with its erase in flight. -/
theorem test_erase_spent :
    let t := eraseSpent (desk.setKey 5 (decodeKeySlot (encodeKeySlot { retained with releases := 0 }))) 5
    t.ms.op = some ⟨.erase (keyRow 5) 2, false, keyRow 5, 1, 0⟩ ∧ (t.key 5).state = .erasing ∧
      (t.key 5).cause = some .released := by decide +kernel

/-- PowerOnLoads: all six settings rows valid. -/
theorem test_witness_settings_load :
    let s := stored ((List.finRange 6).map fun k => (settingsRow k, encodeSettings k desk)) desk
    ∀ k : Fin 6, rowCondition (s.ms.memory.row (settingsRow k)) = .valid := by decide +kernel

/-- The outcome is a next state. -/
def isNext (o : Host.Outcome State Fault Refusal) : Bool := match o with | .next _ => true | _ => false

theorem next_of (o : Host.Outcome State Fault Refusal) (h : isNext o = true) : ∃ t, o = .next t := by
  cases o with
  | next t => exact ⟨t, rfl⟩
  | _ => cases h

/-- StepKeepsLimits, StepKeepsRations, StepKeepsLedger: a part with an open page and a verified cartridge, and a step that
answers a next state. -/
theorem test_witness_steps :
    let s : State := { pageOpen.setSlot 0 toner with pending := [.sheetJam 1 1] }
    (Fits s ∧ TimeInRange s ∧ (∀ c, (s.channel c).InRange) ∧ (∀ c, (s.slot c).ResidueLaw) ∧
      s.sp.egress[0].mode = .cipher ∧ s.ms.memory.wf = true) ∧
    (∀ c, (s.slot c).RationLaw) ∧ LedgerLaw s ∧
    ∃ t, step s = .next t :=
  ⟨by decide +kernel, by decide +kernel, by decide +kernel, next_of _ (by decide +kernel)⟩

/-- ListedEventsKeepCharges: an event that answers a next state. -/
theorem test_witness_event : ∃ t, exec .pathPurge pageOpen = .next t := next_of _ (by decide +kernel)

/-- RasterArithmetic: the default table is in range; a page of one pixel at the full raw sum. -/
theorem test_witness_raster :
    (∀ i : Fin 17, ToneTable.default.weights[i] ≤ 4095) ∧ ToneTable.default.weights[0] = 0 ∧ 0 < 1 ∧ 765 ≤ 765 * 1 := by
  decide +kernel

/-- RowImagesRoundTrip: each record in range. -/
theorem test_witness_images :
    let w := 4294967296
    (acct5.id ≠ 0 ∧ acct5.id < w ∧ acct5.state ≠ .absent ∧ acct5.quota < w ∧ acct5.charged ≤ acct5.quota ∧
      (∀ i : Fin 7, acct5.counters[i] < w) ∧ acct5.window1.base < 256 ∧ acct5.window1.limit < 256 ∧
      acct5.window2.base < 256 ∧ acct5.window2.limit < 256 ∧ acct5.lastCharge < w) ∧
    Account.blank.state = .absent ∧
    (retained.owner < w ∧ retained.created < w ∧ retained.expiry = some 3600 ∧ 3600 < w ∧ retained.releases < 256) ∧
    (desk.tb.seconds < w ∧ (∀ i : Fin 7, desk.acct.prices[i] < 65536) ∧ 1 ≤ desk.acct.postscale ∧
      desk.acct.postscale ≤ 16 ∧ desk.dm.threshold ≤ 1000 ∧ desk.tu.lowMark ≤ 1000 ∧ 1 ≤ desk.tu.step ∧
      desk.tu.step ≤ 16777216 ∧ -1023 ≤ desk.tb.trim ∧ desk.tb.trim ≤ 1023 ∧
      ∀ c : Fin 4, 1 ≤ (desk.channel c).saved.2 ∧ (desk.channel c).saved.2 < 65536) ∧
    (desk.dm.tables[0].weights[0] = 0 ∧ (∀ i : Fin 17, desk.dm.tables[0].weights[i] ≤ 4095) ∧
      1 ≤ desk.dm.tables[0].gain ∧ desk.dm.tables[0].gain < 65536) ∧
    (∀ d : Fin 256, 1 ≤ desk.sp.egress[d].retention ∧ desk.sp.egress[d].retention < 65536 ∧
      1 ≤ desk.sp.egress[d].releases ∧ desk.sp.egress[d].releases < 256) ∧ desk.sp.egress[0].mode = .cipher := by
  decide +kernel

/-- RowImagesRoundTrip: a history row in range. -/
theorem test_witness_history :
    let h : HistoryRow := ⟨.removed, 0, 77, 100, 1, 2, 3, 4⟩
    h.mirror < 4294967296 ∧ h.insertionTime < 4294967296 ∧ h.eventTime < 4294967296 ∧ h.developed < 4294967296 ∧
      h.overdraw < 4294967296 := by decide

end Sys2Proof.Tests
end

/-! PROOFS. A band brought before the Print Path (R3 to R9): the commands that examine one, and the two ways in which a
band of a print job comes before the admission. -/

namespace Sys2Proof.Machine

/-! ### The commands that examine a band -/

/-- Readiness is given only while no band waits (R3). -/
theorem bandPosition_of_linkOpen {s : State} (h : linkOpen s = true) : s.li.bandPosition = none := by
  simp only [linkOpen, Bool.and_eq_true, Option.isNone_iff_eq_none] at h
  obtain ⟨⟨-, hband⟩, -⟩ := h
  exact hband

theorem State.bandTaken_of_none {s : State} (h : s.li.bandPosition = none) : s.bandTaken = s := by
  simp only [State.bandTaken, ← h]

theorem downstreamFrame_of_band {s : State} {frame body : List Byte} {b : Band} (hl : linkOpen s = true)
    (hf : checkFrame frame = some (0x02#8 :: body))
    (hb : parseBand (fun h => (s.job h).kind == .release) (0x02#8 :: body) = some b) :
    downstreamFrame frame s = examine s b := by
  simp [downstreamFrame, hl, hf, hb]

theorem settleBand_of_ended {s : State} {b : Band} {r : WaitReason} (hw : s.li.bandPosition = some ⟨b, r⟩)
    (he : waitEnded s r = true) : settleBand s = examine s.bandTaken b := by
  simp [settleBand, hw, he, State.bandTaken]

/-- Both rows that bring a band before the Print Path examine it with the band position empty. -/
theorem exec_of_examines {i : Instr} {s : State} {b : Band} (h : Examines i s b) :
    exec i s = .next (examine s.bandTaken b) := by
  obtain ⟨frame, body, rfl, hl, hf, hb⟩ | ⟨r, rfl, hw, he⟩ := h
  · rw [State.bandTaken_of_none (bandPosition_of_linkOpen hl)]
    exact congrArg Host.Outcome.next (downstreamFrame_of_band hl hf hb)
  · exact congrArg Host.Outcome.next (settleBand_of_ended hw he)

/-! ### The examination of a band whose job prints -/

theorem staleFor_eq_false {j : Job} {page : Nat} (h : ∀ n ∈ j.lastPage, n < page) : staleFor j page = false := by
  cases hj : j.lastPage with
  | none => simp [staleFor, hj]
  | some n => simpa [staleFor, hj] using h n hj

section
variable {s : State} {b : Band} (ha : (s.job b.job).state = .active) (hk : (s.job b.job).kind ≠ .scan)
  (hp : (s.job b.job).mode = .mono → b.plane = 0)
include ha hk hp

/-- A band of a higher page of the open page's job voids that page first (R8). -/
theorem examine_of_higher_page {p : OpenPage} (ho : s.pp.openPage = some p) (hj : p.tag.job = b.job)
    (hlt : p.tag.page < b.page) : examine s b = openingBand (voidOpenPage s) b := by
  have hplane : ¬((s.job b.job).mode = .mono ∧ b.plane ≠ 0) := fun h => h.2 (hp h.1)
  simp only [examine, ha, hk, hplane, ho, hj, hlt.not_gt, hlt.ne', ne_eq, not_true, or_false, if_false, if_true]

/-- A band of a page not yet started, with no page open, would open its page (R6, R8). -/
theorem examine_of_new_page (ho : s.pp.openPage = none) (hn : ∀ n ∈ (s.job b.job).lastPage, n < b.page) :
    examine s b = openingBand s b := by
  have hplane : ¬((s.job b.job).mode = .mono ∧ b.plane ≠ 0) := fun h => h.2 (hp h.1)
  simp [examine, ha, hk, hplane, ho, staleFor_eq_false hn]

end

/-- An opening band with index 0, the engine ready and room in the tracker reaches the admission (R8, R9). -/
theorem openingBand_eq_admitPage {s : State} {b : Band} (hi : b.index = 0) (he : s.pp.engineReady = true)
    (hr : s.st.entries.length < 24) : openingBand s b = admitPage s b := by
  have hroom : ¬trackerLimit ≤ s.st.entries.length := by simpa [trackerLimit] using hr
  simp [openingBand, hi, he, hroom]

end Sys2Proof.Machine

/-! PROOFS. The admission of a print page (R9, R10, R45, R114): what each of the two blocks answers, and the state in
which an admitted page's opening band is taken. -/

namespace Sys2Proof.Machine

/-! ### The Cartridge Unit's answer -/

theorem neededSlots_eq (m : ColourMode) : neededSlots m = if m = .mono then [0] else [0, 1, 2, 3] := by
  cases m <;> rfl

/-- The Cartridge Unit refuses for a SPENT slot first, then, under STRICT, for one that is not GENUINE (R114). -/
theorem slotRefusal_eq (s : State) (m : ColourMode) :
    slotRefusal s m =
      if ∃ c ∈ neededSlots m, (s.slot c).state = .spent then some .spent
      else if s.tu.policy = .strict ∧ ∃ c ∈ neededSlots m, (s.slot c).state ≠ .genuine then some .cartridge
      else none := by
  simp [slotRefusal]

/-! ### The Account Table's answer -/

/-- The state once a price is reserved for an account, with the idle channel of the account's session restarted (R45,
R60). -/
def State.priceReserved (s : State) (i : Fin 256) (price : Nat) : State :=
  { s with
    acct := { s.acct with
      records := s.acct.records.set i { s.account i with reserved := (s.account i).reserved + price } }
    tb := { s.tb with
      channels := if ∃ x ∈ s.acct.session, x.account = i then s.tb.channels.set 0 s.tb.channels[0].start
        else s.tb.channels } }

theorem touchIdle_setAccount_eq_priceReserved (s : State) (i : Fin 256) (price : Nat) :
    touchIdle (s.setAccount i { s.account i with reserved := (s.account i).reserved + price }) i =
      s.priceReserved i price := by
  have hsession : (s.acct.session.any fun x => x.account == i) = true ↔ ∃ x ∈ s.acct.session, x.account = i := by
    simp [Option.any_eq_true]
  simp only [touchIdle, State.setAccount, State.priceReserved, hsession]
  split <;> rfl

theorem admissionOf_suspended {s : State} {i : Fin 256} (price : Nat) (h : (s.account i).state = .suspended) :
    admissionOf s i price true = .refused .account := by
  simp [admissionOf, h]

theorem admissionOf_over_quota {s : State} {i : Fin 256} {price : Nat} (h : (s.account i).state ≠ .suspended)
    (hq : (s.account i).quota < (s.account i).charged + (s.account i).reserved + price) :
    admissionOf s i price true = .refused .quota := by
  simp [admissionOf, h, hq]

theorem admissionOf_within_quota {s : State} {i : Fin 256} {price : Nat} (h : (s.account i).state ≠ .suspended)
    (hq : (s.account i).charged + (s.account i).reserved + price ≤ (s.account i).quota) :
    admissionOf s i price true = .admitted (s.priceReserved i price) price := by
  simp [admissionOf, h, Nat.not_lt.mpr hq, touchIdle_setAccount_eq_priceReserved]

/-! ### The page that is opened -/

/-- The provisional class of a job's pages (R45); a job that records no size class counts as SMALL. -/
def Job.provisionalClass (j : Job) : TariffClass := Machine.provisionalClass j.mode (j.size.getD .small)

/-- The tracker entry of a page just admitted (R10). -/
def admittedEntry (j : Job) (b : Band) (cls : TariffClass) (price : Nat) : Entry :=
  { tag := ⟨b.job, b.page⟩, account := j.account, provisional := cls, reserved := price, status := .forwarding,
    final := none, deposits := Vector.replicate 4 none, serials := Vector.replicate 4 none }

/-- The open page record of a page just admitted (R10). -/
def admittedPage (j : Job) (b : Band) : OpenPage :=
  { tag := ⟨b.job, b.page⟩, kind := j.kind, mode := j.mode, size := j.size.getD .small, key := j.key, width := b.width,
    planes := Vector.replicate 4 PlaneRec.initial }

/-- A job whose page has just been started (R6, R10, R19, R38). -/
def Job.pageStarted (j : Job) (page : Nat) : Job :=
  { j with
    lastPage := some page, stallCount := some 0
    counters := { j.counters with started := satAdd max32 j.counters.started 1 } }

/-- The state in which the opening band of an admitted page is taken: entry, open page, clear accumulators, job and PAGE
BEGIN mark as R10 has them. -/
def State.pageOpened (s : State) (b : Band) (cls : TariffClass) (price : Nat) : State :=
  { s with
    st := { s.st with entries := s.st.entries ++ [admittedEntry (s.job b.job) b cls price] }
    pp := { s.pp with openPage := some (admittedPage (s.job b.job) b) }
    dm := { s.dm with accum := some clearAccum }
    jt := s.jt.set b.job ((s.job b.job).pageStarted b.page)
    engineOut := s.engineOut ++
      [markPageBegin ⟨b.job, b.page⟩ (s.job b.job).mode ((s.job b.job).size.getD .small)] }

theorem State.setJob_setJob (s : State) (h : Fin 16) (j k : Job) : (s.setJob h j).setJob h k = s.setJob h k := by
  simp [State.setJob]

/-- The two updates of a job at the start of its page are one. -/
theorem State.countStarted_of_page (s : State) (h : Fin 16) (page : Nat) :
    (s.modJob h fun j => { j with lastPage := some page, stallCount := some 0 }).countStarted h =
      s.setJob h ((s.job h).pageStarted page) := by
  simp [State.countStarted, State.modJob, State.setJob_setJob, Job.pageStarted]

theorem openPageFor_eq (s : State) (b : Band) (price : Nat) :
    openPageFor s b price =
      bandOfPage (s.pageOpened b (s.job b.job).provisionalClass price) (admittedPage (s.job b.job) b) b := by
  simp only [openPageFor, State.countStarted_of_page]
  rfl

/-! ### The admission -/

theorem admitPage_of_slotRefusal {s : State} {b : Band} {r : Reason}
    (h : slotRefusal s (s.job b.job).mode = some r) : admitPage s b = refuseAdmission s b.job r := by
  simp [admitPage, h]

theorem admitPage_of_admissionOf_refused {s : State} {b : Band} {cls : TariffClass} {r : Reason}
    (hc : (s.job b.job).provisionalClass = cls) (h : slotRefusal s (s.job b.job).mode = none)
    (ha : admissionOf s (s.job b.job).account (s.price cls) true = .refused r) :
    admitPage s b = refuseAdmission s b.job r := by
  subst hc
  simp only [Job.provisionalClass] at ha
  simp only [admitPage, h, ha]

/-- An admitted page is opened in the state with its price reserved, and its opening band is taken as its first (R10). -/
theorem admitPage_of_admissionOf_admitted {s : State} {b : Band} {cls : TariffClass}
    (hc : (s.job b.job).provisionalClass = cls) (h : slotRefusal s (s.job b.job).mode = none)
    (ha : admissionOf s (s.job b.job).account (s.price cls) true =
      .admitted (s.priceReserved (s.job b.job).account (s.price cls)) (s.price cls)) :
    admitPage s b =
      bandOfPage ((s.priceReserved (s.job b.job).account (s.price cls)).pageOpened b cls (s.price cls))
        (admittedPage (s.job b.job) b) b := by
  subst hc
  simp only [Job.provisionalClass] at ha
  simp only [admitPage, h, ha, openPageFor_eq]
  rfl

/-- Settles O39: the command examines the band, the examination comes to the admission, and each answer of the two
blocks is a case of the statement. -/
theorem pagesAdmitted : Obligations.PagesAdmitted := by
  intro i s b hx t j a size cls price needed spent missing countRefused held entry page opened hactive hkind hplane
  have hcls : j.provisionalClass = cls := by
    simp only [cls, Job.provisionalClass, size]
    cases j.mode <;> cases j.size.getD .small <;> rfl
  have hneeded : neededSlots j.mode = needed := neededSlots_eq j.mode
  have hexec : exec i s = .next (examine t b) := exec_of_examines hx
  refine ⟨fun p hopen hjob hpage => hexec.trans (congrArg Host.Outcome.next
    (examine_of_higher_page hactive hkind hplane hopen hjob hpage)), fun hopen hlast hindex hready hroom => ?_⟩
  have hadmit : exec i s = .next (admitPage t b) := by
    rw [hexec, examine_of_new_page (s := t) hactive hkind hplane hopen hlast,
      openingBand_eq_admitPage (s := t) hindex hready hroom]
  have hslots : slotRefusal t j.mode = if spent then some .spent else if missing then some .cartridge else none := by
    rw [slotRefusal_eq, hneeded]
    rfl
  have husable (hs : ¬spent) (hm : ¬missing) : slotRefusal t j.mode = none := by rw [hslots, if_neg hs, if_neg hm]
  have hrefused {r : Reason} (h : admitPage t b = refuseAdmission t b.job r) : exec i s = held r :=
    hadmit.trans (congrArg Host.Outcome.next h)
  refine ⟨fun hs => ?spent, fun hs hm => ?cartridge, fun hs hm hsus => ?account, fun hs hm hact hq => ?quota,
    fun hs hm hact hq => ?admitted⟩
  case spent => exact hrefused (admitPage_of_slotRefusal (hslots.trans (if_pos hs)))
  case cartridge => exact hrefused (admitPage_of_slotRefusal (hslots.trans (by rw [if_neg hs, if_pos hm])))
  case account =>
    exact hrefused (admitPage_of_admissionOf_refused hcls (husable hs hm) (admissionOf_suspended _ hsus))
  case quota =>
    exact hrefused (admitPage_of_admissionOf_refused hcls (husable hs hm) (admissionOf_over_quota hact hq))
  case admitted =>
    exact hadmit.trans (congrArg Host.Outcome.next
      (admitPage_of_admissionOf_admitted hcls (husable hs hm) (admissionOf_within_quota hact hq)))

end Sys2Proof.Machine

/-! PROOFS. Drain completion (R34 to R36, R139, R141): when a drain is complete, how the key slot is disposed of for each
kind of job, and the state the completion ends in. -/

namespace Sys2Proof.Machine

/-! ### The drain condition -/

/-- The test of R34, with its counts and flags said as what the tables hold. -/
theorem drained_iff (s : State) (h : Fin 16) :
    drained s h = true ↔
      (s.job h).state = .draining ∧ (∀ e ∈ s.st.entries, e.tag.job ≠ h) ∧ (∀ p ∈ s.sp.page, p.tag.job ≠ h) ∧
        ∀ f ∈ s.sp.buffer, f.tag.job ≠ h := by
  simp [drained, State.entryCount, State.hasScanPage, State.hasBuffered, Option.any_eq_false, and_assoc]

theorem drainTest_of_drained {s : State} {h : Fin 16} (hd : drained s h = true) : drainTest s h = completeDrain s h :=
  if_pos hd

theorem drainTest_of_not_drained {s : State} {h : Fin 16} (hd : ¬drained s h = true) : drainTest s h = s := if_neg hd

/-! ### The disposal of the key slot leaves every job as it was -/

@[simp] theorem requestKeyRow_jt (s : State) (k : Fin 64) (kind : RowRequest) : (requestKeyRow s k kind).jt = s.jt := by
  have hrequest (q : StoreRequest) : (request s q).1.jt = s.jt := by rw [(request_step s q).frame]
  simp [requestKeyRow, State.modKey, hrequest]

@[simp] theorem freeErased_jt (s : State) (k : Fin 64) : (freeErased s k).jt = s.jt := rfl

@[simp] theorem enterErasing_jt (s : State) (k : Fin 64) (cause : EraseCause) : (enterErasing s k cause).jt = s.jt := by
  simp only [enterErasing]
  split <;> simp [State.modKey]

@[simp] theorem zeroiseActive_jt (s : State) (k : Fin 64) : (zeroiseActive s k).jt = s.jt := rfl

@[simp] theorem retainScan_jt (s : State) (k : Fin 64) (e : EgressEntry) : (retainScan s k e).jt = s.jt := by
  simp [retainScan, State.modKey]

@[simp] theorem disposeRelease_jt (s : State) (k : Fin 64) : (disposeRelease s k).jt = s.jt := by
  simp only [disposeRelease]
  split
  · simp [State.modKey]
  · split <;> simp [State.modKey]

theorem disposeKey_jt (s : State) (h : Fin 16) : (disposeKey s h).jt = s.jt := by
  simp only [disposeKey]
  split
  · rfl
  · split
    · simp
    · split <;> simp

/-! ### The disposal by the kind of the job -/

theorem namedSlot?_eq_none {s : State} {h : Fin 16} (hn : ∀ r ∈ (s.job h).key, (s.key r.slot).naming ≠ some h) :
    namedSlot? s h = none := by
  cases hk : (s.job h).key with
  | none => simp [namedSlot?, hk]
  | some r => simp [namedSlot?, hk, hn r hk]

theorem namedSlot?_eq_some {s : State} {h : Fin 16} {r : KeyRef} (hk : (s.job h).key = some r)
    (hn : (s.key r.slot).naming = some h) : namedSlot? s h = some r.slot := by
  simp [namedSlot?, hk, hn]

theorem disposeKey_of_no_slot {s : State} {h : Fin 16} (hs : namedSlot? s h = none) : disposeKey s h = s := by
  simp [disposeKey, hs]

section
variable {s : State} {h : Fin 16} {k : Fin 64} (hs : namedSlot? s h = some k)
include hs

/-- A cancelled SCAN job's keys are zeroised (R139). -/
theorem disposeKey_of_cancelled_scan (hk : (s.job h).kind = .scan) (hc : (s.job h).cancel = true) :
    disposeKey s h = s.setKey k (KeySlot.freed (s.key k).generation) := by
  simp [disposeKey, hs, hk, hc, zeroiseActive, State.modKey]

/-- A closed SCAN job's keys are retained as the entry of its class has it (R139). -/
theorem disposeKey_of_closed_scan {c : Fin 256} (hk : (s.job h).kind = .scan) (hc : (s.job h).cancel = false)
    (hd : (s.job h).dest = some c) : disposeKey s h = retainScan s k s.sp.egress[c] := by
  simp [disposeKey, hs, hk, hc, hd]

theorem disposeKey_of_release (hk : (s.job h).kind = .release) : disposeKey s h = disposeRelease s k := by
  simp [disposeKey, hs, hk]

end

theorem retainScan_eq (s : State) (k : Fin 64) (e : EgressEntry) :
    retainScan s k e = requestKeyRow (s.setKey k { s.key k with
      state := .retained, naming := none, releases := e.releases
      expiry := some (min 4294967295 (s.tb.seconds + 60 * e.retention)) }) k .commit := rfl

/-- No release left is looked at before the expiry time (R141). -/
theorem disposeRelease_eq (s : State) (k : Fin 64) :
    disposeRelease s k =
      let unnamed := s.setKey k { s.key k with naming := none }
      if (s.key k).releases = 0 then enterErasing unnamed k .released
      else if ∃ e ∈ (s.key k).expiry, e ≤ s.tb.seconds then enterErasing unnamed k .expired
      else unnamed := by
  have hexpired : ((s.key k).expiry.any fun e => e ≤ s.now) = true ↔ ∃ e ∈ (s.key k).expiry, e ≤ s.now := by
    simp [Option.any_eq_true]
  simp only [disposeRelease, State.modKey, State.key_setKey_self, hexpired]
  rfl

/-! ### The completion -/

/-- The state a completed drain ends in, once the slot has been disposed of: JOB DONE with the job's ending and counters,
and the context FREE (R35 steps 2 and 3, R36). -/
def State.jobDone (s : State) (h : Fin 16) (j : Job) : State :=
  (s.raise .jobDone (jobDoneFields h j)).setJob h { j with state := .free }

theorem completeDrain_eq (s : State) (h : Fin 16) : completeDrain s h = (disposeKey s h).jobDone h (s.job h) := by
  have hjob : (disposeKey s h).job h = s.job h := congrArg (fun jt : Vector Job 16 => jt[h]) (disposeKey_jt s h)
  simp [completeDrain, State.jobDone, State.modJob, hjob]

theorem endingCode_eq (j : Job) :
    endingCode j = if j.cancel = false then 0 else if j.reason = some .sanitize then 2 else 1 := by
  cases hc : j.cancel <;> simp [endingCode, hc]

/-- Settles O20: a complete drain ends in the disposal of the slot followed by JOB DONE, and each ending of the job is a
case of the disposal. -/
theorem drainCompletes : Obligations.DrainCompletes := by
  intro s h j done ending finish
  have hdone : drained s h = true ↔ done := drained_iff s h
  have hfinish (t : State) : t.jobDone h j = finish t := by
    simp only [State.jobDone, jobDoneFields, endingCode_eq]
    rfl
  have hexec {t : State} (hd : done) (ht : disposeKey s h = t) : exec (.drainCompletion h) s = .next (finish t) := by
    have hcomplete : drainTest s h = finish t := by
      rw [drainTest_of_drained (hdone.mpr hd), completeDrain_eq, ht, hfinish]
    exact congrArg Host.Outcome.next hcomplete
  refine ⟨fun hd => congrArg Host.Outcome.next (drainTest_of_not_drained (mt hdone.mp hd)),
    fun hd hn => hexec hd (disposeKey_of_no_slot (namedSlot?_eq_none hn)), ?_⟩
  intro r hkey hd hn k x
  have hslot : namedSlot? s h = some k := namedSlot?_eq_some hkey hn
  refine ⟨fun hkind hcancel => ?cancelled, fun c hkind hcancel hdest => ?closed, fun hkind => ?release⟩
  case cancelled => exact hexec hd (disposeKey_of_cancelled_scan hslot hkind hcancel)
  case closed => exact hexec hd ((disposeKey_of_closed_scan hslot hkind hcancel hdest).trans (retainScan_eq s k _))
  case release => exact hexec hd ((disposeKey_of_release hslot hkind).trans (disposeRelease_eq s k))

end Sys2Proof.Machine

/-! PROOFS. RESUME JOB (R31): what its owner answers for a number that is no handle and for each state of the context. -/

namespace Sys2Proof.Machine

/-! ### Commands answered at once -/

theorem indexOf_eq_none {n : Nat} {b : Byte} (hb : n ≤ b.toNat) : indexOf n b = none := dif_neg hb.not_gt

theorem indexOf_eq_some {n : Nat} {b : Byte} {i : Fin n} (hi : i.val = b.toNat) : indexOf n b = some i := by
  simp [indexOf, ← hi]

/-- A command answered at once by an owner that leaves the band position empty ends with its reply built (R173). -/
theorem deliverCommand_of_reply {s t : State} {tag : Byte} {c : Command} {code : ReplyCode} {results : List Val}
    (h : Ready s) (hrun : runCommand c s = (t, .reply code results)) (hband : t.li.bandPosition = none) :
    deliverCommand tag c s = t.answered c.kind tag code results := by
  rw [deliverCommand_answered h tag c (by simpa [hrun] using hband), hrun]
  rfl

/-! ### The answer of RESUME JOB -/

/-- The state with a HELD job resumed (R31). -/
def State.resumed (s : State) (h : Fin 16) : State :=
  { s with
    jt := s.jt.set h { s.job h with state := .active, reason := none }
    pp := { s.pp with markers := s.pp.markers.set h none } }

@[simp] theorem State.resumed_li (s : State) (h : Fin 16) : (s.resumed h).li = s.li := rfl

theorem State.job_resumed (s : State) (h : Fin 16) :
    (s.resumed h).job h = { s.job h with state := .active, reason := none } := by
  simp [State.job, State.resumed]

theorem cmdResumeJob_of_no_handle {s : State} {handle : Byte} (hh : 16 ≤ handle.toNat) :
    cmdResumeJob handle s = s.refuse .noEntry := by
  simp [cmdResumeJob, indexOf_eq_none hh]

section
variable {s : State} {handle : Byte} {h : Fin 16} (hh : h.val = handle.toNat)
include hh

theorem cmdResumeJob_of_held (hs : (s.job h).state = .held) : cmdResumeJob handle s = (s.resumed h).ok [] := by
  simp only [cmdResumeJob, indexOf_eq_some hh, hs]
  rfl

theorem cmdResumeJob_of_active (hs : (s.job h).state = .active) : cmdResumeJob handle s = s.ok [] := by
  simp [cmdResumeJob, indexOf_eq_some hh, hs]

theorem cmdResumeJob_of_draining (hs : (s.job h).state = .draining) : cmdResumeJob handle s = s.refuse .busy := by
  simp [cmdResumeJob, indexOf_eq_some hh, hs]

theorem cmdResumeJob_of_free (hs : (s.job h).state = .free) : cmdResumeJob handle s = s.refuse .noEntry := by
  simp [cmdResumeJob, indexOf_eq_some hh, hs]

end

/-! ### The ACTIVE SCAN job -/

theorem State.activeScan_ne_none {s : State} {h : Fin 16} (hk : (s.job h).kind = .scan)
    (hs : (s.job h).state = .active) : s.activeScan ≠ none := by
  have hmem : h ∈ State.handles := List.mem_finRange h
  intro hnone
  have hnot := List.find?_eq_none.mp hnone h hmem
  simp [hk, hs] at hnot

/-- A resumed SCAN job is the ACTIVE SCAN job that the scanner link's readiness asks for (R121). -/
theorem State.activeScan_resumed {s : State} {h : Fin 16} (hk : (s.job h).kind = .scan) :
    (s.resumed h).activeScan ≠ none :=
  State.activeScan_ne_none (h := h) (by rw [State.job_resumed, hk]) (by rw [State.job_resumed])

/-- Settles O18: the command is carried out at once, and its answer is that of its owner for the state of the context. -/
theorem resumeJobResumes : Obligations.ResumeJobResumes := by
  intro s tag handle hready
  have hband : s.li.bandPosition = none := by
    obtain ⟨-, -, hband, -⟩ := hready
    exact hband
  have hexec {t : State} {code : ReplyCode} (hrun : cmdResumeJob handle s = (t, .reply code [])) (hli : t.li = s.li) :
      exec (.resumeJob tag handle) s = .next (t.answered 2 tag code []) :=
    congrArg Host.Outcome.next
      (deliverCommand_of_reply (c := .resumeJob handle) hready hrun ((congrArg LinkInterface.bandPosition hli).trans hband))
  refine ⟨fun hh => hexec (cmdResumeJob_of_no_handle hh) rfl, fun h hh => ⟨?answer, fun hheld hscan => ?scan⟩⟩
  case answer =>
    cases hs : (s.job h).state with
    | held => exact hexec (cmdResumeJob_of_held hh hs) rfl
    | active => exact hexec (cmdResumeJob_of_active hh hs) rfl
    | draining => exact hexec (cmdResumeJob_of_draining hh hs) rfl
    | free => exact hexec (cmdResumeJob_of_free hh hs) rfl
  case scan =>
    have hactive : (s.resumed h).activeScan ≠ none := State.activeScan_resumed hscan
    exact ⟨(s.resumed h).answered 2 tag .ok [], hexec (cmdResumeJob_of_held hh hheld) rfl, hactive⟩

end Sys2Proof.Machine

/-! PROOFS. The panel session (R59 to R61): what OPEN SESSION, TOUCH SESSION and CLOSE SESSION answer while it is OPEN and
while it is CLOSED, and how they move channel ch0. -/

namespace Sys2Proof.Machine

/-- A command answered at once by an owner that leaves the Link Interface alone ends with its reply built (R173). -/
theorem deliverCommand_of_reply_of_li_eq {s t : State} {tag : Byte} {c : Command} {code : ReplyCode} {results : List Val}
    (h : Ready s) (hrun : runCommand c s = (t, .reply code results)) (hli : t.li = s.li) :
    deliverCommand tag c s = t.answered c.kind tag code results := by
  have ⟨_, _, hband, _⟩ := h
  exact deliverCommand_of_reply h hrun (by rw [hli, hband])

/-- The state with the panel session replaced (R59, R61). -/
def State.withSession (s : State) (x : Option Session) : State := { s with acct := { s.acct with session := x } }

/-! ### The answers while the session is OPEN -/

section
variable {s : State} (ho : s.acct.session ≠ none)
include ho

theorem cmdOpenSession_of_open (index : Byte) : cmdOpenSession index s = s.refuse .busy :=
  if_pos (Option.isSome_iff_ne_none.mpr ho)

theorem cmdTouchSession_of_open : cmdTouchSession s = (startChannel s 0).ok [] :=
  if_pos (Option.isSome_iff_ne_none.mpr ho)

theorem cmdCloseSession_of_open : cmdCloseSession s = (stopChannel (s.withSession none) 0).ok [] :=
  if_pos (Option.isSome_iff_ne_none.mpr ho)

end

/-! ### The answers while the session is CLOSED -/

section
variable {s : State} (hc : s.acct.session = none)
include hc

theorem cmdTouchSession_of_closed : cmdTouchSession s = s.refuse .noEntry := by
  simp [cmdTouchSession, hc]

theorem cmdCloseSession_of_closed : cmdCloseSession s = s.ok [] := by
  simp [cmdCloseSession, hc]

variable {index : Byte}

theorem cmdOpenSession_of_absent (ha : (s.account (byteIndex index)).state = .absent) :
    cmdOpenSession index s = s.refuse .noEntry := by
  simp [cmdOpenSession, hc, ha]

theorem cmdOpenSession_of_suspended (ha : (s.account (byteIndex index)).state = .suspended) :
    cmdOpenSession index s = s.refuse .refused := by
  simp [cmdOpenSession, hc, ha]

theorem cmdOpenSession_of_enabled (ha : (s.account (byteIndex index)).state = .enabled) :
    cmdOpenSession index s = (startChannel (s.withSession (some ⟨byteIndex index, s.now⟩)) 0).ok [] := by
  simp [cmdOpenSession, hc, ha, State.withSession]

end

theorem AccountState.eq_enabled {a : AccountState} (ha : a ≠ .absent) (hs : a ≠ .suspended) : a = .enabled := by
  cases a with
  | absent => exact absurd rfl ha
  | suspended => exact absurd rfl hs
  | enabled => rfl

/-- Settles O15: each command is carried out at once, and its answer is that of its owner, by the session's state and, at an
open, the account's. -/
theorem sessionsOpenAndClose : Obligations.SessionsOpenAndClose := by
  intro s tag hready
  have hreply {c : Command} {t : State} {code : ReplyCode} (hrun : runCommand c s = (t, .reply code []))
      (hli : t.li = s.li) :
      Host.Outcome.next (ρ := Refusal) (φ := Fault) (deliverCommand tag c s) = .next (t.answered c.kind tag code []) :=
    congrArg Host.Outcome.next (deliverCommand_of_reply_of_li_eq hready hrun hli)
  refine ⟨fun index => ?opened, ?touched, ?closed⟩
  case opened =>
    dsimp only
    split_ifs with ho ha hs
    · exact hreply (c := .openSession index) (cmdOpenSession_of_open ho index) rfl
    · exact hreply (c := .openSession index) (cmdOpenSession_of_absent (not_not.mp ho) ha) rfl
    · exact hreply (c := .openSession index) (cmdOpenSession_of_suspended (not_not.mp ho) hs) rfl
    · exact hreply (c := .openSession index)
        (cmdOpenSession_of_enabled (not_not.mp ho) (AccountState.eq_enabled ha hs)) rfl
  case touched =>
    split_ifs with hc
    · exact hreply (c := .touchSession) (cmdTouchSession_of_closed hc) rfl
    · exact hreply (c := .touchSession) (cmdTouchSession_of_open hc) rfl
  case closed =>
    by_cases hc : s.acct.session = none
    · rw [if_pos hc]
      exact hreply (c := .closeSession) (cmdCloseSession_of_closed hc) rfl
    · rw [if_neg hc]
      exact hreply (c := .closeSession) (cmdCloseSession_of_open hc) rfl

end Sys2Proof.Machine

/-! PROOFS. The scanner link (R121): when it is given readiness, and what a frame does with readiness and without. -/

namespace Sys2Proof.Machine

/-! ### The ACTIVE SCAN job and the link's readiness -/

theorem State.activeScan_isSome_iff (s : State) :
    s.activeScan.isSome = true ↔ ∃ h, (s.job h).kind = .scan ∧ (s.job h).state = .active := by
  simp [State.activeScan, State.handles]

/-- The test of R121, with its flags said as what the tables hold. -/
theorem scannerReady_iff (s : State) :
    scannerReady s = true ↔
      (∃ h, (s.job h).kind = .scan ∧ (s.job h).state = .active) ∧ s.sp.buffer.length < 8 ∧
        (∀ p ∈ s.sp.page, p.ended = false) ∧ s.li.pathLine = false := by
  have hlimit : bufferLimit = 8 := rfl
  rw [← hlimit]
  simp [scannerReady, State.activeScan_isSome_iff, Option.any_eq_false, and_assoc]

theorem scannerFrame_of_not_ready {s : State} (f : ScannerFrame) (hr : ¬scannerReady s = true) :
    scannerFrame s f = s.linkError .scanner := by
  simp [scannerFrame, hr]

section
variable {s : State} (hr : scannerReady s = true)
include hr

theorem scannerFrame_pageBegin (page : Half) : scannerFrame s (.pageBegin page) = scannerPageBegin s page.toNat := by
  simp [scannerFrame, hr]

theorem scannerFrame_pageEnd : scannerFrame s .pageEnd = scannerPageEnd s := by
  simp [scannerFrame, hr]

end

end Sys2Proof.Machine

/-! PROOFS. PAGE BEGIN and PAGE END of the scanner (R124, R127): a page voided (R128), a page whole, and its completion (R51). -/

namespace Sys2Proof.Machine

/-! ### The void of a scan page -/

/-- The state in which a scan page has been voided, but for the drain test: the reservation released uncharged, the void
counted and reported, the record IDLE and no page announced (R128). -/
def State.scanPageVoided (s : State) (p : ScanPage) : State :=
  let released := releaseReservation s (s.job p.tag.job).account p.reservation
  let raised := (released.countVoided p.tag.job).raise .pageVoid [.u8 p.tag.job, .u16 p.tag.page, .u8 1]
  { raised with sp := { s.sp with page := none, announced := none } }

theorem voidScanPage_of_idle {s : State} (hp : s.sp.page = none) : voidScanPage s = s := by
  simp [voidScanPage, hp]

theorem voidScanPage_of_page {s : State} {p : ScanPage} (hp : s.sp.page = some p) :
    voidScanPage s = drainTest (s.scanPageVoided p) p.tag.job := by
  simp only [voidScanPage, hp]
  rfl

/-! ### PAGE BEGIN -/

theorem scannerPageBegin_of_idle {s : State} (page : Nat) (hp : s.sp.page = none) :
    scannerPageBegin s page = { s with sp := { s.sp with announced := some page } } := by
  simp [scannerPageBegin, hp]

/-- A page in progress is voided before the next one is announced (R124). -/
theorem scannerPageBegin_of_page {s : State} (page : Nat) (hp : s.sp.page ≠ none) :
    scannerPageBegin s page =
      { voidScanPage s with sp := { (voidScanPage s).sp with announced := some page } } := by
  simp [scannerPageBegin, Option.isSome_iff_ne_none.mpr hp]

/-! ### Completion -/

/-- The state in which a scan page has completed, but for the drain test: charged as one SCAN impression and counted as
exited, the record IDLE (R51, R127). -/
def State.scanPageCompleted (s : State) (p : ScanPage) : State :=
  let charged := charge s (s.job p.tag.job).account p.reservation .scan
  { charged.countExited p.tag.job with sp := { charged.sp with page := none } }

theorem completeScanPage_of_sent {s : State} {p : ScanPage} (hp : s.sp.page = some p) (he : p.ended = true)
    (hn : p.inBuffer = 0) : completeScanPage s = drainTest (s.scanPageCompleted p) p.tag.job := by
  simp only [completeScanPage, hp, he, hn, beq_self_eq_true, Bool.and_self, if_true]
  rfl

/-- No page completes while none is ENDED with its frames all sent (log entry 7). -/
theorem completeScanPage_of_not_sent {s : State}
    (h : ∀ p, s.sp.page = some p → p.ended = false ∨ p.inBuffer ≠ 0) : completeScanPage s = s := by
  cases hp : s.sp.page with
  | none => simp [completeScanPage, hp]
  | some p =>
    obtain he | hn := h p hp
    · simp [completeScanPage, hp, he]
    · simp [completeScanPage, hp, hn]

/-! ### PAGE END -/

/-- A page is whole when the planes of its mode have finished, in COLOR with equal line totals (R127). -/
theorem ScanPage.whole_iff (p : ScanPage) (mode : ColourMode) :
    p.whole mode = true ↔
      if mode = .mono then p.planes[0].finished = true
      else (∀ c : Fin 3, p.planes[c].finished = true) ∧ ∀ c : Fin 3, p.planes[c].lines = p.planes[0].lines := by
  cases mode with
  | mono => simp [ScanPage.whole, scanPlanes]
  | color =>
    have hplanes : scanPlanes .color = List.finRange 3 := by decide
    simp [ScanPage.whole, hplanes, forall_and]

theorem scannerPageEnd_of_idle {s : State} (hp : s.sp.page = none) :
    scannerPageEnd s = { s with sp := { s.sp with announced := none } } := by
  simp [scannerPageEnd, hp]

section
variable {s : State} {p : ScanPage} (hp : s.sp.page = some p) (he : p.ended = false)
include hp he

theorem scannerPageEnd_of_not_whole (hw : ¬p.whole (s.job p.tag.job).mode = true) :
    scannerPageEnd s = voidScanPage s := by
  simp [scannerPageEnd, hp, he, hw]

theorem scannerPageEnd_of_whole (hw : p.whole (s.job p.tag.job).mode = true) :
    scannerPageEnd s = completeScanPage { s with sp := { s.sp with page := some { p with ended := true } } } := by
  simp [scannerPageEnd, hp, he, hw]

end

/-- Settles O47: without readiness every frame is a link error; with it each frame acts by the scan page in progress, and
the ends of a page are the void and the completion. -/
theorem scannerPagesBeginAndEnd : Obligations.ScannerPagesBeginAndEnd := by
  refine ⟨?frames, fun s => ⟨voidScanPage_of_idle, fun p => voidScanPage_of_page⟩⟩
  intro s ready withPage whole complete
  have hready : scannerReady s = true ↔ ready := scannerReady_iff s
  have hwhole (p : ScanPage) : p.whole (s.job p.tag.job).mode = true ↔ whole p := p.whole_iff _
  have hrefused {i : Instr} {f : ScannerFrame} (hi : exec i s = .next (scannerFrame s f)) (hr : ¬ready) :
      exec i s = .next (s.linkError .scanner) := by
    rw [hi, scannerFrame_of_not_ready f (mt hready.mp hr)]
  have hbegin {page : Half} {t : State} (hr : ready) (ht : scannerPageBegin s page.toNat = t) :
      exec (.scannerPageBegin page) s = .next t :=
    congrArg Host.Outcome.next ((scannerFrame_pageBegin (hready.mpr hr) page).trans ht)
  have hend {t : State} (hr : ready) (ht : scannerPageEnd s = t) : exec .scannerPageEnd s = .next t :=
    congrArg Host.Outcome.next ((scannerFrame_pageEnd (hready.mpr hr)).trans ht)
  have hopen {p : ScanPage} (hp : s.sp.page = some p) (hr : ready) : p.ended = false := by
    obtain ⟨-, -, hended, -⟩ := hr
    exact hended p hp
  refine ⟨fun page => hrefused (f := .pageBegin page) rfl, fun b => hrefused (f := .band b) rfl,
    hrefused (f := .pageEnd) rfl,
    fun page hr hp => hbegin hr (scannerPageBegin_of_idle page.toNat hp),
    fun page hr hp => hbegin hr (scannerPageBegin_of_page page.toNat hp),
    fun hr hp => hend hr (scannerPageEnd_of_idle hp),
    fun p hp hr hw => hend hr (scannerPageEnd_of_not_whole hp (hopen hp hr) (mt (hwhole p).mp hw)),
    fun p hp hr hw => hend hr ?whole,
    fun p hp he hn => congrArg Host.Outcome.next (completeScanPage_of_sent hp he hn),
    fun h => congrArg Host.Outcome.next (completeScanPage_of_not_sent h)⟩
  rw [scannerPageEnd_of_whole hp (hopen hp hr) ((hwhole p).mpr hw)]
  split_ifs with hn
  · exact completeScanPage_of_sent (p := { p with ended := true }) rfl rfl hn
  · refine completeScanPage_of_not_sent fun q hq => .inr ?_
    obtain rfl := Option.some.inj hq
    exact hn

end Sys2Proof.Machine

/-! PROOFS. A band of the scanner (R121, R125, R126): the checks of the link and of the mode, the admission of a scan page,
and the band that is formed into a frame or voids its page. -/

namespace Sys2Proof.Machine

/-! ### The link's checks -/

/-- The ACTIVE SCAN job, where there is no other, is the one the scanner's bands belong to. -/
theorem State.activeScan_eq_some {s : State} {h : Fin 16} (hk : (s.job h).kind = .scan)
    (ha : (s.job h).state = .active) (hu : ∀ g, (s.job g).kind = .scan → (s.job g).state = .active → g = h) :
    s.activeScan = some h := by
  obtain ⟨g, hg⟩ := Option.ne_none_iff_exists'.mp (State.activeScan_ne_none hk ha)
  have hfound := List.find?_some hg
  simp only [Bool.and_eq_true, beq_iff_eq] at hfound
  obtain ⟨hkind, hactive⟩ := hfound
  rw [hg, hu g hkind hactive]

/-- The ranges of R121 as the statements have them. -/
theorem bandInRange_iff (b : ScannerBand) :
    bandInRange b = true ↔
      b.plane.toNat < 4 ∧ b.index.toNat ≤ 16383 ∧ 1 ≤ b.lines.toNat ∧ b.lines.toNat ≤ 64 ∧
        1 ≤ b.width.toNat ∧ b.width.toNat ≤ 8192 ∧ b.payload.length = b.width.toNat * b.lines.toNat := by
  simp [bandInRange, and_assoc]

section
variable {s : State} {b : ScannerBand} (hr : scannerReady s = true)
include hr

theorem scannerFrame_band_of_out_of_range (hb : ¬bandInRange b = true) :
    scannerFrame s (.band b) = s.linkError .scanner := by
  simp [scannerFrame, hr, hb]

theorem scannerFrame_band_of_in_range {h : Fin 16} (hb : bandInRange b = true) (hs : s.activeScan = some h) :
    scannerFrame s (.band b) = scanBand s h b := by
  simp [scannerFrame, hr, hb, hs]

end

/-! ### The plane of a band -/

/-- The planes of a scan by number: K alone for a mono scan, three for a color scan (section 7.1). -/
theorem mem_scanPlanes_iff {mode : ColourMode} {i : Fin 3} :
    i ∈ scanPlanes mode ↔ if mode = .mono then i.val = 0 else i.val < 3 := by
  revert i
  cases mode with
  | mono => decide
  | color => decide

theorem scanPlane?_eq_none {mode : ColourMode} {plane : Byte}
    (h : ¬if mode = .mono then plane.toNat = 0 else plane.toNat < 3) : scanPlane? mode plane = none := by
  refine List.find?_eq_none.mpr fun i hi heq => h ?_
  rw [← beq_iff_eq.mp heq]
  exact mem_scanPlanes_iff.mp hi

theorem scanPlane?_eq_some {mode : ColourMode} {plane : Byte} {i : Fin 3}
    (h : if mode = .mono then plane.toNat = 0 else plane.toNat < 3) (hi : i.val = plane.toNat) :
    scanPlane? mode plane = some i := by
  have hmem : i ∈ scanPlanes mode := mem_scanPlanes_iff.mpr (by rwa [hi])
  have hfound : (scanPlane? mode plane).isSome = true := List.find?_isSome.mpr ⟨i, hmem, beq_iff_eq.mpr hi⟩
  obtain ⟨k, hk⟩ := Option.isSome_iff_exists.mp hfound
  have hval : k.val = plane.toNat := beq_iff_eq.mp (List.find?_some (p := fun i : Fin 3 => i.val == plane.toNat) hk)
  rw [hk, Fin.ext (hval.trans hi.symm)]

/-! ### A band by its plane and the scan page in progress -/

section
variable {s : State} {h : Fin 16} {b : ScannerBand}

theorem scanBand_of_no_plane (hi : scanPlane? (s.job h).mode b.plane = none) :
    scanBand s h b = s.countRefused h := by
  simp [scanBand, hi]

variable {i : Fin 3} (hi : scanPlane? (s.job h).mode b.plane = some i)
include hi

theorem scanBand_of_idle (hp : s.sp.page = none) : scanBand s h b = openingScanBand s h i b := by
  simp [scanBand, hi, hp]

theorem scanBand_of_page {p : ScanPage} (hp : s.sp.page = some p) : scanBand s h b = takeScanBand s h p i b := by
  simp [scanBand, hi, hp]

end

/-! ### A band of the OPEN scan page -/

/-- The state in which a band of a page has been formed into a frame and appended to the buffer (R126). -/
def State.scanBandFormed (s : State) (p : ScanPage) (i : Fin 3) (b : ScannerBand) (f : ScanFrame) : State :=
  { s with sp := { s.sp with
    page := some { p with
      planes := p.planes.set i (p.planes[i].accept b.lines.toNat b.last), inBuffer := p.inBuffer + 1 }
    buffer := s.sp.buffer ++ [f] } }

/-- The checks of R126 on a band, as the model takes them one after the other. -/
theorem takeScanBand_eq (s : State) (h : Fin 16) (p : ScanPage) (i : Fin 3) (b : ScannerBand) :
    takeScanBand s h p i b =
      if b.page.toNat = p.tag.page ∧ p.planes[i].finished = false ∧ b.index.toNat = p.planes[i].next ∧
          b.width.toNat = p.width ∧ p.planes[i].lines + b.lines.toNat ≤ 16384 then
        s.scanBandFormed p i b (formFrame s h b)
      else voidScanPage s := by
  simp [takeScanBand, PlaneRec.admits, State.scanBandFormed, and_assoc]

/-! ### The admission of a scan page -/

theorem Account.allows_iff (a : Account) (c : Nat) :
    a.allows c = true ↔ c = 0 ∨ a.window1.Holds c ∨ a.window2.Holds c := by
  have hmatches (w : Window) : w.matches c = true ↔ w.Holds c := by
    simp [Window.matches, Window.Holds, and_assoc, -not_and, not_and_or]
  simp only [Account.allows, Bool.or_eq_true, beq_iff_eq, hmatches, or_assoc]

/-- The destination class of a job is allowed for its account (R58); a job without one counts as class 0. -/
def State.destAllowed (s : State) (h : Fin 16) : Bool :=
  (s.account (s.job h).account).allows ((s.job h).dest.getD 0).val

/-- The Account Table's answer to a page of a SCAN job (R45, R125 order 5). -/
def State.scanAdmission (s : State) (h : Fin 16) : Admission :=
  admissionOf s (s.job h).account (s.price .scan) (s.destAllowed h)

section
variable {s : State} {h : Fin 16}

/-- A suspended account and a class that is not allowed are refused alike. -/
theorem State.scanAdmission_of_barred
    (hb : (s.account (s.job h).account).state = .suspended ∨ ¬s.destAllowed h = true) :
    s.scanAdmission h = .refused .account := by
  obtain hsus | hclass := hb
  · simp [State.scanAdmission, admissionOf, hsus]
  · simp [State.scanAdmission, admissionOf, hclass]

variable (ha : (s.account (s.job h).account).state ≠ .suspended) (hc : s.destAllowed h = true)
include ha hc

theorem State.scanAdmission_over_quota
    (hq : (s.account (s.job h).account).quota <
      (s.account (s.job h).account).charged + (s.account (s.job h).account).reserved + s.price .scan) :
    s.scanAdmission h = .refused .quota := by
  rw [State.scanAdmission, hc, admissionOf_over_quota ha hq]

theorem State.scanAdmission_within_quota
    (hq : (s.account (s.job h).account).charged + (s.account (s.job h).account).reserved + s.price .scan ≤
      (s.account (s.job h).account).quota) :
    s.scanAdmission h = .admitted (s.priceReserved (s.job h).account (s.price .scan)) (s.price .scan) := by
  rw [State.scanAdmission, hc, admissionOf_within_quota ha hq]

end

/-- The record of a scan page just admitted (R125 order 6). -/
def admittedScanPage (h : Fin 16) (b : ScannerBand) (price : Nat) : ScanPage :=
  { ended := false, tag := ⟨h, b.page.toNat⟩, width := b.width.toNat, planes := Vector.replicate 3 PlaneRec.initial,
    reservation := price, inBuffer := 0 }

/-- The state in which a scan page has been started: no page announced any more, and the job's last started page and its
count moved on (R125 order 6). -/
def State.scanPageStarted (s : State) (h : Fin 16) (page : Nat) : State :=
  { s with
    sp := { s.sp with announced := none }
    jt := s.jt.set h { s.job h with
      lastPage := some page
      counters := { (s.job h).counters with started := satAdd max32 (s.job h).counters.started 1 } } }

/-- A frame is formed from the band, the job's key reference and the key slots alone (R126). -/
theorem formFrame_congr {s t : State} {h : Fin 16} (b : ScannerBand) (hj : (t.job h).key = (s.job h).key)
    (hk : t.kt = s.kt) : formFrame t h b = formFrame s h b := by
  have hslot (k : Fin 64) : t.key k = s.key k := congrArg (fun kt : Vector KeySlot 64 => kt[k]) hk
  simp only [formFrame, hj, hslot]

/-- The two updates of a job at the start of its scan page are one. -/
theorem State.countStarted_of_scanPage (s : State) (h : Fin 16) (p : ScanPage) (page : Nat) :
    (({ s with sp := { s.sp with page := some p, announced := none } } : State).modJob h fun j =>
        { j with lastPage := some page }).countStarted h =
      { s.scanPageStarted h page with sp := { s.sp with page := some p, announced := none } } := by
  simp only [State.countStarted, State.modJob, State.setJob_setJob, State.job_setJob_self]
  rfl

/-- The opening band of an admitted page passes the checks of its own page (R126). -/
theorem openScanPage_eq {s : State} {h : Fin 16} {b : ScannerBand} (i : Fin 3) (price : Nat) (hi : b.index.toNat = 0)
    (hl : b.lines.toNat ≤ 64) :
    openScanPage s h i b price =
      (s.scanPageStarted h b.page.toNat).scanBandFormed (admittedScanPage h b price) i b (formFrame s h b) := by
  have hplane : (admittedScanPage h b price).planes[i] = PlaneRec.initial := by simp [admittedScanPage]
  have hkey : ((s.scanPageStarted h b.page.toNat).job h).key = (s.job h).key := by
    simp [State.job, State.scanPageStarted]
  have hlines : PlaneRec.initial.lines + b.lines.toNat ≤ 16384 := (Nat.zero_add _).trans_le (hl.trans (by decide))
  rw [openScanPage, State.countStarted_of_scanPage, ← formFrame_congr b hkey rfl]
  refine (takeScanBand_eq _ h (admittedScanPage h b price) i b).trans (if_pos ?_)
  rw [hplane]
  exact ⟨rfl, rfl, hi, rfl, hlines⟩

/-- A cipher job, and a clear one whose class is CLEAR, passes order 4 of R125. -/
theorem classOrder_passes {j : Job} {e : EgressEntry} (hc : j.key ≠ none ∨ e.mode = .clear) :
    (j.key.isNone && e.mode == .cipher) = false := by
  obtain hkey | hmode := hc
  · simp [hkey]
  · simp [hmode]

section
variable {s : State} {h : Fin 16} {b : ScannerBand} {i : Fin 3}

theorem openingScanBand_of_stale (hs : ∃ m ∈ (s.job h).lastPage, b.page.toNat ≤ m) :
    openingScanBand s h i b = s.countRefused h := by
  have hstale : staleFor (s.job h) b.page.toNat = true := by simpa [staleFor, Option.any_eq_true] using hs
  simp [openingScanBand, hstale]

variable (hs : staleFor (s.job h) b.page.toNat = false)
include hs

theorem openingScanBand_of_unannounced (ha : s.sp.announced ≠ some b.page.toNat ∨ b.index.toNat ≠ 0) :
    openingScanBand s h i b = refuseBand s h b.page.toNat := by
  simp only [openingScanBand, hs, Bool.false_eq_true, if_false, if_pos ha]

variable (ha : s.sp.announced = some b.page.toNat) (hi : b.index.toNat = 0)
include ha hi

/-- A clear job whose class has become CIPHER is refused without asking the Account Table (R125 order 4). -/
theorem openingScanBand_of_class_cipher (hk : (s.job h).key = none) (hm : (destEntry s (s.job h)).mode = .cipher) :
    openingScanBand s h i b = refuseScanPage s h .account := by
  simp [openingScanBand, hs, ha, hi, hk, hm]

section
variable (hc : (s.job h).key ≠ none ∨ (destEntry s (s.job h)).mode = .clear)
include hc

/-- The page is refused for the reason the Account Table gives (R125 order 5). -/
theorem openingScanBand_of_scanAdmission_refused {r : Reason} (hr : s.scanAdmission h = .refused r) :
    openingScanBand s h i b = refuseScanPage s h r := by
  simp only [State.scanAdmission, State.destAllowed] at hr
  simp [openingScanBand, hs, ha, hi, classOrder_passes hc, hr]

theorem openingScanBand_of_scanAdmission_admitted {t : State} {price : Nat}
    (hr : s.scanAdmission h = .admitted t price) : openingScanBand s h i b = openScanPage t h i b price := by
  simp only [State.scanAdmission, State.destAllowed] at hr
  simp [openingScanBand, hs, ha, hi, classOrder_passes hc, hr]

end

end

/-- Settles O48: the band is taken by the checks of the link, of the mode and of its page, and each answer at the
admission is a case of the statement. -/
theorem scannerBandsTaken : Obligations.ScannerBandsTaken := by
  intro s h b hkind hactive hunique hroom hopen hline n inRange j a inMode taken count refused held stale entry cls allowed
    price frame formed
  have hready : scannerReady s = true := (scannerReady_iff s).mpr ⟨⟨h, hkind, hactive⟩, hroom, hopen, hline⟩
  have hactiveScan : s.activeScan = some h := State.activeScan_eq_some hkind hactive hunique
  have hrange : bandInRange b = true ↔ inRange := bandInRange_iff b
  have htaken (hr : inRange) : taken = .next (scanBand s h b) :=
    congrArg Host.Outcome.next (scannerFrame_band_of_in_range hready (hrange.mpr hr) hactiveScan)
  have hcls : ((s.job h).dest.getD 0).val = cls := by
    simp only [cls, j]
    cases (s.job h).dest <;> rfl
  have hallowed : s.destAllowed h = true ↔ allowed := by
    rw [State.destAllowed, hcls]
    exact a.allows_iff cls
  refine ⟨fun hr => congrArg Host.Outcome.next (scannerFrame_band_of_out_of_range hready (mt hrange.mp hr)),
    fun hr hm => (htaken hr).trans (congrArg Host.Outcome.next (scanBand_of_no_plane (scanPlane?_eq_none hm))),
    fun i hr hm hi => ?_⟩
  have hplane : scanPlane? (s.job h).mode b.plane = some i := scanPlane?_eq_some hm hi
  refine ⟨fun hp => ?idle, fun p hp => ?page⟩
  case page =>
    have hband : taken = .next (takeScanBand s h p i b) :=
      (htaken hr).trans (congrArg Host.Outcome.next (scanBand_of_page hplane hp))
    rw [takeScanBand_eq] at hband
    exact ⟨fun hpass => hband.trans (congrArg Host.Outcome.next (if_pos hpass)),
      fun hpass => hband.trans (congrArg Host.Outcome.next (if_neg hpass))⟩
  case idle =>
    have hband {t : State} (ht : openingScanBand s h i b = t) : taken = .next t :=
      (htaken hr).trans (congrArg Host.Outcome.next ((scanBand_of_idle hplane hp).trans ht))
    have hfresh (hs : ¬stale) : staleFor j n = false :=
      staleFor_eq_false fun m hm => not_le.mp fun hle => hs ⟨m, hm, hle⟩
    have hzero : b.index.toNat = 0 ↔ b.index = 0 := ⟨fun hz => BitVec.eq_of_toNat_eq hz, congrArg BitVec.toNat⟩
    refine ⟨fun hs => hband (openingScanBand_of_stale hs), fun hs ha => ?unannounced,
      fun hs ha hindex => ⟨fun hkey hmode => ?classCipher, fun hc => ⟨fun hno => ?account, fun hact hall hq => ?quota,
        fun hact hall hq => ?admitted⟩⟩⟩
    case unannounced => exact hband (openingScanBand_of_unannounced (hfresh hs) (ha.imp_right (mt hzero.mp)))
    case classCipher => exact hband (openingScanBand_of_class_cipher (hfresh hs) ha (hzero.mpr hindex) hkey hmode)
    case account =>
      have hanswer : s.scanAdmission h = .refused .account :=
        State.scanAdmission_of_barred (hno.imp_right (mt hallowed.mp))
      exact hband (openingScanBand_of_scanAdmission_refused (hfresh hs) ha (hzero.mpr hindex) hc hanswer)
    case quota =>
      have hanswer : s.scanAdmission h = .refused .quota :=
        State.scanAdmission_over_quota hact (hallowed.mpr hall) hq
      exact hband (openingScanBand_of_scanAdmission_refused (hfresh hs) ha (hzero.mpr hindex) hc hanswer)
    case admitted =>
      have hanswer : s.scanAdmission h = .admitted (s.priceReserved j.account price) price :=
        State.scanAdmission_within_quota hact (hallowed.mpr hall) hq
      have ⟨_, _, _, hlines, _⟩ := hr
      exact hband ((openingScanBand_of_scanAdmission_admitted (hfresh hs) ha (hzero.mpr hindex) hc hanswer).trans
        (openScanPage_eq i price (hzero.mpr hindex) hlines))

end Sys2Proof.Machine

/-! PROOFS. CLEAR STATUS (R176): which flags stand after it, and the counts that return to 0 with them. -/

namespace Sys2Proof.Machine

/-! ### Reads of a flag -/

/-- The flag of a bit, in the order of R175. -/
def Flag.ofBit (i : Fin 13) : Flag :=
  #v[.jobHeld, .jobDone, .pageVoid, .bandRefused, .cartridgeChange, .cartridgeState, .rationLow, .sessionEnded, .keyErased,
    .storeFault, .trackFault, .noticeOverflow, .linkFrameError][i]

theorem Flag.ofBit_bit (f : Flag) : Flag.ofBit f.bit = f := by
  cases f <;> rfl

/-- No two flags share a bit. -/
theorem Flag.bit_injective : Function.Injective Flag.bit :=
  Function.LeftInverse.injective Flag.ofBit_bit

theorem Flag.getLsbD_mask (f g : Flag) : f.mask.getLsbD g.bit = (g == f) := by
  have hbit : f.bit.val = g.bit.val ↔ g = f := (Fin.val_inj.trans Flag.bit_injective.eq_iff).trans eq_comm
  rw [Flag.mask, ← BitVec.twoPow_eq, BitVec.getLsbD_twoPow, beq_eq_decide]
  simp [hbit]

/-- Setting a flag sets that one alone. -/
theorem Status.has_set (t : Status) (f g : Flag) : (t.set f).has g = (t.has g || g == f) := by
  rw [← Flag.getLsbD_mask]
  exact BitVec.getLsbD_or

/-- Clearing the named flags leaves the others as they are. -/
theorem has_clearFlags (s : State) (named : Half) (f : Flag) :
    (clearFlags s named).status.has f = (s.status.has f && !names named f) := by
  simp [Status.has, clearFlags, names]

/-! ### The effects of a CLEAR STATUS -/

/-- The two counts return to 0 with the flags that stand for them (R176). -/
def State.countsCleared (s : State) (named : Half) : State :=
  { s with
    li := { s.li with errors := if names named .linkFrameError then 0 else s.li.errors }
    st := { s.st with stray := if names named .trackFault then 0 else s.st.stray } }

/-- CARTRIDGE CHANGE, where it is named, is set again at once if a slot's change flag is set (R176). -/
def State.changeKept (s : State) (named : Half) : State :=
  if names named .cartridgeChange && anyChanged s then s.setFlag .cartridgeChange else s

/-- No notice is queued for the flag set again, and nothing else moves. -/
theorem State.changeKept_frame (s : State) (named : Half) :
    s.changeKept named = { s with status := { s.status with flags := (s.changeKept named).status.flags } } := by
  simp only [State.changeKept]
  split_ifs <;> rfl

theorem State.has_changeKept (s : State) (named : Half) (f : Flag) :
    (s.changeKept named).status.has f =
      (s.status.has f || (names named .cartridgeChange && anyChanged s && f == .cartridgeChange)) := by
  simp only [State.changeKept]
  split_ifs with hset
  · simp [State.setFlag, Status.has_set, hset]
  · simp [hset]

/-- The state that CLEAR STATUS leaves before its reply is built (R176). -/
def State.statusCleared (s : State) (named : Half) : State :=
  ((clearFlags s named).countsCleared named).changeKept named

theorem cmdClearStatus_eq (s : State) (named : Half) :
    cmdClearStatus named s = (s.statusCleared named).ok [.u16 (s.statusCleared named).status.flags.toNat] := by
  simp only [cmdClearStatus, State.statusCleared, State.countsCleared]
  cases names named .linkFrameError <;> cases names named .trackFault <;> rfl

/-- Of the named flags CARTRIDGE CHANGE alone can stand after CLEAR STATUS; a flag not named keeps its value. -/
theorem State.has_statusCleared (s : State) (named : Half) (f : Flag) :
    (s.statusCleared named).status.has f =
      if names named f then f == .cartridgeChange && anyChanged s else s.status.has f := by
  have hstands : (s.statusCleared named).status.has f = ((s.status.has f && !names named f) ||
      (names named .cartridgeChange && anyChanged s && f == .cartridgeChange)) := by
    rw [← has_clearFlags]
    exact State.has_changeKept _ named f
  rw [hstands]
  by_cases hf : f = .cartridgeChange
  · subst hf
    cases names named .cartridgeChange <;> simp
  · have hother : (f == Flag.cartridgeChange) = false := beq_eq_false_iff_ne.mpr hf
    cases names named f <;> simp [hother]

theorem State.statusCleared_frame (s : State) (named : Half) :
    s.statusCleared named =
      { s.countsCleared named with status := { s.status with flags := (s.statusCleared named).status.flags } } :=
  State.changeKept_frame ((clearFlags s named).countsCleared named) named

/-- Settles O13: the command is carried out at once, and the state left is the one with the three effects of the rule. -/
theorem clearStatusClears : Obligations.ClearStatusClears := by
  intro s tag named hready
  have ⟨_, _, hempty, _⟩ := hready
  have hframe := s.statusCleared_frame named
  have hband : (s.statusCleared named).li.bandPosition = none := by
    rw [hframe]
    exact hempty
  have hanswer : exec (.clearStatus tag named) s =
      .next ((s.statusCleared named).answered 43 tag .ok [.u16 (s.statusCleared named).status.flags.toNat]) :=
    congrArg Host.Outcome.next
      (deliverCommand_of_reply (c := .clearStatus named) hready (cmdClearStatus_eq s named) hband)
  exact ⟨_, hanswer, s.has_statusCleared named,
    congrArg (State.answered · 43 tag .ok [.u16 (s.statusCleared named).status.flags.toNat]) hframe⟩

end Sys2Proof.Machine

/-! PROOFS. What every part of the block keeps within limits, told one operation at a time: `Keeps s t` holds between
the states before and after any operation of the model, so the limits and the law of verified slots are invariants of
a step. -/

namespace Sys2Proof.Machine

/-! ### The relation -/

/-- What a move from `s` to `t` keeps: each limit of the queues and tables, the ranges of the Time Base, the two laws of
the cartridge slots, class 0 CIPHER and the canonical form of the array. -/
structure Keeps (s t : State) : Prop where
  commands : s.li.commandQueue.length ≤ 4 → t.li.commandQueue.length ≤ 4
  notices : s.status.notices.length ≤ 32 → t.status.notices.length ≤ 32
  buffer : s.sp.buffer.length ≤ 8 → t.sp.buffer.length ≤ 8
  entries : s.st.entries.length ≤ 24 → t.st.entries.length ≤ 24
  queue : s.ms.QueueLaw → t.ms.QueueLaw
  time : TimeInRange s → TimeInRange t
  channels : ∀ c, (s.channel c).InRange → (t.channel c).InRange
  residues : ∀ c, (s.slot c).ResidueLaw → (t.slot c).ResidueLaw
  rations : ∀ c, (s.slot c).RationLaw → (t.slot c).RationLaw
  egress : s.sp.egress[0].mode = .cipher → t.sp.egress[0].mode = .cipher
  memory : s.ms.memory.wf = true → t.ms.memory.wf = true

theorem Keeps.refl (s : State) : Keeps s s :=
  ⟨id, id, id, id, id, id, fun _ => id, fun _ => id, fun _ => id, id, id⟩

theorem Keeps.trans {s t u : State} (h : Keeps s t) (k : Keeps t u) : Keeps s u where
  commands := k.commands ∘ h.commands
  notices := k.notices ∘ h.notices
  buffer := k.buffer ∘ h.buffer
  entries := k.entries ∘ h.entries
  queue := k.queue ∘ h.queue
  time := k.time ∘ h.time
  channels c := k.channels c ∘ h.channels c
  residues c := k.residues c ∘ h.residues c
  rations c := k.rations c ∘ h.rations c
  egress := k.egress ∘ h.egress
  memory := k.memory ∘ h.memory

/-- The parts of the state that the limits and the law of verified slots speak of. -/
structure Limited where
  commands : List CommandFrame
  notices : List Notice
  buffer : List ScanFrame
  entries : List Entry
  store : MeterStore
  time : TimeBase
  slots : Vector Cartridge 4
  egress : Vector EgressEntry 256

def State.limited (s : State) : Limited :=
  ⟨s.li.commandQueue, s.status.notices, s.sp.buffer, s.st.entries, s.ms, s.tb, s.tu.slots, s.sp.egress⟩

/-- A move that leaves alone everything a limit or a law speaks of keeps them all. -/
theorem Keeps.of_same {s t : State} (h : t.limited = s.limited) : Keeps s t := by
  obtain ⟨hc, hn, hb, he, hms, htb, hs, heg⟩ := Limited.mk.inj h
  refine ⟨?_, ?_, ?_, ?_, ?_, ?_, fun c => ?_, fun c => ?_, fun c => ?_, ?_, ?_⟩
  all_goals simp only [hc, hn, hb, he, hms, htb, hs, heg, State.channel, State.slot, TimeInRange]; exact id

/-- A move that touches the status block alone, beside what no limit speaks of. -/
theorem Keeps.of_notices {s t : State} (hn : s.status.notices.length ≤ 32 → t.status.notices.length ≤ 32)
    (h : t.limited = { s.limited with notices := t.status.notices }) : Keeps s t := by
  obtain ⟨hc, -, hb, he, hms, htb, hs, heg⟩ := Limited.mk.inj h
  have h : Keeps s { t with status := s.status } := .of_same (by simp only [State.limited, hc, hb, he, hms, htb, hs, heg])
  exact { h with notices := hn }

theorem raise_keeps (s : State) (f : Flag) (v : List Val) : Keeps s (s.raise f v) :=
  .of_notices (s.raise_notices_length f v) rfl

/-- The fold of an operation that keeps the limits keeps them. -/
theorem Keeps.foldl {α : Type} {f : State → α → State} (l : List α) (h : ∀ s a, Keeps s (f s a)) (s : State) :
    Keeps s (l.foldl f s) := by
  induction l generalizing s with
  | nil => exact .refl s
  | cons a l ih => exact (h s a).trans (ih (f s a))

/-- A step taken only under a condition keeps the limits where the step does. -/
theorem Keeps.ite {s t u : State} {p : Prop} [Decidable p] (h : Keeps s t) (k : Keeps s u) :
    Keeps s (if p then t else u) := by
  split
  · exact h
  · exact k

theorem Keeps.withMeter {s t : State} (h : Keeps s t) (d : DepositMeter) : Keeps s { t with dm := d } := h.trans (.of_same (by rfl))

end Sys2Proof.Machine

/-! PROOFS. The limit of the waiting store requests (R153, R154): taking a request, starting the head and admitting held
requests keep it. -/

namespace Sys2Proof.Machine

/-- A waiting entry names the row being written, where 17 wait. -/
abbrev QueueHolds (writing : Option Row) (queue : List StoreEntry) : Prop :=
  queue.length ≤ 17 ∧ ∀ r, writing = some r → queue.length = 17 → ∃ e ∈ queue, e.request.row? = some r

theorem QueueHolds.of_le {writing : Option Row} {queue : List StoreEntry} (h : queue.length ≤ 16) :
    QueueHolds writing queue := ⟨by omega, fun _ _ h17 => by omega⟩

/-- Merging keeps the row of every entry. -/
theorem StoreEntry.row_merge {w e : StoreEntry} (h : w.sameRow e = true) :
    (w.merge e).request.row? = w.request.row? := by
  simp only [StoreEntry.sameRow, Bool.and_eq_true, beq_iff_eq] at h
  exact h.2.symm

/-- The request of a row that meets a queue within its limit leaves it within its limit (R153). -/
theorem enqueue_holds {writing : Option Row} {queue l : List StoreEntry} {e : StoreEntry}
    (hq : QueueHolds writing queue) (h : enqueue writing queue e = some l) : QueueHolds writing l := by
  obtain ⟨hlen, hrow⟩ := hq
  obtain ⟨-, he⟩ | ⟨hnew, hroom, he⟩ | ⟨-, -, -, he⟩ := enqueue_cases writing queue e
  · cases he.symm.trans h
    refine ⟨by simpa using hlen, fun r hr h17 => ?_⟩
    obtain ⟨w, hw, hwr⟩ := hrow r hr (by simpa using h17)
    refine ⟨_, List.mem_map_of_mem hw, ?_⟩
    split
    next hs => rw [StoreEntry.row_merge hs, hwr]
    next => exact hwr
  · cases he.symm.trans h
    obtain hlt | ⟨-, hwriting⟩ := hroom
    · exact .of_le (by simp; omega)
    · refine ⟨?_, fun r hr _ => ⟨e, by simp, hwriting.trans hr⟩⟩
      have hnot17 : queue.length ≠ 17 := fun h17 => by
        cases hr : writing with
        | none => rw [hr] at hwriting; simp [enqueue, queueLimit, hnew, hwriting, hr, h17] at he
        | some r =>
          obtain ⟨w, hw, hwr⟩ := hrow r hr h17
          have hsame : w.sameRow e = true := by simp [StoreEntry.sameRow, hwr, hwriting, hr]
          exact absurd hsame (List.any_eq_false.mp hnew w hw)
      simp only [List.length_append, List.length_singleton]
      omega
  · rw [he] at h; cases h

/-- Held requests are admitted within the limit of the queue (R153). -/
theorem admitHeld_holds {writing : Option Row} {queue : List StoreEntry} (held : List StoreEntry)
    (hq : QueueHolds writing queue) : QueueHolds writing (admitHeld writing queue held).1 := by
  induction held generalizing queue with
  | nil => exact hq
  | cons e rest ih =>
    simp only [admitHeld]
    split
    next hl => exact ih (enqueue_holds hq hl)
    next => exact hq

theorem snapshot_queue (s : State) (r : Row) (g : Half) : (snapshot s r g).2.ms.queue = s.ms.queue := by
  unfold snapshot
  cases rowOwner r <;> dsimp only <;> (try split) <;> rfl

theorem startEntry_queue (s : State) (e : StoreEntry) : (startEntry s e).ms.queue = s.ms.queue := by
  unfold startEntry
  cases e.request with
  | commit r g =>
    have h := snapshot_queue s r g
    dsimp only
    split <;> (rename_i hs; rw [hs] at h; exact h)
  | erase r g => rfl
  | region g => rfl

theorem startHead_queueLaw {s : State} (h : s.ms.QueueLaw) : (startHead s).ms.QueueLaw := by
  unfold startHead
  split
  · exact h
  next e rest hq =>
    have hlen : rest.length ≤ 16 := by
      have h17 := h.1
      rw [hq, List.length_cons] at h17
      omega
    refine admitHeld_holds _ (QueueHolds.of_le ?_)
    rw [startEntry_queue]
    exact hlen

theorem startIfReady_queueLaw {s : State} (h : s.ms.QueueLaw) : (startIfReady s).ms.QueueLaw := by
  unfold startIfReady
  split
  · exact startHead_queueLaw h
  · exact h

theorem request_queueLaw {s : State} (q : StoreRequest) (h : s.ms.QueueLaw) : (request s q).1.ms.QueueLaw := by
  unfold request
  split
  next hl => exact startIfReady_queueLaw (enqueue_holds h hl)
  next => exact h

theorem requestOwn_queueLaw {s : State} (q : StoreRequest) (h : s.ms.QueueLaw) :
    (requestOwn s q).ms.QueueLaw := by
  unfold requestOwn
  split
  next hl => exact startIfReady_queueLaw (enqueue_holds h hl)
  next => exact h

/-- A queue that loses entries while it does not hold 17 is within its limit. -/
theorem filter_queueHolds {writing : Option Row} {queue : List StoreEntry} (p : StoreEntry → Bool)
    (h : QueueHolds writing queue) : QueueHolds writing (queue.filter p) := by
  have hle := List.length_filter_le p queue
  refine ⟨hle.trans h.1, fun r hr h17 => ?_⟩
  have hall : queue.filter p = queue := List.filter_sublist.eq_of_length_le (by have := h.1; omega)
  rw [hall] at h17 ⊢
  exact h.2 r hr h17

theorem requestRegion_queueLaw {s : State} (g : Region) (h : s.ms.QueueLaw) : (requestRegion s g).ms.QueueLaw :=
  requestOwn_queueLaw _ (filter_queueHolds _ h)

/-! ### Store moves keep the limits -/

theorem StoreStep.slots {s t : State} (h : StoreStep s t) : t.tu.slots = s.tu.slots :=
  by rw [h.frame]

/-- A store step keeps every limit but that of its own queue, which is to be shown of it. -/
theorem StoreStep.keeps {s t : State} (h : StoreStep s t) (hq : s.ms.QueueLaw → t.ms.QueueLaw) : Keeps s t := by
  have h0 : Keeps s { t with ms := s.ms } := .of_same (by simp only [State.limited, h.slots]; rw [h.frame])
  exact { h0 with queue := hq, memory := fun hw => by rw [h.memory]; exact hw }

theorem startIfReady_keeps (s : State) : Keeps s (startIfReady s) :=
  (startIfReady_step s).keeps startIfReady_queueLaw

theorem request_keeps (s : State) (q : StoreRequest) : Keeps s (request s q).1 :=
  (request_step s q).keeps (request_queueLaw q)

theorem requestOwn_keeps (s : State) (q : StoreRequest) : Keeps s (requestOwn s q) :=
  (requestOwn_step s q).keeps (requestOwn_queueLaw q)

theorem requestRegion_keeps (s : State) (g : Region) : Keeps s (requestRegion s g) :=
  (requestRegion_step s g).keeps (requestRegion_queueLaw g)

/-- An operation in flight that ends or goes on leaves the queue within its limit, where the row it writes is not left
for another. -/
theorem setOp_queueLaw {m : MeterStore} {op : Option StoreOp} (h : m.QueueLaw)
    (hw : ∀ o ∈ op, ∀ r ∈ o.request.row?, m.writing = some r) : ({ m with op := op } : MeterStore).QueueLaw := by
  refine ⟨h.1, fun r hr h17 => ?_⟩
  simp only [MeterStore.writing, Option.bind_eq_some_iff] at hr
  obtain ⟨o, ho, hor⟩ := hr
  exact h.2 r (hw o ho r hor) h17

end Sys2Proof.Machine

/-! PROOFS. The Cartridge Unit one slot at a time: what each of its operations may change (`SlotStep`), and that each
keeps the law of verified slots at the slot it works on. -/

namespace Sys2Proof.Machine

/-! ### What an operation at one slot may change -/

/-- What the Cartridge Unit may change when it works on slot `c`: the slot, the history ring, the store with the dirty
flags a start clears, the status block, the draws and what has left on the lines. The limits that those have are kept. -/
structure SlotStep (c : Fin 4) (s t : State) : Prop where
  frame : t = { s with
    tu := { s.tu with slots := t.tu.slots, ring := t.tu.ring, ringDirty := t.tu.ringDirty, ringNext := t.tu.ringNext }
    acct := { s.acct with records := t.acct.records }
    ms := t.ms, status := t.status, draws := t.draws, tagOut := t.tagOut }
  others : ∀ d, d ≠ c → t.slot d = s.slot d
  money : ∀ i, (t.account i).sameMoney (s.account i)
  memory : t.ms.memory = s.ms.memory
  notices : s.status.notices.length ≤ 32 → t.status.notices.length ≤ 32
  queue : s.ms.QueueLaw → t.ms.QueueLaw
  residue : (s.slot c).ResidueLaw → (t.slot c).ResidueLaw

namespace SlotStep

variable {c : Fin 4} {s t u : State}

theorem refl (c : Fin 4) (s : State) : SlotStep c s s := ⟨rfl, fun _ _ => rfl, fun _ => rfl, rfl, id, id, id⟩

theorem trans (h : SlotStep c s t) (k : SlotStep c t u) : SlotStep c s u where
  frame := by
    have hf := h.frame
    have kf := k.frame
    rw [kf, hf]
  others d hd := (k.others d hd).trans (h.others d hd)
  money i := by
    have a := h.money i
    have b := k.money i
    simp only [Account.sameMoney] at a b ⊢
    rw [← a, ← b]
  memory := k.memory.trans h.memory
  notices := k.notices ∘ h.notices
  queue := k.queue ∘ h.queue
  residue := k.residue ∘ h.residue

/-- The last operation first, as the operations are written. -/
theorem comp (k : SlotStep c t u) (h : SlotStep c s t) : SlotStep c s u := h.trans k

theorem setSlot (s : State) (c : Fin 4) (x : Cartridge) (hx : (s.slot c).ResidueLaw → x.ResidueLaw) :
    SlotStep c s (s.setSlot c x) :=
  ⟨rfl, fun _ hd => s.slot_setSlot_of_ne x hd, fun _ => rfl, rfl, id, id, fun h => by
    rw [s.slot_setSlot_self]; exact hx h⟩

theorem raise (s : State) (c : Fin 4) (f : Flag) (v : List Val) : SlotStep c s (s.raise f v) :=
  ⟨rfl, fun _ _ => rfl, fun _ => rfl, rfl, s.raise_notices_length f v, id, id⟩

theorem emitTag (s : State) (c d : Fin 4) (m : List Byte) : SlotStep c s (s.emitTag d m) :=
  ⟨rfl, fun _ _ => rfl, fun _ => rfl, rfl, id, id, id⟩

theorem draw (s : State) (c : Fin 4) (n : Nat) : SlotStep c s { s with draws := n } :=
  ⟨rfl, fun _ _ => rfl, fun _ => rfl, rfl, id, id, id⟩

end SlotStep

theorem StoreStep.slot {s t : State} (h : StoreStep s t) (d : Fin 4) : t.slot d = s.slot d := by
  rw [h.frame]; rfl

theorem StoreStep.slotStep {s t : State} (h : StoreStep s t) (hq : s.ms.QueueLaw → t.ms.QueueLaw) (c : Fin 4) :
    SlotStep c s t where
  frame := by have hf := h.frame; rw [hf]
  others d _ := h.slot d
  money := h.money
  memory := h.memory
  notices := by rw [h.frame]; exact id
  queue := hq
  residue := by rw [h.slot]; exact id

/-- An operation at one slot that keeps the law there keeps every limit and every slot's law. -/
theorem SlotStep.keeps {c : Fin 4} {s t : State} (h : SlotStep c s t)
    (hlaw : (s.slot c).RationLaw → (t.slot c).RationLaw) : Keeps s t where
  commands := by rw [h.frame]; exact id
  notices := h.notices
  buffer := by rw [h.frame]; exact id
  entries := by rw [h.frame]; exact id
  queue := h.queue
  time := by rw [h.frame]; exact id
  channels d := by rw [h.frame]; exact id
  residues d := by
    by_cases hd : d = c
    · subst hd; exact h.residue
    · rw [h.others d hd]; exact id
  rations d := by
    by_cases hd : d = c
    · subst hd; exact hlaw
    · rw [h.others d hd]; exact id
  egress := by rw [h.frame]; exact id
  memory := by rw [h.memory]; exact id

/-! ### The law of a slot under changes of its fields -/

namespace Cartridge

/-- What the law of a slot speaks of: state, counts, exchange and level. -/
def lawful (x : Cartridge) : CartridgeState × Nat × Nat × Nat × Option Exchange × Bool :=
  (x.state, x.mirror, x.confirmed, x.ratedYield, x.exchange, x.level)

theorem RationLaw.congr {x y : Cartridge} (h : x.RationLaw) (hv : y.lawful = x.lawful) : y.RationLaw := by
  simp only [lawful, Prod.mk.injEq] at hv
  obtain ⟨hs, hm, hc, hr, he, hl⟩ := hv
  simpa only [RationLaw, hs, hm, hc, hr, he, hl] using h

/-- A slot that is not EMPTY, or has an exchange on its line, has its level high. -/
theorem RationLaw.level_of_state {x : Cartridge} (h : x.RationLaw) (hs : x.state ≠ .empty) : x.level = true := by
  obtain ⟨-, -, hlow⟩ := h
  cases hl : x.level with
  | true => rfl
  | false => exact absurd (hlow hl).1 hs

theorem RationLaw.level_of_exchange {x : Cartridge} (h : x.RationLaw) (he : x.exchange ≠ none) : x.level = true := by
  obtain ⟨-, -, hlow⟩ := h
  cases hl : x.level with
  | true => rfl
  | false => exact absurd (hlow hl).2 he

theorem RationLaw.level_of_verified {x : Cartridge} (h : x.RationLaw) (hv : x.state.verified = true) :
    x.level = true := h.level_of_state (by rintro he; simp [he, CartridgeState.verified] at hv)

/-- With the level high and no exchange of a full check, the law is that of the counts. -/
theorem RationLaw.of_counts {x : Cartridge} (hl : x.level = true)
    (he : ∀ e ∈ x.exchange, e.sequence ≠ .check ∧ e.request ≠ .identify)
    (hv : x.state.verified = true → x.mirror ≤ x.confirmed ∧ x.confirmed ≤ x.ratedYield) : x.RationLaw :=
  ⟨hv, fun e hm hc => absurd hc (not_or.mpr (he e hm)), fun h => absurd h (by simp [hl])⟩

/-- A free line of a slot with its level high may be given any state whose counts are in order. -/
theorem RationLaw.of_free {x : Cartridge} (hl : x.level = true) (he : x.exchange = none)
    (hv : x.state.verified = true → x.mirror ≤ x.confirmed ∧ x.confirmed ≤ x.ratedYield) : x.RationLaw :=
  .of_counts hl (by simp [he]) hv

/-- An exchange may begin on the line of a slot with its level high; one of a full check on a CHECKING slot. -/
theorem RationLaw.request {x : Cartridge} (h : x.RationLaw) (hl : x.level = true) {q : TagRequest} {seq : Sequence}
    (hc : seq = .check ∨ q = .identify → x.state = .checking) :
    ({ x with exchange := some ⟨q, seq, 0⟩ } : Cartridge).RationLaw := by
  refine ⟨h.1, ?_, fun hlow => absurd hlow (by simp [hl])⟩
  rintro e ⟨⟩
  exact hc

/-- An exchange that ends leaves the law as it was. -/
theorem RationLaw.freed {x : Cartridge} (h : x.RationLaw) : ({ x with exchange := none } : Cartridge).RationLaw := by
  obtain ⟨hv, -, hl⟩ := h
  exact ⟨hv, by simp, fun hlow => ⟨(hl hlow).1, rfl⟩⟩

/-- The mirror of a slot may fall. -/
theorem RationLaw.lower {x : Cartridge} (h : x.RationLaw) {n : Nat} (hn : n ≤ x.mirror) :
    ({ x with mirror := n } : Cartridge).RationLaw := by
  obtain ⟨hv, he, hl⟩ := h
  exact ⟨fun hver => ⟨hn.trans (hv hver).1, (hv hver).2⟩, he, hl⟩

/-- A GENUINE slot may become SPENT. -/
theorem RationLaw.spent {x : Cartridge} (h : x.RationLaw) (hs : x.state.verified = true) :
    ({ x with state := .spent } : Cartridge).RationLaw := by
  have hlevel : x.level = true := h.level_of_verified hs
  obtain ⟨hv, he, -⟩ := h
  refine ⟨fun _ => hv hs, fun e hm hc => ?_, fun hlow => absurd hlow (by simp [hlevel])⟩
  have := he e hm hc
  simp [this, CartridgeState.verified] at hs

end Cartridge

/-! ### The operations at one slot -/

section
variable (s : State) (c : Fin 4)

theorem State.recorded_slotStep (row : HistoryRow) : SlotStep c s (s.recorded row) :=
  SlotStep.trans (t := { s with tu := { s.tu with
      ring := s.tu.ring.set s.tu.ringNext (some row), ringDirty := s.tu.ringDirty.set s.tu.ringNext true,
      ringNext := s.tu.ringNext + 1 } })
    ⟨rfl, fun _ _ => rfl, fun _ => rfl, rfl, id, id, id⟩
    ((s.recorded_step row).slotStep (fun h => request_queueLaw _ h) c)

@[simp] theorem State.slot_recorded (row : HistoryRow) (d : Fin 4) : (s.recorded row).slot d = s.slot d :=
  (s.recorded_step row).slot d

theorem appendHistory_step (d : Fin 4) (e : HistoryEvent) : SlotStep d s (appendHistory s c e) := by
  rw [appendHistory_recorded]; exact s.recorded_slotStep d _

@[simp] theorem slot_appendHistory (e : HistoryEvent) (d : Fin 4) : (appendHistory s c e).slot d = s.slot d := by
  rw [appendHistory_recorded, State.slot_recorded]

theorem raiseCartridgeState_step : SlotStep c s (raiseCartridgeState s c) := .raise s c _ _

@[simp] theorem slot_raiseCartridgeState (d : Fin 4) : (raiseCartridgeState s c).slot d = s.slot d := rfl

theorem becomeSpent_step : SlotStep c s (becomeSpent s c) :=
  ((SlotStep.setSlot s c _ (by exact id)).trans (appendHistory_step _ c c _)).trans (raiseCartridgeState_step _ c)

@[simp] theorem slot_becomeSpent : (becomeSpent s c).slot c = { s.slot c with state := .spent } := by
  simp [becomeSpent, State.modSlot]

theorem rationLowTest_step : SlotStep c s (rationLowTest s c) := by
  simp only [rationLowTest]
  split
  · exact (SlotStep.setSlot s c _ (by exact id)).trans (.raise _ c _ _)
  · exact .refl c s

theorem slot_rationLowTest : (rationLowTest s c).slot c =
    if (s.slot c).isLow s.tu.lowMark then { s.slot c with lowReported := true } else s.slot c := by
  simp only [rationLowTest]
  split <;> simp

theorem sendRequest_step (q : TagRequest) (seq : Sequence) : SlotStep c s (sendRequest s c q seq) :=
  (SlotStep.setSlot s c _ (by exact id)).trans (.emitTag _ c c _)

@[simp] theorem slot_sendRequest (q : TagRequest) (seq : Sequence) :
    (sendRequest s c q seq).slot c = { s.slot c with exchange := some ⟨q, seq, 0⟩ } :=
  s.slot_setSlot_self c _

theorem sendChallenge_step (seq : Sequence) : SlotStep c s (sendChallenge s c seq) :=
  (SlotStep.draw s c _).trans (sendRequest_step _ c _ seq)

@[simp] theorem slot_sendChallenge (seq : Sequence) : (sendChallenge s c seq).slot c =
    { s.slot c with exchange := some ⟨.challenge (Config.randomNonce s.draws), seq, 0⟩ } :=
  slot_sendRequest _ c _ seq

theorem sendWrite_step : SlotStep c s (sendWrite s c) := sendRequest_step s c _ _

@[simp] theorem slot_sendWrite : (sendWrite s c).slot c =
    { s.slot c with exchange := some ⟨.writeRation (s.slot c).mirror, .writeBack, 0⟩ } :=
  slot_sendRequest s c _ _

theorem endExchange_step : SlotStep c s (endExchange s c) := .setSlot s c _ (by exact id)

@[simp] theorem slot_endExchange : (endExchange s c).slot c = { s.slot c with exchange := none } :=
  s.slot_setSlot_self c _

theorem writeBackTest_step : SlotStep c s (writeBackTest s c) := by
  simp only [writeBackTest]
  split
  · split
    · exact sendWrite_step s c
    · exact .refl c s
    · exact .setSlot s c _ (by exact id)
  · exact .refl c s

theorem serveLine_step : SlotStep c s (serveLine s c) := by
  simp only [serveLine]
  split_ifs
  · exact .refl c s
  · exact .setSlot s c _ (by exact id)
  · exact (SlotStep.setSlot s c _ (by exact id)).trans (sendWrite_step _ c)
  · exact (SlotStep.setSlot s c _ (by exact id)).trans (sendChallenge_step _ c _)
  · exact .refl c s

theorem rejectSlot_step (r : RejectReason) : SlotStep c s (rejectSlot s c r) :=
  ((SlotStep.setSlot s c _ (by exact id)).trans (raiseCartridgeState_step _ c)).trans (serveLine_step _ c)

theorem beginCheck_step : SlotStep c s (beginCheck s c) := by
  simp only [beginCheck]
  split
  · exact (SlotStep.setSlot s c _ (by exact id)).trans (sendRequest_step _ c _ _)
  · exact .refl c s

theorem takeIdentify_step (serial : Dword) (model : ModelCode) (rated : Nat) :
    SlotStep c s (takeIdentify s c serial model rated) := by
  have hset : SlotStep c s (s.setSlot c
      { (if (s.slot c).rationKnown && (s.slot c).serial == some serial then s.slot c else (s.slot c).cleared) with
        serial := some serial, model := some model, ratedYield := rated, exchange := none }) :=
    .setSlot s c _ (by split <;> exact id)
  simp only [takeIdentify]
  split
  · exact hset.trans (sendChallenge_step _ c _)
  · exact hset.trans (rejectSlot_step _ c _)

theorem takeChallenge_step (nonce response : Dword) (seq : Sequence) :
    SlotStep c s (takeChallenge s c nonce response seq) := by
  simp only [takeChallenge]
  split
  · exact (endExchange_step s c).trans (sendRequest_step _ c _ _)
  · exact (endExchange_step s c).trans (rejectSlot_step _ c _)

theorem finishCheck_step (ration : Nat) : SlotStep c s (finishCheck s c ration) := by
  simp only [finishCheck]
  refine .comp (serveLine_step _ c) ?_
  split_ifs
  · exact .comp (writeBackTest_step _ c) (.comp (becomeSpent_step _ c) (.setSlot s c _ (by exact id)))
  · exact .comp (writeBackTest_step _ c) (.comp (raiseCartridgeState_step _ c) (.comp (rationLowTest_step _ c)
      (.comp (.setSlot _ c _ (by exact id)) (.setSlot s c _ (by exact id)))))
  · exact .comp (becomeSpent_step _ c) (.setSlot s c _ (by exact id))
  · exact .comp (raiseCartridgeState_step _ c) (.comp (rationLowTest_step _ c)
      (.comp (.setSlot _ c _ (by exact id)) (.setSlot s c _ (by exact id))))

theorem finishRecheck_step (ration : Nat) : SlotStep c s (finishRecheck s c ration) := by
  simp only [finishRecheck]
  refine .comp (serveLine_step _ c) ?_
  split_ifs
  · exact .comp (rationLowTest_step _ c) (.comp (becomeSpent_step _ c) (.setSlot s c _ (by exact id)))
  · exact .comp (rationLowTest_step _ c) (.setSlot s c _ (by exact id))
  · exact .setSlot s c _ (by exact id)

theorem takeWrite_step (ration : Nat) : SlotStep c s (takeWrite s c ration) := by
  simp only [takeWrite]
  refine .comp (serveLine_step _ c) (.comp (writeBackTest_step _ c) ?_)
  split_ifs
  · exact .comp (rationLowTest_step _ c) (.comp (becomeSpent_step _ c) (.setSlot s c _ (by exact id)))
  · exact .comp (rationLowTest_step _ c) (.setSlot s c _ (by exact id))
  · exact .setSlot s c _ (by exact id)

theorem exchangeLimit_step : SlotStep c s (exchangeLimit s c) := by
  simp only [exchangeLimit]
  split
  · exact ((SlotStep.setSlot s c _ (by exact id)).trans (raiseCartridgeState_step _ c)).trans (serveLine_step _ c)
  · exact .refl c s

theorem tickExchange_step : SlotStep c s (tickExchange s c) := by
  simp only [tickExchange]
  split
  · exact .refl c s
  · split
    · exact (SlotStep.setSlot s c _ (by exact id)).trans (exchangeLimit_step _ c)
    · exact .setSlot s c _ (by exact id)

theorem requestRecheck_step : SlotStep c s (requestRecheck s c) := by
  simp only [requestRecheck]
  split_ifs
  · exact sendChallenge_step s c _
  · exact .refl c s
  · exact .setSlot s c _ (by exact id)

theorem raiseChange_step : SlotStep c s (raiseChange s c) := (SlotStep.setSlot s c _ (by exact id)).trans (.raise _ c _ _)

theorem debouncedRise_step : SlotStep c s (debouncedRise s c) :=
  (SlotStep.setSlot s c _ fun _ => by simp).trans (raiseChange_step _ c)

theorem debouncedFall_step : SlotStep c s (debouncedFall s c) := by
  simp only [debouncedFall]
  refine SlotStep.trans ?_ (raiseChange_step _ c)
  split
  · exact ((SlotStep.setSlot s c _ (by exact id)).trans (appendHistory_step _ c c _)).trans (.setSlot _ c _ (by exact id))
  · exact (SlotStep.setSlot s c _ (by exact id)).trans (.setSlot _ c _ (by exact id))

theorem samplePresence_step (line : Bool) : SlotStep c s (samplePresence s c line) := by
  simp only [samplePresence]
  split_ifs
  · exact .setSlot s c _ (by exact id)
  · exact .setSlot s c _ (by exact id)
  · exact (SlotStep.setSlot s c _ (by exact id)).trans (debouncedRise_step _ c)
  · exact (SlotStep.setSlot s c _ (by exact id)).trans (debouncedFall_step _ c)

theorem bookDeposit_step (deposit : Nat) (serial : Option Dword) : SlotStep c s (bookDeposit s c deposit serial) := by
  simp only [bookDeposit]
  split_ifs
  · exact .setSlot s c _ (by exact id)
  · exact .comp (rationLowTest_step _ c) (.comp (writeBackTest_step _ c)
      (.comp (becomeSpent_step _ c) (.setSlot s c _ (by exact id))))
  · exact .comp (rationLowTest_step _ c) (.comp (writeBackTest_step _ c) (.setSlot s c _ (by exact id)))
  · exact .comp (writeBackTest_step _ c) (.comp (becomeSpent_step _ c) (.setSlot s c _ (by exact id)))
  · exact .comp (writeBackTest_step _ c) (.setSlot s c _ (by exact id))
  · exact .setSlot s c _ (by exact id)

theorem pathResetSlot_step : SlotStep c s (pathResetSlot s c) := by
  simp only [pathResetSlot]
  split
  · exact .setSlot s c _ (by exact id)
  · exact .refl c s

theorem recordWriteCount_step (n : Half) : SlotStep c s (recordWriteCount s c n) := .setSlot s c _ (by exact id)

@[simp] theorem slot_recordWriteCount (n : Half) :
    (recordWriteCount s c n).slot c = { s.slot c with writeCount := n.toNat } := s.slot_setSlot_self c _

theorem takeAnswer_step (a : TagAnswer) : SlotStep c s (takeAnswer s c a) := by
  unfold takeAnswer
  split
  · exact takeIdentify_step s c _ _ _
  · exact takeChallenge_step s c _ _ _
  · exact (recordWriteCount_step s c _).trans (finishCheck_step _ c _)
  · exact (recordWriteCount_step s c _).trans (finishRecheck_step _ c _)
  · exact (recordWriteCount_step s c _).trans (takeWrite_step _ c _)
  · exact .refl c s

theorem riseEvent_step : SlotStep c s (riseEvent s c) := by
  simp only [riseEvent]
  split
  · exact .refl c s
  · exact (SlotStep.setSlot s c _ (by exact id)).trans (debouncedRise_step _ c)

theorem fallEvent_step : SlotStep c s (fallEvent s c) := by
  simp only [fallEvent]
  split
  · exact (SlotStep.setSlot s c _ (by exact id)).trans (debouncedFall_step _ c)
  · exact .refl c s

end

end Sys2Proof.Machine

/-! PROOFS. The law of verified slots (R111) through the operations of the Cartridge Unit: mirror ≤ confirmed ration ≤
rated yield, an exchange of a full check on a CHECKING slot, and a slot with its level low EMPTY and silent. -/

namespace Sys2Proof.Machine

section
variable {s : State} {c : Fin 4}

theorem rationLowTest_law (h : (s.slot c).RationLaw) : ((rationLowTest s c).slot c).RationLaw := by
  rw [slot_rationLowTest]
  split
  · exact h.congr rfl
  · exact h

theorem becomeSpent_law (h : (s.slot c).RationLaw) (hv : (s.slot c).state.verified = true) :
    ((becomeSpent s c).slot c).RationLaw := by
  rw [slot_becomeSpent]; exact h.spent hv

/-- A line of a slot that is GENUINE or SPENT may begin an exchange that is no full check's. -/
theorem sendRequest_law {q : TagRequest} {seq : Sequence} (h : (s.slot c).RationLaw)
    (hl : (s.slot c).level = true) (hc : seq = .check ∨ q = .identify → (s.slot c).state = .checking) :
    ((sendRequest s c q seq).slot c).RationLaw := by
  rw [slot_sendRequest]; exact h.request hl hc

theorem sendWrite_law (h : (s.slot c).RationLaw) (hl : (s.slot c).level = true) :
    ((sendWrite s c).slot c).RationLaw := sendRequest_law h hl (by simp)

theorem sendChallenge_law {seq : Sequence} (h : (s.slot c).RationLaw) (hl : (s.slot c).level = true)
    (hc : seq = .check → (s.slot c).state = .checking) : ((sendChallenge s c seq).slot c).RationLaw := by
  rw [slot_sendChallenge]; exact h.request hl (by simpa using hc)

theorem writeBackTest_law (h : (s.slot c).RationLaw) : ((writeBackTest s c).slot c).RationLaw := by
  simp only [writeBackTest]
  split
  next ht =>
    simp only [Bool.and_eq_true] at ht
    split
    · exact sendWrite_law h (h.level_of_verified ht.1)
    · exact h
    · rw [State.slot_setSlot_self]; exact h.congr rfl
  next => exact h

theorem serveLine_law (h : (s.slot c).RationLaw) : ((serveLine s c).slot c).RationLaw := by
  simp only [serveLine]
  have hlevel (hv : ¬(!(s.slot c).state.verified) = true) : (s.slot c).level = true :=
    h.level_of_verified (by simpa using hv)
  split_ifs with _ hv
  · exact h
  · rw [State.slot_setSlot_self]; exact h.congr rfl
  · exact sendWrite_law (by rw [State.slot_setSlot_self]; exact h.congr rfl)
      (by rw [State.slot_setSlot_self]; exact hlevel hv)
  · exact sendChallenge_law (by rw [State.slot_setSlot_self]; exact h.congr rfl)
      (by rw [State.slot_setSlot_self]; exact hlevel hv) (by simp)
  · exact h

/-- A slot with its line free is refused. -/
theorem rejectSlot_law {r : RejectReason} (hl : (s.slot c).level = true) (he : (s.slot c).exchange = none) :
    ((rejectSlot s c r).slot c).RationLaw := by
  refine serveLine_law ?_
  rw [slot_raiseCartridgeState, State.modSlot, State.slot_setSlot_self]
  exact .of_free hl he (by simp [CartridgeState.verified])

theorem beginCheck_law (h : (s.slot c).RationLaw) : ((beginCheck s c).slot c).RationLaw := by
  simp only [beginCheck]
  split
  next hs =>
    have hl : (s.slot c).level = true := h.level_of_state (by simp [hs.1])
    refine sendRequest_law ?_ ?_ ?_
    all_goals rw [State.modSlot, State.slot_setSlot_self]
    · exact .of_free hl hs.2 (by simp [CartridgeState.verified])
    · exact hl
    · simp
  next => exact h

theorem takeIdentify_law {serial : Dword} {model : ModelCode} {rated : Nat} (hl : (s.slot c).level = true)
    (hs : (s.slot c).state = .checking) : ((takeIdentify s c serial model rated).slot c).RationLaw := by
  simp only [takeIdentify]
  generalize hx : ({ (if (s.slot c).rationKnown && (s.slot c).serial == some serial then s.slot c
    else (s.slot c).cleared) with serial := some serial, model := some model, ratedYield := rated, exchange := none } :
      Cartridge) = x
  have hxl : x.level = true := by subst hx; dsimp only; split <;> exact hl
  have hxs : x.state = .checking := by subst hx; dsimp only; split <;> exact hs
  have hxe : x.exchange = none := by subst hx; rfl
  split
  · refine sendChallenge_law ?_ ?_ ?_
    all_goals rw [State.slot_setSlot_self]
    · exact .of_free hxl hxe (by simp [hxs, CartridgeState.verified])
    · exact hxl
    · simp [hxs]
  · exact rejectSlot_law (by rw [State.slot_setSlot_self]; exact hxl) (by rw [State.slot_setSlot_self]; exact hxe)

theorem takeChallenge_law {nonce response : Dword} {seq : Sequence} (h : (s.slot c).RationLaw)
    (hl : (s.slot c).level = true) (hc : seq = .check → (s.slot c).state = .checking) :
    ((takeChallenge s c nonce response seq).slot c).RationLaw := by
  simp only [takeChallenge]
  split
  · refine sendRequest_law ?_ ?_ ?_
    all_goals rw [slot_endExchange]
    · exact h.freed
    · exact hl
    · simpa using hc
  · exact rejectSlot_law (by rw [slot_endExchange]; exact hl) (by rw [slot_endExchange])

theorem finishCheck_law {ration : Nat} (hl : (s.slot c).level = true) :
    ((finishCheck s c ration).slot c).RationLaw := by
  simp only [finishCheck]
  generalize hm : (if (s.slot c).rationKnown then min (s.slot c).mirror (min ration (s.slot c).ratedYield)
    else min ration (s.slot c).ratedYield) = m
  generalize hx : ({ s.slot c with
    mirror := m, confirmed := min ration (s.slot c).ratedYield, rationKnown := true, exchange := none } : Cartridge) = x
  have hle : m ≤ min ration (s.slot c).ratedYield := by subst hm; split <;> omega
  have hcounts : x.mirror ≤ x.confirmed ∧ x.confirmed ≤ x.ratedYield := by
    subst hx; exact ⟨hle, Nat.min_le_right ..⟩
  have hxl : x.level = true := by subst hx; exact hl
  have hxe : x.exchange = none := by subst hx; rfl
  have hspent : ((becomeSpent (s.setSlot c x) c).slot c).RationLaw := by
    rw [slot_becomeSpent, State.slot_setSlot_self]
    exact .of_free hxl hxe fun _ => hcounts
  have hgenuine : ((raiseCartridgeState (rationLowTest ((s.setSlot c x).modSlot c fun y =>
      { y with state := .genuine }) c) c).slot c).RationLaw := by
    rw [slot_raiseCartridgeState]
    refine rationLowTest_law ?_
    rw [State.modSlot, State.slot_setSlot_self, State.slot_setSlot_self]
    exact .of_free hxl hxe fun _ => hcounts
  refine serveLine_law ?_
  split_ifs
  · exact writeBackTest_law hspent
  · exact writeBackTest_law hgenuine
  · exact hspent
  · exact hgenuine

/-- The answer that ends a recheck or a write: whatever the slot, its counts are in order and its line free; a GENUINE
slot with nothing left becomes SPENT, and a mirror that fell is tested. -/
theorem answered_law {x : Cartridge} (hl : x.level = true) (he : x.exchange = none) (hm : x.mirror ≤ x.confirmed)
    (hr : x.confirmed ≤ x.ratedYield) {p q : Prop} [Decidable p] [Decidable q] (hq : q → x.state = .genuine) :
    ((if p then rationLowTest (if q then becomeSpent (s.setSlot c x) c else s.setSlot c x) c
      else s.setSlot c x).slot c).RationLaw := by
  have hx : ((s.setSlot c x).slot c).RationLaw := by
    rw [State.slot_setSlot_self]; exact .of_free hl he fun _ => ⟨hm, hr⟩
  split_ifs with _ hgen
  · refine rationLowTest_law (becomeSpent_law hx ?_)
    simp [hq hgen, CartridgeState.verified]
  · exact rationLowTest_law hx
  · exact hx

theorem finishRecheck_law {ration : Nat} (hl : (s.slot c).level = true) :
    ((finishRecheck s c ration).slot c).RationLaw :=
  serveLine_law (answered_law (by exact hl) rfl (Nat.min_le_right ..) (Nat.min_le_right ..) (fun h => h.2))

theorem takeWrite_law {ration : Nat} (hl : (s.slot c).level = true) : ((takeWrite s c ration).slot c).RationLaw :=
  serveLine_law (writeBackTest_law
    (answered_law (by exact hl) rfl (Nat.min_le_right ..) (Nat.min_le_right ..) (fun h => h.2)))

theorem exchangeLimit_law (h : (s.slot c).RationLaw) : ((exchangeLimit s c).slot c).RationLaw := by
  simp only [exchangeLimit]
  split
  next he =>
    have hl : (s.slot c).level = true := h.level_of_exchange (Option.isSome_iff_ne_none.mp he)
    refine serveLine_law ?_
    rw [slot_raiseCartridgeState, State.modSlot, State.slot_setSlot_self]
    exact .of_free hl rfl (by simp [CartridgeState.verified])
  next => exact h

/-- The ticks of an exchange are not in the law. -/
theorem Cartridge.RationLaw.ticked {x : Cartridge} {e : Exchange} (h : x.RationLaw) (he : x.exchange = some e) (n : Nat) :
    ({ x with exchange := some { e with elapsed := n } } : Cartridge).RationLaw := by
  have hl : x.level = true := h.level_of_exchange (by simp [he])
  obtain ⟨hv, hc, -⟩ := h
  refine ⟨hv, ?_, fun hlow => absurd hlow (by simp [hl])⟩
  rintro f ⟨⟩
  exact hc e he

theorem tickExchange_law (h : (s.slot c).RationLaw) : ((tickExchange s c).slot c).RationLaw := by
  simp only [tickExchange]
  split
  next => exact h
  next e he =>
    have hticked : ((s.modSlot c fun x => { x with exchange := some { e with elapsed := e.elapsed + 1 } }).slot
        c).RationLaw := by
      rw [State.modSlot, State.slot_setSlot_self]; exact h.ticked he _
    split
    · exact exchangeLimit_law hticked
    · exact hticked

theorem requestRecheck_law (h : (s.slot c).RationLaw) (hl : (s.slot c).level = true) :
    ((requestRecheck s c).slot c).RationLaw := by
  simp only [requestRecheck]
  split_ifs
  · exact sendChallenge_law h hl (by simp)
  · exact h
  · rw [State.slot_setSlot_self]; exact h.congr rfl

theorem raiseChange_law (h : (s.slot c).RationLaw) : ((raiseChange s c).slot c).RationLaw := by
  rw [raiseChange, State.slot_raise, State.slot_setSlot_self]; exact h.congr rfl

/-- A rise finds the slot silent, so the slot of a new cartridge is in order. -/
theorem debouncedRise_law (he : (s.slot c).exchange = none) : ((debouncedRise s c).slot c).RationLaw := by
  refine raiseChange_law ?_
  rw [State.modSlot, State.slot_setSlot_self]
  exact .of_free rfl he (by simp [CartridgeState.verified])

theorem debouncedFall_law : ((debouncedFall s c).slot c).RationLaw := by
  refine raiseChange_law ?_
  rw [State.modSlot, State.slot_setSlot_self]
  refine ⟨by simp [CartridgeState.verified], by simp, fun _ => ⟨rfl, rfl⟩⟩

theorem samplePresence_law {line : Bool} (h : (s.slot c).RationLaw) : ((samplePresence s c line).slot c).RationLaw := by
  simp only [samplePresence]
  split_ifs with hline _ hhigh
  · rw [State.slot_setSlot_self]; exact h.congr rfl
  · rw [State.slot_setSlot_self]; exact h.congr rfl
  · refine debouncedRise_law ?_
    rw [State.slot_setSlot_self]
    exact (h.2.2 (by simpa [hhigh] using hline)).2
  · exact debouncedFall_law

theorem bookDeposit_law {deposit : Nat} {serial : Option Dword} (h : (s.slot c).RationLaw) :
    ((bookDeposit s c deposit serial).slot c).RationLaw := by
  simp only [bookDeposit]
  have hbooked (n m : Nat) : ((s.setSlot c { s.slot c with
      developed := n, mirror := (s.slot c).mirror - deposit, overdraw := m }).slot c).RationLaw := by
    rw [State.slot_setSlot_self]; exact (h.lower (Nat.sub_le ..)).congr rfl
  have hspent (n m : Nat) (hg : (s.slot c).state = .genuine) : ((becomeSpent (s.setSlot c { s.slot c with
      developed := n, mirror := (s.slot c).mirror - deposit, overdraw := m }) c).slot c).RationLaw :=
    becomeSpent_law (hbooked n m) (by rw [State.slot_setSlot_self]; simp [hg, CartridgeState.verified])
  split_ifs with _ _ _ hlast hlast
  · exact hbooked _ _
  · exact rationLowTest_law (writeBackTest_law (hspent _ _ hlast.2.2))
  · exact rationLowTest_law (writeBackTest_law (hbooked _ _))
  · exact writeBackTest_law (hspent _ _ hlast.2.2)
  · exact writeBackTest_law (hbooked _ _)
  · rw [State.slot_setSlot_self]; exact h.congr rfl

theorem pathResetSlot_law (h : (s.slot c).RationLaw) : ((pathResetSlot s c).slot c).RationLaw := by
  simp only [pathResetSlot]
  split
  next he =>
    rw [State.slot_setSlot_self]
    refine .of_free (h.level_of_exchange (Option.isSome_iff_ne_none.mp he)) rfl fun hv => h.1 ?_
    revert hv
    dsimp only
    split
    · simp [CartridgeState.verified]
    · exact id
  next => exact h

/-- A good answer keeps the law: the exchange that waits for it tells the state and the level of the slot. -/
theorem takeAnswer_law {a : TagAnswer} (h : (s.slot c).RationLaw) : ((takeAnswer s c a).slot c).RationLaw := by
  have hlevel {e : Exchange} (he : (s.slot c).exchange = some e) : (s.slot c).level = true :=
    h.level_of_exchange (by simp [he])
  have hchecking {e : Exchange} (he : (s.slot c).exchange = some e) := h.2.1 e he
  unfold takeAnswer
  split
  next he => exact takeIdentify_law (hlevel he) (hchecking he (.inr rfl))
  next he => exact takeChallenge_law h (hlevel he) fun hseq => hchecking he (.inl hseq)
  next he => exact finishCheck_law (by rw [slot_recordWriteCount]; exact hlevel he)
  next he => exact finishRecheck_law (by rw [slot_recordWriteCount]; exact hlevel he)
  next he => exact takeWrite_law (by rw [slot_recordWriteCount]; exact hlevel he)
  next => exact h

theorem riseEvent_law (h : (s.slot c).RationLaw) : ((riseEvent s c).slot c).RationLaw := by
  simp only [riseEvent]
  split
  next => exact h
  next hl =>
    refine debouncedRise_law ?_
    rw [State.modSlot, State.slot_setSlot_self]
    exact (h.2.2 (by simpa using hl)).2

theorem fallEvent_law (h : (s.slot c).RationLaw) : ((fallEvent s c).slot c).RationLaw := by
  simp only [fallEvent]
  split
  · exact debouncedFall_law
  · exact h

end

end Sys2Proof.Machine

/-! PROOFS. Every block's operations keep the limits (`Keeps`): keys, channels, accounts, jobs, pages, scans, tracker. -/

namespace Sys2Proof.Machine

/-- The last operation first, as the operations are written. -/
theorem Keeps.comp {s t u : State} (k : Keeps t u) (h : Keeps s t) : Keeps s u := h.trans k

/-! ### Key Table -/

section
variable (s : State) (k : Fin 64)

theorem setKey_keeps (x : KeySlot) : Keeps s (s.setKey k x) := .of_same rfl

theorem requestKeyRow_keeps (kind : RowRequest) : Keeps s (requestKeyRow s k kind) :=
  .comp (setKey_keeps _ k _) (request_keeps s _)

theorem freeErased_keeps : Keeps s (freeErased s k) := .comp (raise_keeps _ _ _) (setKey_keeps s k _)

theorem enterErasing_keeps (cause : EraseCause) : Keeps s (enterErasing s k cause) := by
  simp only [enterErasing]
  split
  · exact .comp (requestKeyRow_keeps _ k _) (setKey_keeps s k _)
  · exact .comp (freeErased_keeps _ k) (.comp (requestKeyRow_keeps _ k _) (setKey_keeps s k _))

theorem zeroiseActive_keeps : Keeps s (zeroiseActive s k) := .of_same rfl

theorem drawKeys_keeps (owner : Nat) (h : Fin 16) : Keeps s (drawKeys s k owner h) := .of_same rfl

theorem useRelease_keeps (h : Fin 16) : Keeps s (useRelease s k h) :=
  .comp (requestKeyRow_keeps _ k _) (setKey_keeps s k _)

theorem retainScan_keeps (e : EgressEntry) : Keeps s (retainScan s k e) :=
  .comp (requestKeyRow_keeps _ k _) (setKey_keeps s k _)

theorem disposeRelease_keeps : Keeps s (disposeRelease s k) := by
  simp only [disposeRelease]
  split_ifs
  · exact .comp (enterErasing_keeps _ k _) (setKey_keeps s k _)
  · exact .comp (enterErasing_keeps _ k _) (setKey_keeps s k _)
  · exact setKey_keeps s k _

theorem sweepSlot_keeps : Keeps s (sweepSlot s k) := by
  have herase : Keeps s (if expired s.now (s.key k) && (s.key k).naming.isNone then enterErasing s k .expired else s) := by
    split
    · exact enterErasing_keeps s k _
    · exact .refl s
  simp only [sweepSlot]
  split
  · exact herase
  · exact .comp (requestKeyRow_keeps _ k _) herase

theorem keySweep_keeps : Keeps s (keySweep s) := .foldl _ sweepSlot_keeps s

theorem sanitizeSlot_keeps : Keeps s (sanitizeSlot s k) := by
  simp only [sanitizeSlot]
  cases (s.key k).state with
  | free => exact .refl s
  | active => exact setKey_keeps s k _
  | retained =>
    dsimp only
    split
    · exact setKey_keeps s k _
    · exact enterErasing_keeps s k _
  | erasing => exact .refl s

theorem sanitizeKeys_keeps : Keeps s (sanitizeKeys s) := .foldl _ sanitizeSlot_keeps s

theorem regionErasedSlot_keeps : Keeps s (regionErasedSlot s k) := by
  simp only [regionErasedSlot]
  split
  · exact .comp (freeErased_keeps _ k) (setKey_keeps s k _)
  · exact setKey_keeps s k _

theorem keyRegionErased_keeps : Keeps s (keyRegionErased s) := .foldl _ regionErasedSlot_keeps s

theorem keyReport_keeps (g : Half) (erase completed : Bool) : Keeps s (keyReport s k g erase completed) := by
  simp only [keyReport]
  split
  · cases erase <;> cases completed <;> dsimp only
    · exact setKey_keeps s k _
    · exact setKey_keeps s k _
    · split
      · exact setKey_keeps s k _
      · exact .refl s
    · split
      · exact .comp (freeErased_keeps _ k) (setKey_keeps s k _)
      · exact setKey_keeps s k _
  · exact .refl s

end

/-! ### Channels -/

theorem setChannel_keeps (s : State) (c : Fin 4) (x : Channel) (hx : (s.channel c).InRange → x.InRange) :
    Keeps s (s.setChannel c x) where
  commands := id
  notices := id
  buffer := id
  entries := id
  queue := id
  time := id
  channels d := by
    by_cases hd : d = c
    · subst hd; rw [State.channel_setChannel_self]; exact hx
    · rw [State.channel_setChannel_of_ne s x hd]; exact id
  residues _ := id
  rations _ := id
  egress := id
  memory := id

namespace Channel

theorem InRange.applyStaged_period {x : Channel} (h : x.InRange) : 0 < x.applyStaged.period := by
  obtain ⟨hc, -, hp⟩ := h
  simp only [Channel.applyStaged]
  split
  next hs => exact hp _ hs
  next => omega

theorem staged_applyStaged (x : Channel) : x.applyStaged.staged = none := by
  simp only [Channel.applyStaged]
  split
  · rfl
  next hs => exact hs

theorem InRange.start {x : Channel} (h : x.InRange) : x.start.InRange :=
  ⟨h.applyStaged_period, fun hr => absurd hr (by simp [Channel.start]), by
    intro y hy; simp [Channel.start, staged_applyStaged] at hy⟩

theorem InRange.requestStop {x : Channel} (h : x.InRange) : x.requestStop.InRange := by
  simp only [Channel.requestStop]
  split
  next hr => exact ⟨h.1, fun hn => absurd hn (by simp [hr]), h.2.2⟩
  next => exact h

theorem InRange.halt {x : Channel} (h : x.InRange) : x.halt.InRange :=
  ⟨by simp only [Channel.halt]; have := h.1; omega, fun _ => ⟨rfl, rfl⟩, h.2.2⟩

theorem InRange.settings {x : Channel} (h : x.InRange) {tap : Tap} {p : Nat} (hp : 1 ≤ p) :
    (x.settings tap p).InRange := by
  simp only [Channel.settings]
  split
  · refine ⟨h.1, h.2.1, ?_⟩
    rintro y ⟨⟩
    exact hp
  next hr =>
    simp only [Bool.or_eq_true, not_or, Bool.not_eq_true] at hr
    have h0 := h.2.1 hr.1
    refine ⟨?_, h.2.1, by simp⟩
    simp only [h0.1]
    omega

theorem InRange.run {x : Channel} (h : x.InRange) (r : RunRequest) : (x.run r).InRange := by
  cases r with
  | none => exact h
  | start => exact h.start
  | stop => exact h.requestStop

/-- A channel that expires goes back to 0, whatever it had counted to (R168). -/
theorem InRange.afterExpiry {x : Channel} (h : x.InRange) (n : Nat) (b : Bool) :
    ({ x with count := n } : Channel).afterExpiry b |>.InRange := by
  simp only [Channel.afterExpiry]
  split
  · exact ⟨by simp only [Channel.halt]; have := h.1; omega, fun _ => ⟨rfl, rfl⟩, h.2.2⟩
  next hs =>
    simp only [Bool.or_eq_true, not_or, Bool.not_eq_true] at hs
    obtain ⟨hc, hr, hp⟩ := h
    simp only [Channel.applyStaged]
    split
    next hst => exact ⟨hp _ hst, fun _ => ⟨rfl, hs.1⟩, by simp⟩
    next => exact ⟨by simp only; omega, fun _ => ⟨rfl, hs.1⟩, hp⟩

end Channel

theorem startChannel_keeps (s : State) (c : Fin 4) : Keeps s (startChannel s c) :=
  setChannel_keeps s c _ fun h => h.start

theorem stopChannel_keeps (s : State) (c : Fin 4) : Keeps s (stopChannel s c) :=
  setChannel_keeps s c _ fun h => h.requestStop

theorem touchIdle_keeps (s : State) (i : Fin 256) : Keeps s (touchIdle s i) := by
  simp only [touchIdle]
  split
  · exact startChannel_keeps s 0
  · exact .refl s

/-! ### Accounts -/

section
variable (s : State) (i : Fin 256)

theorem setAccount_keeps (a : Account) : Keeps s (s.setAccount i a) := .of_same rfl

theorem commitAccount_keeps : Keeps s (commitAccount s i) := request_keeps s _

theorem storeAccount_keeps (a : Account) : Keeps s (storeAccount s i a) :=
  .comp (commitAccount_keeps _ i) (setAccount_keeps s i _)

theorem releaseReservation_keeps (n : Nat) : Keeps s (releaseReservation s i n) := .of_same rfl

theorem charge_keeps (n : Nat) (cls : TariffClass) : Keeps s (charge s i n cls) := by
  simp only [charge]
  split
  · exact .comp (commitAccount_keeps _ i) (.comp (setAccount_keeps _ i _) (setAccount_keeps s i _))
  · exact setAccount_keeps s i _

theorem meterFlush_keeps : Keeps s (meterFlush s) := by
  have hflush : Keeps s ((dirtyAccounts s).foldl
      (fun s i => commitAccount (s.modAccount i fun a => { a with sinceFlush := 0 }) i) s) :=
    .foldl _ (fun t j => .comp (commitAccount_keeps _ j) (setAccount_keeps t j _)) s
  simp only [meterFlush]
  split
  · exact .comp (request_keeps _ _) hflush
  · exact hflush

theorem sessionExpiry_keeps : Keeps s (sessionExpiry s) := by
  simp only [sessionExpiry]
  split
  · exact .comp (raise_keeps _ _ _) (.of_same (by rfl))
  · exact .refl s

theorem wipeAccounts_keeps : Keeps s (wipeAccounts s) := .comp (stopChannel_keeps _ 0) (.of_same (by rfl))

theorem admissionOf_keeps {n price : Nat} {allowed : Bool} {t : State}
    (h : admissionOf s i n allowed = .admitted t price) : Keeps s t := by
  simp only [admissionOf] at h
  split_ifs at h
  cases h
  exact .comp (touchIdle_keeps _ i) (setAccount_keeps s i _)

end

/-! ### Jobs -/

section
variable (s : State) (h : Fin 16)

/-- The tracker's entries may change as long as there are no more of them. -/
theorem Keeps.of_entries {s t : State} (he : s.st.entries.length ≤ 24 → t.st.entries.length ≤ 24)
    (h : t.limited = { s.limited with entries := t.st.entries }) : Keeps s t := by
  obtain ⟨hc, hn, hb, -, hms, htb, hs, heg⟩ := Limited.mk.inj h
  have h : Keeps s { t with st := { t.st with entries := s.st.entries } } :=
    .of_same (by simp only [State.limited, hc, hn, hb, hms, htb, hs, heg])
  exact { h with entries := he }

/-- Frames may leave the scan output buffer, or one may enter it while there is room. -/
theorem Keeps.of_buffer {s t : State} (hb : s.sp.buffer.length ≤ 8 → t.sp.buffer.length ≤ 8)
    (h : t.limited = { s.limited with buffer := t.sp.buffer }) : Keeps s t := by
  obtain ⟨hc, hn, -, he, hms, htb, hs, heg⟩ := Limited.mk.inj h
  have h : Keeps s { t with sp := { t.sp with buffer := s.sp.buffer } } :=
    .of_same (by simp only [State.limited, hc, hn, he, hms, htb, hs, heg])
  exact { h with buffer := hb }

/-- Frames may enter the command queue while there is room, or leave it. -/
theorem Keeps.of_commands {s t : State} (hc : s.li.commandQueue.length ≤ 4 → t.li.commandQueue.length ≤ 4)
    (h : t.limited = { s.limited with commands := t.li.commandQueue }) : Keeps s t := by
  obtain ⟨-, hn, hb, he, hms, htb, hs, heg⟩ := Limited.mk.inj h
  have h : Keeps s { t with li := { t.li with commandQueue := s.li.commandQueue } } :=
    .of_same (by simp only [State.limited, hn, hb, he, hms, htb, hs, heg])
  exact { h with commands := hc }

theorem modOpenEntry_keeps (t : Tag) (f : Entry → Entry) : Keeps s (modOpenEntry s t f) :=
  .of_entries (by simp [modOpenEntry]) rfl

theorem sendVoid_keeps (t : Tag) : Keeps s (sendVoid s t) := by
  simp only [sendVoid]
  split <;> exact .of_same rfl

theorem voidOpenPage_keeps : Keeps s (voidOpenPage s) := by
  simp only [voidOpenPage]
  split
  · exact .refl s
  next p _ =>
    exact ((sendVoid_keeps s p.tag).trans (modOpenEntry_keeps _ p.tag fun e => { e with status := .void })).trans
      (.of_notices (State.raise_notices_length _ _ _) rfl)

theorem disposeKey_keeps : Keeps s (disposeKey s h) := by
  simp only [disposeKey]
  split
  · exact .refl s
  · split
    · exact disposeRelease_keeps s _
    · split
      · exact zeroiseActive_keeps s _
      · exact retainScan_keeps s _ _

theorem completeDrain_keeps : Keeps s (completeDrain s h) :=
  .comp (.of_same (by rfl)) (.comp (raise_keeps _ _ _) (disposeKey_keeps s h))

theorem drainTest_keeps : Keeps s (drainTest s h) := by
  simp only [drainTest]
  split
  · exact completeDrain_keeps s h
  · exact .refl s

theorem voidScanPage_keeps : Keeps s (voidScanPage s) := by
  simp only [voidScanPage]
  split
  · exact .refl s
  · exact .comp (drainTest_keeps _ _) (.of_notices (State.raise_notices_length _ _ _) rfl)

theorem voidPagesOf_keeps : Keeps s (voidPagesOf s h) := by
  have hopen : Keeps s (if s.hasOpenPage h then voidOpenPage s else s) := .ite (voidOpenPage_keeps s) (.refl s)
  exact .ite (.comp (voidScanPage_keeps _) hopen) hopen

theorem dropAnnounced_keeps : Keeps s (dropAnnounced s h) := by
  simp only [dropAnnounced]
  split
  · exact .of_same rfl
  · exact .refl s

theorem holdJob_keeps (r : Reason) : Keeps s (holdJob s h r) := by
  have hheld : Keeps s (((dropAnnounced (voidPagesOf s h) h).modJob h fun j =>
      { j with state := .held, reason := some r }).raise .jobHeld [.u8 h, .u8 r.code]) :=
    .comp (raise_keeps _ _ _) (.comp (.of_same (by rfl)) (.comp (dropAnnounced_keeps _ h) (voidPagesOf_keeps s h)))
  simp only [holdJob]
  cases (s.job h).state with
  | active => exact hheld
  | held => exact hheld
  | free => exact .refl s
  | draining => exact .refl s

theorem discardFrames_keeps : Keeps s (discardFrames s h) := by
  refine .of_buffer (fun hb => ?_) rfl
  have hle (l : List ScanFrame) : (l.filter fun f => f.tag.job != h).length ≤ l.length := List.length_filter_le _ l
  simp only [discardFrames]
  split
  next f rest _ hbuf =>
    rw [hbuf] at hb
    simp only [List.length_cons] at hb ⊢
    have := hle rest
    omega
  next => exact (hle _).trans hb

theorem beginDrain_keeps (cancel : Bool) : Keeps s (beginDrain s h cancel) := by
  have hvoid : Keeps s (dropAnnounced (voidPagesOf s h) h) :=
    .comp (dropAnnounced_keeps _ h) (voidPagesOf_keeps s h)
  simp only [beginDrain]
  split
  · exact .comp (.of_same (by rfl)) (.comp (discardFrames_keeps _ h) hvoid)
  · exact .comp (.of_same (by rfl)) hvoid

theorem cancelDraining_keeps : Keeps s (cancelDraining s h) := .comp (discardFrames_keeps _ h) (.of_same (by rfl))

theorem sanitizeJob_keeps : Keeps s (sanitizeJob s h) := by
  have hcancel : Keeps s ((beginDrain s h true).modJob h fun j => { j with reason := some .sanitize }) :=
    .comp (.of_same (by rfl)) (beginDrain_keeps s h true)
  simp only [sanitizeJob]
  split
  · exact .refl s
  · cases (s.job h).state with
    | free => exact .refl s
    | draining => exact .comp (.of_same (by rfl)) (cancelDraining_keeps s h)
    | active => exact hcancel
    | held => exact hcancel

theorem sanitizeJobs_keeps : Keeps s (sanitizeJobs s) :=
  .comp (.foldl _ drainTest_keeps _) (.foldl _ sanitizeJob_keeps s)

end

/-! ### Cartridge Unit -/

section
variable (s : State) (c : Fin 4)

theorem serveLine_keeps : Keeps s (serveLine s c) := (serveLine_step s c).keeps serveLine_law
theorem beginCheck_keeps : Keeps s (beginCheck s c) := (beginCheck_step s c).keeps beginCheck_law
theorem takeAnswer_keeps (a : TagAnswer) : Keeps s (takeAnswer s c a) := (takeAnswer_step s c a).keeps takeAnswer_law
theorem exchangeLimit_keeps : Keeps s (exchangeLimit s c) := (exchangeLimit_step s c).keeps exchangeLimit_law
theorem tickExchange_keeps : Keeps s (tickExchange s c) := (tickExchange_step s c).keeps tickExchange_law
theorem samplePresence_keeps (line : Bool) : Keeps s (samplePresence s c line) :=
  (samplePresence_step s c line).keeps samplePresence_law
theorem riseEvent_keeps : Keeps s (riseEvent s c) := (riseEvent_step s c).keeps riseEvent_law
theorem fallEvent_keeps : Keeps s (fallEvent s c) := (fallEvent_step s c).keeps fallEvent_law
theorem pathResetSlot_keeps : Keeps s (pathResetSlot s c) := (pathResetSlot_step s c).keeps pathResetSlot_law
theorem bookDeposit_keeps (d : Nat) (serial : Option Dword) : Keeps s (bookDeposit s c d serial) :=
  (bookDeposit_step s c d serial).keeps bookDeposit_law

theorem requestRecheck_keeps (hv : (s.slot c).state.verified = true) : Keeps s (requestRecheck s c) :=
  (requestRecheck_step s c).keeps fun h => requestRecheck_law h (h.level_of_verified hv)

theorem recheckExpiry_keeps : Keeps s (recheckExpiry s) := by
  refine .comp (.foldl _ (fun t p => request_keeps t _) _) (.foldl _ (fun t d => ?_) s)
  split
  next hg => exact requestRecheck_keeps t d (by rw [hg]; rfl)
  next => exact .refl t

theorem tagBytes_keeps (frame : List Byte) : Keeps s (tagBytes s c frame) := by
  simp only [tagBytes]
  split
  · exact takeAnswer_keeps s c _
  · exact .refl s

end

/-! ### Deposit Meter and pages -/

section
variable (s : State)

/-- A conversion replaces the residue by a remainder (R73). -/
theorem convertPlane_keeps (acc : Vector Accum 4) (c : Fin 4) : Keeps s (convertPlane acc s c).1 :=
  (SlotStep.setSlot s c _ fun _ => by simp only [Cartridge.ResidueLaw, depositScale]; omega).keeps
    fun h => by rw [State.slot_setSlot_self]; exact h.congr rfl

theorem convertPlanes_keeps (acc : Vector Accum 4) (l : List (Fin 4)) : Keeps s (convertPlanes acc s l).1 := by
  induction l generalizing s with
  | nil => exact .refl s
  | cons c rest ih => exact .comp (ih _) (convertPlane_keeps s acc c)

theorem meterPage_keeps (p : OpenPage) : Keeps s (meterPage s p) := by
  simp only [meterPage]
  refine .withMeter ?_ _
  split
  · exact .comp (modOpenEntry_keeps _ _ _) (.comp (releaseReservation_keeps _ _ _) (convertPlanes_keeps s _ _))
  · exact convertPlanes_keeps s _ _

theorem completePage_keeps (p : OpenPage) : Keeps s (completePage s p) :=
  .comp (.of_same (by rfl)) (.comp (meterPage_keeps _ p) (.of_same (by rfl)))

theorem judgePage_keeps (p : OpenPage) : Keeps s (judgePage s p) := by
  simp only [judgePage]
  cases p.mode with
  | mono =>
    dsimp only
    split
    · exact completePage_keeps s p
    · exact .refl s
  | color =>
    dsimp only
    split_ifs
    · exact completePage_keeps s p
    · exact voidOpenPage_keeps s
    · exact .refl s

theorem forwardBand_keeps (p : OpenPage) (b : Band) : Keeps s (forwardBand s p b) := by
  simp only [forwardBand]
  split
  · exact .comp (judgePage_keeps _ _) (.of_same (by rfl))
  · exact .of_same rfl

theorem waitBand_keeps (b : Band) (r : WaitReason) : Keeps s (waitBand s b r) := .of_same rfl

theorem bandOfPage_keeps (p : OpenPage) (b : Band) : Keeps s (bandOfPage s p b) := by
  simp only [bandOfPage]
  split_ifs
  · exact waitBand_keeps s b _
  · exact forwardBand_keeps s p b
  · exact voidOpenPage_keeps s

theorem raiseRefused_keeps (h : Fin 16) (n : Nat) : Keeps s (raiseRefused s h n) := by
  simp only [raiseRefused]
  split
  · exact .refl s
  · exact .comp (raise_keeps _ _ _) (.of_same (by rfl))

theorem refuseBand_keeps (h : Fin 16) (n : Nat) : Keeps s (refuseBand s h n) :=
  .comp (raiseRefused_keeps _ h n) (.of_same (by rfl))

theorem openPageFor_keeps (b : Band) (price : Nat) (hroom : s.st.entries.length < 24) :
    Keeps s (openPageFor s b price) := by
  rw [openPageFor_eq]
  exact .comp (bandOfPage_keeps _ _ b) (.of_entries (fun _ => by simp [State.pageOpened]; omega) rfl)

theorem refuseAdmission_keeps (h : Fin 16) (r : Reason) : Keeps s (refuseAdmission s h r) :=
  .comp (.of_same (by rfl)) (holdJob_keeps s h r)

theorem admissionOf_entries {i : Fin 256} {n price : Nat} {allowed : Bool} {t : State}
    (h : admissionOf s i n allowed = .admitted t price) : t.st.entries = s.st.entries := by
  simp only [admissionOf] at h
  split_ifs at h
  cases h
  simp only [touchIdle]
  split <;> rfl

theorem admitPage_keeps (b : Band) (hroom : s.st.entries.length < 24) : Keeps s (admitPage s b) := by
  simp only [admitPage]
  split
  · exact refuseAdmission_keeps s _ _
  · split
    · exact refuseAdmission_keeps s _ _
    next t price ha =>
      exact .comp (openPageFor_keeps t b _ (by rw [admissionOf_entries s ha]; exact hroom)) (admissionOf_keeps s _ ha)

theorem openingBand_keeps (b : Band) : Keeps s (openingBand s b) := by
  simp only [openingBand]
  split_ifs with _ _ hroom
  · exact refuseBand_keeps s _ _
  · exact waitBand_keeps s b _
  · exact waitBand_keeps s b _
  · exact admitPage_keeps s b (Nat.not_le.mp hroom)

theorem examine_keeps (b : Band) : Keeps s (examine s b) := by
  have hcount : Keeps s (s.countRefused b.job) := .of_same rfl
  simp only [examine]
  refine .ite (refuseBand_keeps s _ _) (.ite hcount ?_)
  split
  · exact .ite (.ite hcount (.ite (bandOfPage_keeps s _ b) (.comp (openingBand_keeps _ b) (voidOpenPage_keeps s))))
      (.ite hcount (waitBand_keeps s b _))
  · exact .ite hcount (openingBand_keeps s b)

theorem settleBand_keeps : Keeps s (settleBand s) := by
  simp only [settleBand]
  split
  · split
    · exact .comp (examine_keeps _ _) (.of_same (by rfl))
    · exact .refl s
  · exact .refl s

theorem stallExpiry_keeps : Keeps s (stallExpiry s) := by
  simp only [stallExpiry]
  split
  · split
    · exact .comp (settleBand_keeps _) (.comp (voidOpenPage_keeps _) (.of_same (by rfl)))
    · exact .refl s
  · exact .refl s

theorem tickStall_keeps : Keeps s (tickStall s) := by
  simp only [tickStall]
  split
  · split_ifs
    · exact stallExpiry_keeps s
    · exact .of_same rfl
    · exact .refl s
  · exact .refl s

theorem sendPendingVoid_keeps : Keeps s (sendPendingVoid s) := by
  simp only [sendPendingVoid]
  split
  · split
    · exact .of_same rfl
    · exact .refl s
  · exact .refl s

theorem sendPathClear_keeps : Keeps s (sendPathClear s) := by
  simp only [sendPathClear]
  split
  · exact .comp (.of_same (by rfl)) (sendPendingVoid_keeps s)
  · exact sendPendingVoid_keeps s

theorem setReadyLine_keeps (level : Bool) : Keeps s (setReadyLine s level) := by
  simp only [setReadyLine]
  split
  · exact .comp (settleBand_keeps _) (.comp (sendPathClear_keeps _) (.of_same (by rfl)))
  · exact .of_same rfl

/-! ### Scan Path and the upstream half -/

theorem linkError_keeps (l : LinkName) : Keeps s (s.linkError l) := .comp (raise_keeps _ _ _) (.of_same (by rfl))

theorem completeScanPage_keeps : Keeps s (completeScanPage s) := by
  simp only [completeScanPage]
  split
  · split
    · exact .comp (drainTest_keeps _ _) (.comp (.of_same (by rfl)) (charge_keeps s _ _ _))
    · exact .refl s
  · exact .refl s

theorem scannerPageBegin_keeps (page : Nat) : Keeps s (scannerPageBegin s page) := by
  have hvoid : Keeps s (if s.sp.page.isSome then voidScanPage s else s) := .ite (voidScanPage_keeps s) (.refl s)
  exact hvoid.trans (.of_same (by rfl))

theorem takeScanBand_keeps (h : Fin 16) (p : ScanPage) (i : Fin 3) (b : ScannerBand)
    (hroom : s.sp.buffer.length < 8) : Keeps s (takeScanBand s h p i b) := by
  simp only [takeScanBand]
  split
  · exact .of_buffer (fun _ => by simp; omega) rfl
  · exact voidScanPage_keeps s

theorem refuseScanPage_keeps (h : Fin 16) (r : Reason) : Keeps s (refuseScanPage s h r) :=
  .comp (.of_same (by rfl)) (holdJob_keeps s h r)

theorem admissionOf_buffer {i : Fin 256} {n price : Nat} {allowed : Bool} {t : State}
    (h : admissionOf s i n allowed = .admitted t price) : t.sp = s.sp := by
  simp only [admissionOf] at h
  split_ifs at h
  cases h
  simp only [touchIdle]
  split <;> rfl

theorem openingScanBand_keeps (h : Fin 16) (i : Fin 3) (b : ScannerBand) (hroom : s.sp.buffer.length < 8) :
    Keeps s (openingScanBand s h i b) := by
  simp only [openingScanBand]
  split_ifs
  · exact .of_same rfl
  · exact refuseBand_keeps s _ _
  · exact refuseScanPage_keeps s h _
  · split
    · exact refuseScanPage_keeps s h _
    next t price ha =>
      have hsp : t.sp = s.sp := admissionOf_buffer s ha
      simp only [openScanPage]
      refine .comp (takeScanBand_keeps _ h _ i b ?_) (.comp (.of_same (by rfl)) (admissionOf_keeps s _ ha))
      simpa [State.countStarted, State.modJob, hsp] using hroom

theorem scanBand_keeps (h : Fin 16) (b : ScannerBand) (hroom : s.sp.buffer.length < 8) : Keeps s (scanBand s h b) := by
  simp only [scanBand]
  split
  · exact .of_same rfl
  · split
    · exact openingScanBand_keeps s h _ b hroom
    · exact takeScanBand_keeps s h _ _ b hroom

theorem scannerPageEnd_keeps : Keeps s (scannerPageEnd s) := by
  simp only [scannerPageEnd]
  split
  · split_ifs
    · exact .refl s
    · exact .comp (completeScanPage_keeps _) (.of_same (by rfl))
    · exact voidScanPage_keeps s
  · exact .of_same rfl

theorem scannerFrame_keeps (f : ScannerFrame) : Keeps s (scannerFrame s f) := by
  simp only [scannerFrame]
  split
  · exact linkError_keeps s _
  next hr =>
    have hroom : s.sp.buffer.length < 8 := by
      simp only [Bool.not_eq_true', Bool.not_eq_false] at hr
      exact ((scannerReady_iff s).mp hr).2.1
    cases f with
    | pageBegin page => exact scannerPageBegin_keeps s _
    | band b =>
      dsimp only
      split
      · split
        · exact scanBand_keeps s _ b hroom
        · exact .refl s
      · exact linkError_keeps s _
    | pageEnd => exact scannerPageEnd_keeps s

theorem scannerBytes_keeps (frame : List Byte) : Keeps s (scannerBytes s frame) := by
  simp only [scannerBytes]
  split
  · exact scannerFrame_keeps s _
  · exact linkError_keeps s _

theorem stopAtHead_keeps (h : Fin 16) : Keeps s (stopAtHead s h) := by
  have hvoid : Keeps s (if ({ s with sp := { s.sp with buffer := s.sp.buffer.filter fun f => f.tag.job != h } } :
      State).hasScanPage h then
        voidScanPage { s with sp := { s.sp with buffer := s.sp.buffer.filter fun f => f.tag.job != h } }
      else { s with sp := { s.sp with buffer := s.sp.buffer.filter fun f => f.tag.job != h } }) := by
    have hfilter : Keeps s { s with sp := { s.sp with buffer := s.sp.buffer.filter fun f => f.tag.job != h } } :=
      .of_buffer (fun hb => (List.length_filter_le _ _).trans hb) rfl
    split
    · exact .comp (voidScanPage_keeps _) hfilter
    · exact hfilter
  simp only [stopAtHead]
  split
  · exact .comp (holdJob_keeps _ h _) hvoid
  · exact .comp (drainTest_keeps _ h) hvoid

theorem upstreamBegin_keeps : Keeps s (upstreamBegin s) := by
  simp only [upstreamBegin]
  split
  · exact .refl s
  · split
    · exact .of_same rfl
    · split
      · exact .of_same rfl
      · split
        · exact .of_same rfl
        · exact stopAtHead_keeps s _
      · exact .refl s

theorem noticeSent_keeps : Keeps s (noticeSent s) := by
  simp only [noticeSent]
  split
  · split
    · exact .of_notices (fun hn => by simp [State.emitUpstream]; omega) rfl
    · exact .of_same rfl
  · exact .refl s

theorem scanFrameSent_keeps : Keeps s (scanFrameSent s) := by
  simp only [scanFrameSent]
  split
  · split
    · exact .comp (drainTest_keeps _ _) (.comp (completeScanPage_keeps _)
        (.of_buffer (fun hb => by simp [State.emitUpstream]; omega) rfl))
    · exact .of_same rfl
  · exact .refl s

/-! ### Sheet Tracker -/

theorem trackFault_keeps (k : FaultKind) (f : ReportFields) : Keeps s (trackFault s k f) :=
  .comp (raise_keeps _ _ _) (.of_same (by rfl))

theorem debit_keeps (e : Entry) : Keeps s (debit s e) := by
  refine .foldl _ (fun t c => ?_) s
  split
  · exact bookDeposit_keeps t c _ _
  · exact .refl t

theorem settleEntry_keeps (e : Entry) (m : Manner) : Keeps s (settleEntry s e m) := by
  simp only [settleEntry]
  have hmoney : Keeps s (if e.status == .complete && m == .exited then
      charge s e.account e.reserved (e.final.getD e.provisional) else releaseReservation s e.account e.reserved) := by
    split
    · exact charge_keeps s _ _ _
    · exact releaseReservation_keeps s _ _
  generalize (if e.status == .complete && m == .exited then
      charge s e.account e.reserved (e.final.getD e.provisional) else releaseReservation s e.account e.reserved) = t
    at hmoney
  have hdebit : Keeps s (if e.status == .complete && (m == .exited || m == .lost || m == .developed || m == .purged)
      then debit t e else t) := by
    split
    · exact .comp (debit_keeps t e) hmoney
    · exact hmoney
  cases m with
  | cleared => exact hdebit
  | _ => exact .comp (.of_same (by rfl)) hdebit

theorem removeFront_keeps (m : Manner) (n : Nat) : Keeps s (removeFront m n s) := by
  induction n generalizing s with
  | zero => exact .refl s
  | succ n ih =>
    simp only [removeFront]
    split
    · exact .refl s
    next e rest he =>
      exact .comp (ih _) (.comp (settleEntry_keeps _ e m)
        (.of_entries (fun hl => by rw [he, List.length_cons] at hl; simp only; omega) rfl))

theorem holdJam_keeps (hs : List (Fin 16)) : Keeps s (holdJam s hs) := .foldl _ (fun t h => holdJob_keeps t h _) s

theorem afterReport_keeps (removed : List Entry) : Keeps s (afterReport s removed) :=
  .comp (settleBand_keeps _) (.foldl _ drainTest_keeps s)

theorem exitAt_keeps (k c : Nat) (f : ReportFields) : Keeps s (exitAt s k c f) := by
  simp only [exitAt]
  have hskip : Keeps s (if 0 < k then trackFault s .skip f else s) := .ite (trackFault_keeps s _ f) (.refl s)
  generalize (if 0 < k then trackFault s .skip f else s) = s1 at hskip
  have hopen : Keeps s (if includesOpen s (s.st.entries.take (k + c)) then voidOpenPage (trackFault s1 .unfinished f)
      else s1) := .ite (.comp (voidOpenPage_keeps _) (.comp (trackFault_keeps s1 _ f) hskip)) hskip
  generalize (if includesOpen s (s.st.entries.take (k + c)) then voidOpenPage (trackFault s1 .unfinished f)
      else s1) = s2 at hopen
  have hremoved : Keeps s (removeFront .exited c (removeFront .lost k s2)) :=
    .comp (removeFront_keeps _ _ _) (.comp (removeFront_keeps _ _ _) hopen)
  generalize removeFront .exited c (removeFront .lost k s2) = s3 at hremoved
  refine .comp (afterReport_keeps _ _) ?_
  have hshort : Keeps s (if s.st.entries.length < k + c then trackFault s3 .short f else s3) :=
    .ite (.comp (trackFault_keeps s3 _ f) hremoved) hremoved
  exact .ite (.comp (holdJam_keeps _ _) hshort) hshort

theorem sheetExit_keeps (job : Byte) (page : Half) (count : Byte) : Keeps s (sheetExit s job page count) := by
  simp only [sheetExit]
  split
  · exact exitAt_keeps s _ _ _
  · exact .comp (trackFault_keeps _ _ _) (.of_same (by rfl))

theorem sheetJam_keeps (lost developed : Byte) : Keeps s (sheetJam s lost developed) := by
  simp only [sheetJam]
  refine .comp (afterReport_keeps _ _) (.comp (holdJam_keeps _ _) (.comp (removeFront_keeps _ _ _)
    (.comp (removeFront_keeps _ _ _) (.comp (voidOpenPage_keeps _) ?_))))
  exact .ite (trackFault_keeps s _ _) (.refl s)

theorem pathPurge_keeps : Keeps s (pathPurge s) :=
  .comp (afterReport_keeps _ _) (.comp (holdJam_keeps _ _) (.comp (removeFront_keeps _ _ _) (voidOpenPage_keeps s)))

theorem engineBytes_keeps (frame : List Byte) : Keeps s (engineBytes s frame) := by
  simp only [engineBytes]
  split
  · exact sheetExit_keeps s _ _ _
  · exact sheetJam_keeps s _ _
  · exact pathPurge_keeps s
  · exact linkError_keeps s _

theorem clearTracker_keeps : Keeps s (clearTracker s) := by
  simp only [clearTracker]
  exact .ite (.comp (.of_same (by rfl)) (removeFront_keeps s _ _)) (.comp (.of_same (by rfl)) (removeFront_keeps s _ _))

end

end Sys2Proof.Machine

/-! PROOFS. The resets, the commands, the store's events and the ticks keep the limits (`Keeps`), and so does a step:
the limits (O54) and the law of verified slots (O55) are invariants. -/

namespace Sys2Proof.Machine

section
variable (s : State)

/-! ### The resets -/

theorem resetPageStream_keeps : Keeps s (resetPageStream s) := (voidOpenPage_keeps s).trans (.of_same (by rfl))

theorem resetScanPath_keeps : Keeps s (resetScanPath s) :=
  (voidScanPage_keeps s).trans (.of_buffer (fun _ => Nat.zero_le _) rfl)

theorem resetNotices_keeps : Keeps s (resetNotices s) := .of_notices (fun _ => Nat.zero_le _) rfl

theorem resetJobs_keeps : Keeps s (resetJobs s) :=
  Keeps.trans (t := { s with
    jt := Vector.replicate 16 Job.initial, kt := s.kt.map KeySlot.afterPathReset
    acct := { s.acct with session := none } }) (.of_same (by rfl)) (setChannel_keeps _ 0 _ fun h => h.halt)

theorem pathReset_keeps : Keeps s (pathReset s) :=
  .comp (resetNotices_keeps _) (.comp (.foldl _ pathResetSlot_keeps _) (.comp (resetJobs_keeps _)
    (.comp (resetScanPath_keeps _) (.comp (clearTracker_keeps _) (resetPageStream_keeps s)))))

/-! ### The load of the Meter Store -/

theorem storedTrim_range (t : Int) : -1023 ≤ storedTrim t ∧ storedTrim t ≤ 1023 := by
  simp only [storedTrim]; omega

theorem loadSettings_trim (m : Memory) : -1023 ≤ (loadSettings m).trim ∧ (loadSettings m).trim ≤ 1023 := by
  simp only [loadSettings]
  split
  · exact storedTrim_range _
  · simp [Settings.default]

theorem defaultChannelSettings_period : ∀ c : Fin 4, 1 ≤ defaultChannelSettings[c].2 := by decide

theorem loadSettings_period (m : Memory) (c : Fin 4) : 1 ≤ (loadSettings m).channels[c].2 := by
  simp only [loadSettings]
  split
  · simp only [decodeSettings, Fin.getElem_fin, Vector.getElem_ofFn, storedPeriod]
    exact Nat.le_max_left ..
  · exact defaultChannelSettings_period c

theorem loadEgressEntry_zero (m : Memory) : (loadEgressEntry m 0).mode = .cipher := by
  simp only [loadEgressEntry]
  split <;> rfl

theorem Cartridge.initial_law : Cartridge.initial.RationLaw :=
  ⟨fun h => absurd h (by decide), fun _ h => absurd h (by simp [Cartridge.initial]), fun _ => ⟨rfl, rfl⟩⟩

theorem slot_loaded (c : Fin 4) : (loaded s).slot c = Cartridge.initial := by
  simp [State.slot, loaded]

theorem channel_loaded (c : Fin 4) : (loaded s).channel c =
    Channel.afterPowerOn (c.val != 0) (loadSettings s.ms.memory).channels[c] := by
  simp [State.channel, loaded]

theorem loaded_keeps : Keeps s (loaded s) where
  commands _ := Nat.zero_le _
  notices _ := Nat.zero_le _
  buffer _ := Nat.zero_le _
  entries _ := Nat.zero_le _
  queue _ := QueueHolds.of_le (Nat.zero_le _)
  time _ := by
    have htrim := loadSettings_trim s.ms.memory
    exact ⟨by simp [loaded], by simp [loaded], by simp [loaded], htrim.1, htrim.2⟩
  channels c _ := by
    rw [channel_loaded]
    exact ⟨loadSettings_period _ c, fun _ => ⟨rfl, rfl⟩, by simp [Channel.afterPowerOn]⟩
  residues c _ := by rw [slot_loaded]; decide
  rations c _ := by rw [slot_loaded]; exact Cartridge.initial_law
  egress _ := by
    have : (loaded s).sp.egress[0] = loadEgressEntry s.ms.memory 0 := by simp [loaded]
    rw [this]; exact loadEgressEntry_zero _
  memory := id

theorem powerOn_keeps : Keeps s (powerOn s) := by
  refine .comp (.foldl _ (fun t k => ?_) _) (loaded_keeps s)
  exact .ite (enterErasing_keeps t k _) (.refl t)

/-! ### Job commands -/

theorem openKeys_keeps (kind : JobKind) (k : Fin 64) (owner : Nat) (h : Fin 16) :
    Keeps s (openKeys s kind k owner h) := by
  cases kind with
  | release => exact useRelease_keeps s k h
  | print => exact drawKeys_keeps s k owner h
  | scan => exact drawKeys_keeps s k owner h

/-- A context takes its job, its marker and any band that waits for it go, and the idle channel is touched (R27). -/
theorem opened_keeps (h : Fin 16) (j : Job) (i : Fin 256) :
    Keeps s (touchIdle (dropWaiting ((s.setJob h j).setMarker h none) h) i) :=
  .comp (touchIdle_keeps _ i) (.of_same (by rfl))

theorem openAt_keeps (h : Fin 16) (kind : JobKind) (mode : ColourMode) (size : Option SizeClass) (a : OpenJobArgs) :
    Keeps s (openAt s h kind mode size a).1 := by
  simp only [openAt]
  split
  · exact opened_keeps s h _ _
  · cases kind <;> exact .comp (opened_keeps _ h _ _) (openKeys_keeps s _ _ _ h)

theorem cmdOpenJob_keeps (a : OpenJobArgs) : Keeps s (cmdOpenJob a s).1 := by
  simp only [cmdOpenJob]
  split
  · split
    · exact .refl s
    · split
      · exact .refl s
      · exact .refl s
      · exact openAt_keeps s _ _ _ _ a
  · exact .refl s

theorem cmdResumeJob_keeps (handle : Byte) : Keeps s (cmdResumeJob handle s).1 := by
  simp only [cmdResumeJob]
  split
  · exact .refl s
  · split
    · exact .of_same rfl
    all_goals exact .refl s

theorem cmdCloseJob_keeps (handle : Byte) : Keeps s (cmdCloseJob handle s).1 := by
  simp only [cmdCloseJob]
  split
  · exact .refl s
  · split
    · exact .refl s
    · exact .refl s
    · exact .comp (drainTest_keeps _ _) (beginDrain_keeps s _ _)

theorem cmdCancelJob_keeps (handle : Byte) : Keeps s (cmdCancelJob handle s).1 := by
  simp only [cmdCancelJob]
  split
  · exact .refl s
  · split
    · exact .refl s
    · split
      · exact .refl s
      · exact .comp (drainTest_keeps _ _) (cancelDraining_keeps s _)
    · exact .comp (drainTest_keeps _ _) (beginDrain_keeps s _ _)

theorem cmdReadJob_keeps (handle : Byte) : Keeps s (cmdReadJob handle s).1 := by
  simp only [cmdReadJob]
  split <;> exact .refl s

/-! ### Account commands -/

theorem cmdAdjustQuota_keeps (i : Byte) (q : Word) : Keeps s (cmdAdjustQuota i q s).1 := by
  simp only [cmdAdjustQuota]
  split
  · exact .refl s
  · exact storeAccount_keeps s _ _

theorem cmdLoadAccount_keeps (a : LoadAccountArgs) : Keeps s (cmdLoadAccount a s).1 := by
  simp only [cmdLoadAccount]
  split
  · exact .refl s
  · split_ifs
    · exact .refl s
    · exact .refl s
    · exact storeAccount_keeps s _ _
    · exact .refl s
    · exact storeAccount_keeps s _ _

theorem cmdUnloadAccount_keeps (i : Byte) : Keeps s (cmdUnloadAccount i s).1 := by
  simp only [cmdUnloadAccount]
  split_ifs
  · exact .refl s
  · exact .refl s
  · exact .refl s
  · exact storeAccount_keeps s _ _

theorem cmdSetAccountState_keeps (i t : Byte) : Keeps s (cmdSetAccountState i t s).1 := by
  simp only [cmdSetAccountState]
  split
  · exact .refl s
  · split_ifs
    · exact .refl s
    · exact .refl s
    · exact storeAccount_keeps s _ _

theorem cmdOpenSession_keeps (i : Byte) : Keeps s (cmdOpenSession i s).1 := by
  simp only [cmdOpenSession]
  split
  · exact .refl s
  · split
    · exact .refl s
    · exact .refl s
    · exact .comp (startChannel_keeps _ 0) (.of_same (by rfl))

theorem cmdTouchSession_keeps : Keeps s (cmdTouchSession s).1 := by
  simp only [cmdTouchSession]
  split
  · exact startChannel_keeps s 0
  · exact .refl s

theorem cmdCloseSession_keeps : Keeps s (cmdCloseSession s).1 := by
  simp only [cmdCloseSession]
  split
  · exact .comp (stopChannel_keeps _ 0) (.of_same (by rfl))
  · exact .refl s

/-! ### Settings -/

/-- The Time Base may be set while its counts stay in range and the channels as they are. -/
theorem Keeps.of_time {s t : State} (hr : TimeInRange s → TimeInRange t) (hch : t.tb.channels = s.tb.channels)
    (h : t.limited = { s.limited with time := t.tb }) : Keeps s t := by
  obtain ⟨hc, hn, hb, he, hms, -, hs, heg⟩ := Limited.mk.inj h
  have h : Keeps s { t with tb := s.tb } := .of_same (by simp only [State.limited, hc, hn, hb, he, hms, hs, heg])
  exact { h with time := hr, channels := fun c => by simp only [State.channel, hch]; exact id }

theorem cmdSetTime_keeps (t : Word) : Keeps s (cmdSetTime t s).1 :=
  .of_time (fun ⟨_, _, _, htrim⟩ => ⟨Nat.succ_pos _, Nat.succ_pos _, Nat.succ_pos _, htrim⟩) rfl rfl

theorem cmdSetTrim_keeps (t : Half) : Keeps s (cmdSetTrim t s).1 :=
  .of_time (fun ⟨hacc, hsub, hmin, _⟩ => ⟨hacc, hsub, hmin, (storedTrim_range _).1, (storedTrim_range _).2⟩) rfl rfl

theorem cmdSetTimer_keeps (c t : Byte) (p : Half) (r : Byte) : Keeps s (cmdSetTimer c t p r s).1 := by
  simp only [cmdSetTimer]
  split
  · split
    · exact .refl s
    · split
      · exact .refl s
      · exact setChannel_keeps s _ _ fun h => (h.settings (Nat.le_max_left ..)).run _
  · exact .refl s

theorem cmdLoadToneTable_keeps (p : Byte) (w : Vector Half 17) (g : Half) : Keeps s (cmdLoadToneTable p w g s).1 := by
  simp only [cmdLoadToneTable]
  split
  · exact .refl s
  · exact .of_same rfl

theorem cmdReadToneTable_keeps (p : Byte) : Keeps s (cmdReadToneTable p s).1 := by
  simp only [cmdReadToneTable]
  split <;> exact .refl s

theorem cmdReadEntry_keeps (p : Byte) : Keeps s (cmdReadEntry p s).1 := by
  simp only [cmdReadEntry]
  split <;> exact .refl s

theorem cmdRecheckCartridge_keeps (c : Byte) : Keeps s (cmdRecheckCartridge c s).1 := by
  have hsense (c : Fin 4) (hs : (s.slot c).state ≠ .empty) : Keeps s (if (s.slot c).exchange.isNone then
      (s.modSlot c fun x => { x with state := .sensed }).ok [] else s.refuse .busy).1 := by
    split
    next he =>
      refine (SlotStep.setSlot s c _ (by exact id)).keeps fun h => ?_
      rw [State.slot_setSlot_self]
      exact .of_free (h.level_of_state hs) (Option.isNone_iff_eq_none.mp he) (by simp [CartridgeState.verified])
    next => exact .refl s
  simp only [cmdRecheckCartridge]
  split
  · exact .refl s
  next c _ =>
    cases hst : (s.slot c).state with
    | genuine => exact requestRecheck_keeps s c (by rw [hst]; rfl)
    | spent => exact requestRecheck_keeps s c (by rw [hst]; rfl)
    | rejected r => exact hsense c (by simp [hst])
    | mute => exact hsense c (by simp [hst])
    | sensed => exact .refl s
    | checking => exact .refl s
    | empty => exact .refl s

theorem cmdSetCartridgePolicy_keeps (p : Byte) (m : Half) (n : Word) : Keeps s (cmdSetCartridgePolicy p m n s).1 := by
  simp only [cmdSetCartridgePolicy]
  split
  · exact .refl s
  · exact .of_same rfl

theorem cmdReadCartridge_keeps (c : Byte) : Keeps s (cmdReadCartridge c s).1 := by
  simp only [cmdReadCartridge]
  split
  · exact .refl s
  next c _ => exact (SlotStep.setSlot s c _ (by exact id)).keeps fun h => by rw [State.slot_setSlot_self]; exact h.congr rfl

theorem cmdReadHistory_keeps (p : Byte) : Keeps s (cmdReadHistory p s).1 := by
  simp only [cmdReadHistory]
  split <;> exact .refl s

/-- The egress table may change as long as class 0 stays CIPHER (R122). -/
theorem Keeps.of_egress {s t : State} (heg : s.sp.egress[0].mode = .cipher → t.sp.egress[0].mode = .cipher)
    (h : t.limited = { s.limited with egress := t.sp.egress }) : Keeps s t := by
  obtain ⟨hc, hn, hb, he, hms, htb, hs, -⟩ := Limited.mk.inj h
  have h : Keeps s { t with sp := { t.sp with egress := s.sp.egress } } :=
    .of_same (by simp only [State.limited, hc, hn, hb, he, hms, htb, hs])
  exact { h with egress := heg }

theorem cmdLoadEgressClass_keeps (c m : Byte) (r n : Half) : Keeps s (cmdLoadEgressClass c m r n s).1 := by
  simp only [cmdLoadEgressClass]
  split
  · exact .refl s
  · refine .of_egress (fun h => ?_) rfl
    simp only [State.ok, byteIndex, Vector.getElem_set]
    split
    next hc => simp [storedEgress, hc]
    next => exact h

theorem cmdDiscardKey_keeps (k : Byte) (g : Half) : Keeps s (cmdDiscardKey k g s).1 := by
  simp only [cmdDiscardKey]
  split
  · exact .refl s
  · split
    · exact .refl s
    · split
      · exact .refl s
      · exact .refl s
      · exact .refl s
      · split
        · exact .refl s
        · exact enterErasing_keeps s _ _

theorem cmdReadKeySlot_keeps (k : Byte) : Keeps s (cmdReadKeySlot k s).1 := by
  simp only [cmdReadKeySlot]
  split <;> exact .refl s

theorem cmdClearStatus_keeps (n : Half) : Keeps s (cmdClearStatus n s).1 := by
  rw [cmdClearStatus_eq]
  simp only [State.ok]
  rw [s.statusCleared_frame n]
  exact .of_same rfl

/-! ### Commands of the Meter Store -/

theorem cmdFlushMeters_keeps : Keeps s (cmdFlushMeters s).1 := by
  simp only [cmdFlushMeters]
  split
  · exact .refl s
  · exact .foldl _ (fun t i => .comp (requestOwn_keeps _ _) (setAccount_keeps t i _)) s

theorem cmdSaveSettings_keeps : Keeps s (cmdSaveSettings s).1 := by
  simp only [cmdSaveSettings]
  exact .foldl _ (fun t _ => requestOwn_keeps t _) s

/-- The lock may change with the rest of the store as it is. -/
theorem Keeps.setLock (a b : Bool) : Keeps s { s with ms := { s.ms with lock := a, lockUnsaved := b } } :=
  ⟨id, id, id, id, id, id, fun _ => id, fun _ => id, fun _ => id, id, id⟩

theorem cmdLockMeters_keeps : Keeps s (cmdLockMeters s).1 := by
  simp only [cmdLockMeters]
  split
  · exact .refl s
  · exact .comp (request_keeps _ _) (.setLock s _ _)

theorem defaultSettings_keeps : Keeps s (defaultSettings s) where
  commands := id
  notices := id
  buffer := id
  entries := id
  queue := id
  time h := ⟨h.1, h.2.1, h.2.2.1, by simp [defaultSettings], by simp [defaultSettings]⟩
  channels c h := by
    have hc : (defaultSettings s).channel c =
        (s.channel c).settings defaultChannelSettings[c].1 defaultChannelSettings[c].2 := by
      simp [State.channel, defaultSettings]
    rw [hc]
    exact h.settings (defaultChannelSettings_period c)
  residues _ := id
  rations _ := id
  egress _ := by simp [defaultSettings, EgressEntry.default]
  memory := id

theorem emptyRing_keeps : Keeps s (emptyRing s) := .of_same rfl

theorem cmdSanitize_keeps (scope : Byte) : Keeps s (cmdSanitize scope s).1 := by
  simp only [cmdSanitize, sanitizeKeysScope, sanitizeAccountsScope, sanitizeAllScope]
  split
  · exact .refl s
  · dsimp only
    exact ((sanitizeJobs_keeps s).trans (sanitizeKeys_keeps _)).trans (requestRegion_keeps _ .keys)
  · split_ifs
    · exact .refl s
    · exact .refl s
    · exact (wipeAccounts_keeps s).trans (requestRegion_keeps _ .accounts)
  · split_ifs
    · exact .refl s
    · dsimp only
      exact ((((sanitizeKeys_keeps s).trans (wipeAccounts_keeps _)).trans (emptyRing_keeps _)).trans
        (defaultSettings_keeps _)).trans ((Keeps.setLock _ _ _).trans (requestRegion_keeps _ .all))

theorem cmdReadRow_keeps (r : Half) : Keeps s (cmdReadRow r s).1 := by
  simp only [cmdReadRow]
  split <;> exact .refl s

/-! ### The Command Unit -/

theorem runCommand_keeps (c : Command) : Keeps s (runCommand c s).1 := by
  cases c with
  | openJob a => exact cmdOpenJob_keeps s a
  | resumeJob h => exact cmdResumeJob_keeps s h
  | closeJob h => exact cmdCloseJob_keeps s h
  | cancelJob h => exact cmdCancelJob_keeps s h
  | readJob h => exact cmdReadJob_keeps s h
  | loadTariff v f => exact .of_same rfl
  | readTariff => exact .refl s
  | adjustQuota i q => exact cmdAdjustQuota_keeps s i q
  | loadAccount a => exact cmdLoadAccount_keeps s a
  | unloadAccount i => exact cmdUnloadAccount_keeps s i
  | setAccountState i t => exact cmdSetAccountState_keeps s i t
  | readAccount i => exact .refl s
  | openSession i => exact cmdOpenSession_keeps s i
  | touchSession => exact cmdTouchSession_keeps s
  | closeSession => exact cmdCloseSession_keeps s
  | readSession => exact .refl s
  | loadToneTable p w g => exact cmdLoadToneTable_keeps s p w g
  | setSpotThreshold t => exact .of_same rfl
  | readToneTable p => exact cmdReadToneTable_keeps s p
  | readPageMeter => exact .refl s
  | setNoticeMask m => exact .of_same rfl
  | resetPath => exact pathReset_keeps s
  | readTracker => exact .refl s
  | readEntry p => exact cmdReadEntry_keeps s p
  | recheckCartridge c => exact cmdRecheckCartridge_keeps s c
  | setCartridgePolicy p m n => exact cmdSetCartridgePolicy_keeps s p m n
  | readCartridge c => exact cmdReadCartridge_keeps s c
  | readHistory p => exact cmdReadHistory_keeps s p
  | loadEgressClass c m r n => exact cmdLoadEgressClass_keeps s c m r n
  | readEgressClass c => exact .refl s
  | discardKey k g => exact cmdDiscardKey_keeps s k g
  | readKeySlot k => exact cmdReadKeySlot_keeps s k
  | flushMeters => exact cmdFlushMeters_keeps s
  | saveSettings => exact cmdSaveSettings_keeps s
  | lockMeters => exact cmdLockMeters_keeps s
  | sanitize sc => exact cmdSanitize_keeps s sc
  | readRow r => exact cmdReadRow_keeps s r
  | setTime t => exact cmdSetTime_keeps s t
  | readTime => exact .refl s
  | setTrim t => exact cmdSetTrim_keeps s t
  | setTimer c t p r => exact cmdSetTimer_keeps s c t p r
  | readStatus => exact .refl s
  | clearStatus n => exact cmdClearStatus_keeps s n
  | readIdentity => exact .refl s

theorem setUnit_keeps (u : UnitState) : Keeps s (s.setUnit u) := .of_same rfl

theorem execute_keeps (f : CommandFrame) : Keeps s (execute f s) := by
  simp only [execute]
  split
  · exact setUnit_keeps s _
  · exact .comp (settleBand_keeps _) (.comp (setUnit_keeps _ _) (runCommand_keeps s _))

theorem takeNext_keeps : Keeps s (takeNext s) := by
  simp only [takeNext]
  split
  next hq =>
    refine .comp (execute_keeps _ _) (.of_commands (fun hl => ?_) rfl)
    rw [hq, List.length_cons] at hl
    simp only
    omega
  next => exact .refl s

theorem deliver_keeps (f : CommandFrame) : Keeps s (deliver f s) := by
  simp only [deliver]
  split
  next hl =>
    refine .comp (takeNext_keeps _) (.of_commands (fun _ => ?_) rfl)
    simp only [linkOpen, Bool.and_eq_true, decide_eq_true_eq] at hl
    simp only [List.length_append, List.length_singleton]
    omega
  next => exact .refl s

theorem deliverCommand_keeps (tag : Byte) (c : Command) : Keeps s (deliverCommand tag c s) := deliver_keeps s _

theorem downstreamFrame_keeps (frame : List Byte) : Keeps s (downstreamFrame frame s) := by
  simp only [downstreamFrame]
  refine .ite ?_ (.refl s)
  split
  · refine .ite (deliver_keeps s _) (.ite ?_ (linkError_keeps s _))
    split
    · exact examine_keeps s _
    · exact linkError_keeps s _
  · exact linkError_keeps s _

theorem replySent_keeps : Keeps s (replySent s) := by
  simp only [replySent]
  split
  · refine .comp (takeNext_keeps _) (.comp (setUnit_keeps _ _) ?_)
    exact .ite (.of_commands (fun _ => Nat.zero_le _) rfl) (.of_same (by rfl))
  · exact .refl s

theorem dropUnsentReply_keeps : Keeps s (dropUnsentReply s) := by
  simp only [dropUnsentReply]
  split
  · exact .refl s
  · exact setUnit_keeps s _
  · exact .refl s

theorem pathLineRise_keeps : Keeps s (pathLineRise s) := by
  have hreset : Keeps s (pathReset { s with li := { s.li with pathLine := true } }) :=
    Keeps.trans (.of_same (by rfl)) (pathReset_keeps _)
  simp only [pathLineRise]
  generalize pathReset { s with li := { s.li with pathLine := true } } = u at hreset
  exact .ite (.refl s) (.comp (dropUnsentReply_keeps _) (hreset.trans (.of_commands (fun _ => Nat.zero_le _) rfl)))

/-! ### The store's events -/

theorem replyLong_keeps (v : List Val) : Keeps s (replyLong s v) := by
  simp only [replyLong]
  split
  · exact .of_same rfl
  · exact .refl s

theorem countRow_keeps (completed : Bool) : Keeps s (countRow s completed) := by
  simp only [countRow]
  split
  · exact .ite (replyLong_keeps s _) (.of_same (by rfl))
  · exact .refl s

theorem reportRow_keeps (q : StoreRequest) (completed : Bool) : Keeps s (reportRow s q completed) := by
  cases q with
  | commit r g =>
    simp only [reportRow]
    cases rowOwner r with
    | key k => exact keyReport_keeps s k g _ _
    | account i => exact .ite (.refl s) (.of_same (by rfl))
    | history p => exact .ite (.refl s) (.of_same (by rfl))
    | settings k => exact .ite (.setLock s s.ms.lock true) (.refl s)
    | manufacture => exact .refl s
    | egress k => exact .refl s
  | erase r g =>
    simp only [reportRow]
    split
    · exact keyReport_keeps s _ g _ _
    · exact .refl s
  | region g => exact .refl s

/-- The operation in flight ends, goes on with the same row, or is a region erase (R155, R156). -/
theorem setOp_keeps (op : Option StoreOp) (latches : List Byte)
    (hw : ∀ o ∈ op, ∀ r ∈ o.request.row?, s.ms.writing = some r) :
    Keeps s { s with ms := { s.ms with op := op, latches := latches } } :=
  ⟨id, id, id, id, fun h => setOp_queueLaw (m := s.ms) h hw, id, fun _ => id, fun _ => id, fun _ => id, id, id⟩

theorem noOp_keeps : Keeps s { s with ms := { s.ms with op := none } } :=
  setOp_keeps s none s.ms.latches (by simp)

theorem endRowOp_keeps (op : StoreOp) (completed : Bool) : Keeps s (endRowOp s op completed) := by
  simp only [endRowOp]
  have hreport := (noOp_keeps s).trans (reportRow_keeps _ op.request completed)
  exact .comp (startIfReady_keeps _) (.ite (.comp (countRow_keeps _ _) hreport) hreport)

theorem storeFault_keeps (op : StoreOp) : Keeps s (storeFault s op) := raise_keeps s _ _

theorem endRegion_keeps (g : Region) (n : Nat) : Keeps s (endRegion s g n) := by
  have hkeys : Keeps s (keyRegionErased { s with ms := { s.ms with op := none } }) :=
    (noOp_keeps s).trans (keyRegionErased_keeps _)
  have hend {t : State} (h : Keeps s t) : Keeps s (startIfReady (replyLong t [.u16 n])) :=
    (h.trans (replyLong_keeps t _)).trans (startIfReady_keeps _)
  cases g with
  | keys => exact hend hkeys
  | accounts => exact hend (noOp_keeps s)
  | all => exact hend hkeys

theorem nextRegionRow_keeps (op : StoreOp) (g : Region) (n : Nat) (hop : op.request = .region g) :
    Keeps s (nextRegionRow s op g n) := by
  simp only [nextRegionRow]
  split
  · refine setOp_keeps s _ _ ?_
    rintro o ⟨⟩
    simp [hop, StoreRequest.row?]
  · exact endRegion_keeps s g n

theorem setMemory_keeps {m : Memory} (h : s.ms.memory.wf = true → m.wf = true) :
    Keeps s { s with ms := { s.ms with memory := m } } :=
  ⟨id, id, id, id, id, id, fun _ => id, fun _ => id, fun _ => id, id, h⟩

/-- What follows the read-back of a row (R155, R156): the next row of a region erase, or the end of the operation. -/
theorem rowDone_keeps (op : StoreOp) (n : Nat) (completed : Bool) :
    Keeps s (match op.request with
      | .region g => nextRegionRow s op g n
      | _ => endRowOp s op completed) := by
  cases hq : op.request with
  | commit r g => exact endRowOp_keeps s op _
  | erase r g => exact endRowOp_keeps s op _
  | region g => exact nextRegionRow_keeps s op g n hq

theorem writeComplete_keeps (retained : Option (List Byte)) : Keeps s (writeComplete s retained) := by
  cases hop : s.ms.op with
  | none => simp only [writeComplete, hop]; exact .refl s
  | some op =>
    simp only [writeComplete, hop]
    have hwf : s.ms.memory.wf = true → (s.ms.memory.writeRow op.row (retained.getD s.ms.latches)).wf = true :=
      fun h => Memory.writeRow_wf h op.row _
    generalize s.ms.memory.writeRow op.row (retained.getD s.ms.latches) = m at hwf
    have hrow := setMemory_keeps s hwf
    have hagain := hrow.trans (setOp_keeps _ (some { op with attempt := 2 }) s.ms.latches (by
      rintro o ⟨⟩ r hr
      simpa [MeterStore.writing, hop] using hr))
    have hfault := hrow.trans (storeFault_keeps _ op)
    exact .ite (hrow.trans (rowDone_keeps _ op _ _)) (.ite hagain (hfault.trans (rowDone_keeps _ op _ _)))

theorem setWarning_keeps (level : Bool) : Keeps s (setWarning s level) := by
  have hset : Keeps s { s with ms := { s.ms with warning := level } } :=
    ⟨id, id, id, id, id, id, fun _ => id, fun _ => id, fun _ => id, id, id⟩
  exact .ite hset (.comp (startIfReady_keeps _) hset)

/-! ### The Time Base -/

theorem ownerExpiry_keeps (c : Fin 4) : Keeps s (ownerExpiry s c) := by
  unfold ownerExpiry
  split
  · exact sessionExpiry_keeps s
  · exact keySweep_keeps s
  · exact meterFlush_keeps s
  · exact recheckExpiry_keeps s

end

end Sys2Proof.Machine

/-! PROOFS. What the store, the Cartridge Unit and the Key Table leave alone (`Quiet`): every block but their own, the
status block and the dirty flags of accounts. -/

namespace Sys2Proof.Machine

/-- What an operation of the store, the Cartridge Unit or the Key Table may change: the records of the three, the status
block, the draws, what has left on the cartridge lines, and the dirty flags of accounts. -/
structure Quiet (s t : State) : Prop where
  frame : t = { s with
    tu := t.tu, kt := t.kt, ms := t.ms, status := t.status, draws := t.draws, tagOut := t.tagOut
    acct := { s.acct with records := t.acct.records } }
  money : ∀ i, (t.account i).sameMoney (s.account i)

namespace Quiet

variable {s t u : State}

theorem refl (s : State) : Quiet s s := ⟨rfl, fun _ => rfl⟩

theorem trans (h : Quiet s t) (k : Quiet t u) : Quiet s u where
  frame := by
    have hf := h.frame
    have kf := k.frame
    rw [kf, hf]
  money i := by
    have a := h.money i
    have b := k.money i
    simp only [Account.sameMoney] at a b ⊢
    rw [← a, ← b]

/-- The last operation first, as the operations are written. -/
theorem comp (k : Quiet t u) (h : Quiet s t) : Quiet s u := h.trans k

theorem ite {p : Prop} [Decidable p] (h : Quiet s t) (k : Quiet s u) : Quiet s (if p then t else u) := by
  split
  · exact h
  · exact k

theorem foldl {α : Type} {f : State → α → State} (l : List α) (h : ∀ s a, Quiet s (f s a)) (s : State) :
    Quiet s (l.foldl f s) := by
  induction l generalizing s with
  | nil => exact .refl s
  | cons a l ih => exact (h s a).trans (ih (f s a))

theorem raise (s : State) (f : Flag) (v : List Val) : Quiet s (s.raise f v) := ⟨rfl, fun _ => rfl⟩

theorem setKey (s : State) (k : Fin 64) (x : KeySlot) : Quiet s (s.setKey k x) := ⟨rfl, fun _ => rfl⟩

theorem setSlot (s : State) (c : Fin 4) (x : Cartridge) : Quiet s (s.setSlot c x) := ⟨rfl, fun _ => rfl⟩

end Quiet

theorem StoreStep.quiet {s t : State} (h : StoreStep s t) : Quiet s t :=
  ⟨by have hf := h.frame; rw [hf], h.money⟩

theorem SlotStep.quiet {c : Fin 4} {s t : State} (h : SlotStep c s t) : Quiet s t :=
  ⟨by have hf := h.frame; rw [hf], h.money⟩

theorem request_quiet (s : State) (q : StoreRequest) : Quiet s (request s q).1 := (request_step s q).quiet

/-! ### Key Table -/

section
variable (s : State) (k : Fin 64)

theorem requestKeyRow_quiet (kind : RowRequest) : Quiet s (requestKeyRow s k kind) :=
  .comp (.setKey _ k _) (request_quiet s _)

theorem freeErased_quiet : Quiet s (freeErased s k) := .comp (.raise _ _ _) (.setKey s k _)

theorem enterErasing_quiet (cause : EraseCause) : Quiet s (enterErasing s k cause) := by
  have hrequest := (Quiet.setKey s k { s.key k with
    state := .erasing, cipherKey := 0, checkKey := 0, releases := 0, cause := some cause }).trans
    (requestKeyRow_quiet _ k .erase)
  exact .ite hrequest (.comp (freeErased_quiet _ k) hrequest)

theorem zeroiseActive_quiet : Quiet s (zeroiseActive s k) := .setKey s k _

theorem retainScan_quiet (e : EgressEntry) : Quiet s (retainScan s k e) :=
  .comp (requestKeyRow_quiet _ k _) (.setKey s k _)

theorem disposeRelease_quiet : Quiet s (disposeRelease s k) := by
  have hunnamed := Quiet.setKey s k { s.key k with naming := none }
  exact .ite (hunnamed.trans (enterErasing_quiet _ k _)) (.ite (hunnamed.trans (enterErasing_quiet _ k _)) hunnamed)

theorem drawKeys_quiet (owner : Nat) (h : Fin 16) : Quiet s (drawKeys s k owner h) := ⟨rfl, fun _ => rfl⟩

theorem useRelease_quiet (h : Fin 16) : Quiet s (useRelease s k h) :=
  .comp (requestKeyRow_quiet _ k _) (.setKey s k _)

theorem sweepSlot_quiet : Quiet s (sweepSlot s k) := by
  have herase : Quiet s (if expired s.now (s.key k) && (s.key k).naming.isNone then enterErasing s k .expired else s) :=
    .ite (enterErasing_quiet s k _) (.refl s)
  simp only [sweepSlot]
  split
  · exact herase
  · exact herase.trans (requestKeyRow_quiet _ k _)

theorem keySweep_quiet : Quiet s (keySweep s) := .foldl _ sweepSlot_quiet s

theorem sanitizeSlot_quiet : Quiet s (sanitizeSlot s k) := by
  simp only [sanitizeSlot]
  cases (s.key k).state with
  | free => exact .refl s
  | active => exact .setKey s k _
  | retained => exact .ite (.setKey s k _) (enterErasing_quiet s k _)
  | erasing => exact .refl s

theorem sanitizeKeys_quiet : Quiet s (sanitizeKeys s) := .foldl _ sanitizeSlot_quiet s

theorem regionErasedSlot_quiet : Quiet s (regionErasedSlot s k) := by
  have hclear := Quiet.setKey s k { s.key k with persisted := false }
  exact .ite (hclear.trans (freeErased_quiet _ k)) hclear

theorem keyRegionErased_quiet : Quiet s (keyRegionErased s) := .foldl _ regionErasedSlot_quiet s

theorem keyReport_quiet (g : Half) (erase completed : Bool) : Quiet s (keyReport s k g erase completed) := by
  refine .ite ?_ (.refl s)
  cases erase <;> cases completed
  · exact .setKey s k _
  · exact .setKey s k _
  · exact .ite (.setKey s k _) (.refl s)
  · have hclear := Quiet.setKey s k { s.key k with persisted := false }
    exact .ite (hclear.trans (freeErased_quiet _ k)) hclear

theorem disposeKey_quiet (h : Fin 16) : Quiet s (disposeKey s h) := by
  simp only [disposeKey]
  split
  · exact .refl s
  · split
    · exact disposeRelease_quiet s _
    · exact .ite (zeroiseActive_quiet s _) (retainScan_quiet s _ _)

theorem openKeys_quiet (kind : JobKind) (owner : Nat) (h : Fin 16) : Quiet s (openKeys s kind k owner h) := by
  cases kind with
  | release => exact useRelease_quiet s k h
  | print => exact drawKeys_quiet s k owner h
  | scan => exact drawKeys_quiet s k owner h

end

/-! ### Cartridge Unit -/

section
variable (s : State)

theorem recheckExpiry_quiet : Quiet s (recheckExpiry s) :=
  .comp (.foldl _ (fun t _ => request_quiet t _) _)
    (.foldl _ (fun t d => .ite (requestRecheck_step t d).quiet (.refl t)) s)

theorem debit_quiet (e : Entry) : Quiet s (debit s e) := by
  refine .foldl _ (fun t c => ?_) s
  split
  · exact (bookDeposit_step t c _ _).quiet
  · exact .refl t

theorem convertPlanes_quiet (acc : Vector Accum 4) (l : List (Fin 4)) : Quiet s (convertPlanes acc s l).1 := by
  induction l generalizing s with
  | nil => exact .refl s
  | cons c rest ih => exact .comp (ih _) (.setSlot s c _)

end

/-! ### The owners' expiries leave the channels as they were -/

section
variable (s : State)

theorem Quiet.tb {s t : State} (h : Quiet s t) : t.tb = s.tb := by rw [h.frame]

theorem commitAccount_tb (i : Fin 256) : (commitAccount s i).tb = s.tb := (request_quiet s _).tb

theorem meterFlush_tb : (meterFlush s).tb = s.tb := by
  have hflush (l : List (Fin 256)) (t : State) : (l.foldl
      (fun s i => commitAccount (s.modAccount i fun a => { a with sinceFlush := 0 }) i) t).tb = t.tb := by
    induction l generalizing t with
    | nil => rfl
    | cons i l ih => rw [List.foldl_cons, ih, commitAccount_tb]; rfl
  simp only [meterFlush]
  split
  · rw [(request_quiet _ _).tb, hflush]
  · exact hflush _ s

theorem sessionExpiry_tb : (sessionExpiry s).tb = s.tb := by
  simp only [sessionExpiry]
  split <;> rfl

theorem ownerExpiry_tb (c : Fin 4) : (ownerExpiry s c).tb = s.tb := by
  unfold ownerExpiry
  split
  · exact sessionExpiry_tb s
  · exact (keySweep_quiet s).tb
  · exact meterFlush_tb s
  · exact (recheckExpiry_quiet s).tb

theorem ownerExpiry_channel (c d : Fin 4) : (ownerExpiry s c).channel d = s.channel d :=
  congrArg (fun tb : TimeBase => tb.channels[d]) (ownerExpiry_tb s c)

/-! ### The Time Base keeps the limits -/

/-- A channel expires from any count: its owner keeps the limits, and it goes back to 0 (R168). -/
theorem expireChannel_keeps (c : Fin 4) (n : Nat) :
    Keeps s (expireChannel (s.setChannel c { s.channel c with count := n }) c) := by
  have howner := ownerExpiry_keeps (s.setChannel c { s.channel c with count := n }) c
  have hchannel (d : Fin 4) := ownerExpiry_channel (s.setChannel c { s.channel c with count := n }) c d
  simp only [expireChannel, hchannel]
  generalize ownerExpiry (s.setChannel c { s.channel c with count := n }) c = t at howner hchannel
  refine ⟨howner.commands, howner.notices, howner.buffer, howner.entries, howner.queue, howner.time, fun d h => ?_,
    howner.residues, howner.rations, howner.egress, howner.memory⟩
  by_cases hd : d = c
  · subst hd
    rw [State.channel_setChannel_self, State.channel_setChannel_self]
    exact h.afterExpiry n _
  · rw [State.channel_setChannel_of_ne _ _ hd, hchannel, State.channel_setChannel_of_ne _ _ hd]
    exact h

theorem channelExpiry_keeps (c : Fin 4) : Keeps s (channelExpiry s c) :=
  .ite (expireChannel_keeps s c _) (.refl s)

theorem tickChannel_keeps (c : Fin 4) : Keeps s (tickChannel s c) := by
  simp only [tickChannel]
  split_ifs with hr hlast hstop
  · exact .refl s
  · exact expireChannel_keeps s c _
  · exact setChannel_keeps s c _ fun h => h.halt
  · refine setChannel_keeps s c _ fun h => ⟨?_, fun hn => ?_, h.2.2⟩
    · have := h.1
      simp only
      omega
    · simp only at hn
      simp [hn] at hr

theorem TimeBase.tick_channels (t : TimeBase) : t.tick.channels = t.channels := by
  simp only [TimeBase.tick]
  split <;> rfl

theorem tickCounts_keeps : Keeps s { s with tb := s.tb.tick } := by
  refine .of_time (fun ⟨hacc, hsub, hmin, htrim⟩ => ?_) (TimeBase.tick_channels _) rfl
  simp only [TimeInRange, TimeBase.tick]
  split
  next h => exact ⟨hacc, h, hmin, htrim⟩
  next => exact ⟨hacc, Nat.succ_pos _, by dsimp only; split <;> omega, htrim⟩

theorem tick_keeps (presence : Vector Bool 4) : Keeps s (tick presence s) := by
  simp only [tick]
  have hexchanges : Keeps s (slots.foldl tickExchange { s with tb := s.tb.tick }) :=
    (tickCounts_keeps s).trans (.foldl _ tickExchange_keeps _)
  generalize slots.foldl tickExchange { s with tb := s.tb.tick } = s1 at hexchanges
  have hslow : Keeps s1 (tickStall (slots.foldl (fun s c => samplePresence s c presence[c]) (slots.foldl beginCheck s1))) :=
    .comp (tickStall_keeps _) (.comp (.foldl _ (fun t c => samplePresence_keeps t c _) _) (.foldl _ beginCheck_keeps s1))
  refine .comp (.foldl _ (fun t c => .ite (tickChannel_keeps t c) (.refl t)) _) ?_
  exact .ite (hexchanges.trans hslow) hexchanges

theorem ticks_keeps (presence : Vector Bool 4) (n : Nat) : Keeps s (ticks presence n s) := by
  induction n generalizing s with
  | zero => exact .refl s
  | succ n ih => exact (tick_keeps s presence).trans (ih _)

theorem referenceStep_keeps (presence : Vector Bool 4) : Keeps s (referenceStep s presence) := by
  have hphase (a : Nat) : Keeps s { s with tb := { s.tb with accumulator := a % tickUnit } } :=
    .of_time (fun ⟨_, h⟩ => ⟨Nat.mod_lt _ (by decide), h⟩) rfl rfl
  simp only [referenceStep]
  exact (hphase _).trans (ticks_keeps _ presence _)

/-! ### A step -/

/-- Every command of the block leads to a next state that keeps the limits and the laws of the slots. -/
theorem exec_keeps (i : Instr) (t : State) (h : exec i s = .next t) : Keeps s t := by
  have of_next {u : State} (hu : (Host.Outcome.next u : Host.Outcome State Fault Refusal) = .next t)
      (k : Keeps s u) : Keeps s t := by cases hu; exact k
  cases i with
  | powerOnReset => exact of_next h (powerOn_keeps s)
  | commandFrameReceived frame => exact of_next h (downstreamFrame_keeps s frame)
  | bandFrameReceived frame => exact of_next h (downstreamFrame_keeps s frame)
  | bandReexamined => exact of_next h (settleBand_keeps s)
  | stallExpiry => exact of_next h (stallExpiry_keeps s)
  | engineReadyLine level => exact of_next h (setReadyLine_keeps s level)
  | pendingVoidSend => exact of_next h (sendPendingVoid_keeps s)
  | pathClearSend => exact of_next h (sendPathClear_keeps s)
  | sheetExit job page count => exact of_next h (sheetExit_keeps s job page count)
  | sheetJam lost developed => exact of_next h (sheetJam_keeps s lost developed)
  | pathPurge => exact of_next h (pathPurge_keeps s)
  | drainCompletion job => exact of_next h (drainTest_keeps s job)
  | scannerPageBegin page => exact of_next h (scannerFrame_keeps s _)
  | scannerBand band => exact of_next h (scannerFrame_keeps s _)
  | scannerPageEnd => exact of_next h (scannerFrame_keeps s _)
  | scanPageCompletion => exact of_next h (completeScanPage_keeps s)
  | upstreamFrameBegin => exact of_next h (upstreamBegin_keeps s)
  | replySent => exact of_next h (replySent_keeps s)
  | noticeSent => exact of_next h (noticeSent_keeps s)
  | scanFrameSent => exact of_next h (scanFrameSent_keeps s)
  | referenceStep presence => exact of_next h (referenceStep_keeps s presence)
  | channelExpiry channel => exact of_next h (channelExpiry_keeps s channel)
  | debouncedRise slot => exact of_next h (riseEvent_keeps s slot)
  | debouncedFall slot => exact of_next h (fallEvent_keeps s slot)
  | fullCheckStart slot => exact of_next h (beginCheck_keeps s slot)
  | identifyAnswer slot serial colorant model rated => exact of_next h (takeAnswer_keeps s slot _)
  | challengeAnswer slot response => exact of_next h (takeAnswer_keeps s slot _)
  | readRationAnswer slot ration n => exact of_next h (takeAnswer_keeps s slot _)
  | writeRationAnswer slot ration n => exact of_next h (takeAnswer_keeps s slot _)
  | exchangeLimit slot => exact of_next h (exchangeLimit_keeps s slot)
  | serveWaitingWork slot => exact of_next h (serveLine_keeps s slot)
  | storeOperationStart => exact of_next h (startIfReady_keeps s)
  | storeWriteComplete retained => exact of_next h (writeComplete_keeps s retained)
  | powerWarningRise => exact of_next h (setWarning_keeps s true)
  | powerWarningFall => exact of_next h (setWarning_keeps s false)
  | pathResetLine => exact of_next h (pathLineRise_keeps s)
  | pathResetLineFall => exact of_next h (.of_same (by rfl))
  | engineReportDiscard frame => exact of_next h (engineBytes_keeps s frame)
  | scannerFrameDiscard frame => exact of_next h (scannerBytes_keeps s frame)
  | tagAnswerDiscard slot frame => exact of_next h (tagBytes_keeps s slot frame)
  | _ => exact of_next h (deliverCommand_keeps s _ _)

end

theorem step_keeps {s t : State} (h : step s = .next t) : Keeps s t := by
  unfold step at h
  split at h
  · cases h; exact .refl s
  · exact .trans (.of_same (by rfl)) (exec_keeps _ _ t h)

/-- Settles O54: every limit is one that a step keeps. -/
theorem stepKeepsLimits : Obligations.StepKeepsLimits := by
  intro s t hinv hstep
  obtain ⟨⟨hcommands, hnotices, hbuffer, hentries, hqueue⟩, htime, hchannels, hresidues, hegress, hmemory⟩ := hinv
  have k := step_keeps hstep
  exact ⟨⟨k.commands hcommands, k.notices hnotices, k.buffer hbuffer, k.entries hentries, k.queue hqueue⟩, k.time htime,
    fun c => k.channels c (hchannels c), fun c => k.residues c (hresidues c), k.egress hegress, k.memory hmemory⟩

/-- Settles O55: the law of a slot is one that a step keeps. -/
theorem stepKeepsRations : Obligations.StepKeepsRations :=
  fun _ _ hlaw hstep c => (step_keeps hstep).rations c (hlaw c)

end Sys2Proof.Machine

/-! PROOFS. The ledger of the part: what the laws of pages, entries and accounts (R23, R35, R45, R52, R79, R80) speak
of, taken out of the state, and the moves of the ledger that keep them. -/

namespace Sys2Proof.Machine

/-! ### The ledger -/

/-- Of a job, the laws speak of its state, kind, account and last started page. -/
structure JobView where
  state : JobState
  kind : JobKind
  account : Fin 256
  lastPage : Option Nat

/-- Of an account record, the laws speak of its state and its money. -/
structure MoneyView where
  state : AccountState
  quota : Nat
  charged : Nat
  reserved : Nat

/-- What the laws of pages, entries and accounts speak of. -/
structure Ledger where
  job : Fin 16 → JobView
  entries : List Entry
  openTag : Option Tag
  scan : Option (Tag × Nat)
  money : Fin 256 → MoneyView

def Job.view (j : Job) : JobView := ⟨j.state, j.kind, j.account, j.lastPage⟩

def Account.view (a : Account) : MoneyView := ⟨a.state, a.quota, a.charged, a.reserved⟩

def State.ledger (s : State) : Ledger where
  job h := (s.job h).view
  entries := s.st.entries
  openTag := s.pp.openPage.map fun p => p.tag
  scan := s.sp.page.map fun p => (p.tag, p.reservation)
  money i := (s.account i).view

namespace Ledger

/-- What entries hold against an account. -/
def entriesHeld (entries : List Entry) (i : Fin 256) : Nat :=
  ((entries.filter fun e => e.account == i).map fun e => e.reserved).sum

/-- What the scan page in progress holds against an account. -/
def scanHeld (L : Ledger) (i : Fin 256) : Nat :=
  match L.scan with
  | some p => if (L.job p.1.job).account = i then p.2 else 0
  | none => 0

/-- The laws of pages, entries and accounts. -/
structure Law (L : Ledger) : Prop where
  rise : L.entries.Pairwise fun a b => a.tag.job = b.tag.job → a.tag.page < b.tag.page
  held : ∀ e ∈ L.entries, (L.job e.tag.job).state ≠ .free ∧ ∃ n ∈ (L.job e.tag.job).lastPage, e.tag.page ≤ n
  opened : ∀ t ∈ L.openTag, (L.job t.job).state = .active ∧ (L.job t.job).lastPage = some t.page ∧
    (L.job t.job).kind ≠ .scan
  scans : ∀ p ∈ L.scan, (L.job p.1.job).state = .active ∧ (L.job p.1.job).kind = .scan
  forwarding : ∀ e ∈ L.entries, e.status = .forwarding → L.openTag = some e.tag
  reserved : ∀ i, (L.money i).reserved = entriesHeld L.entries i + L.scanHeld i
  within : ∀ i, (L.money i).charged + (L.money i).reserved ≤ (L.money i).quota
  absent : ∀ i, (L.money i).state = .absent → (L.money i).quota = 0

end Ledger

theorem heldAgainst_eq (s : State) (i : Fin 256) :
    heldAgainst s i = Ledger.entriesHeld s.st.entries i + s.ledger.scanHeld i := by
  simp only [heldAgainst, Ledger.entriesHeld, Ledger.scanHeld, State.ledger]
  cases s.sp.page <;> rfl

/-- The laws of the state are those of its ledger. -/
theorem ledgerLaw_iff (s : State) : LedgerLaw s ↔ s.ledger.Law := by
  constructor
  · intro ⟨hrise, hheld, ⟨hopen, hscan⟩, hprint, hfwd, hacct⟩
    refine ⟨hrise, hheld, ?_, ?_, ?_, fun i => ?_, fun i => (hacct i).2.1, fun i => (hacct i).2.2⟩
    · intro t ht
      obtain ⟨p, hp, rfl⟩ := Option.map_eq_some_iff.mp ht
      exact ⟨(hopen p hp).1, (hopen p hp).2, hprint p hp⟩
    · intro t ht
      obtain ⟨p, hp, rfl⟩ := Option.map_eq_some_iff.mp ht
      exact hscan p hp
    · intro e he hf
      obtain ⟨p, hp, hpt⟩ := hfwd e he hf
      exact Option.map_eq_some_iff.mpr ⟨p, hp, hpt⟩
    · exact (hacct i).1.trans (heldAgainst_eq s i)
  · intro L
    refine ⟨L.rise, L.held, ⟨fun p hp => ?_, fun p hp => ?_⟩, fun p hp => ?_, fun e he hf => ?_,
      fun i => ⟨(L.reserved i).trans (heldAgainst_eq s i).symm, L.within i, L.absent i⟩⟩
    · have h := L.opened p.tag (Option.map_eq_some_iff.mpr ⟨p, hp, rfl⟩)
      exact ⟨h.1, h.2.1⟩
    · exact L.scans (p.tag, p.reservation) (Option.map_eq_some_iff.mpr ⟨p, hp, rfl⟩)
    · exact (L.opened p.tag (Option.map_eq_some_iff.mpr ⟨p, hp, rfl⟩)).2.2
    · obtain ⟨p, hp, hpt⟩ := Option.map_eq_some_iff.mp (L.forwarding e he hf)
      exact ⟨p, hp, hpt⟩

/-! ### Moves of the ledger -/

namespace Ledger

def setJob (L : Ledger) (h : Fin 16) (v : JobView) : Ledger := { L with job := Function.update L.job h v }

def setMoney (L : Ledger) (i : Fin 256) (m : MoneyView) : Ledger := { L with money := Function.update L.money i m }

variable {L : Ledger}

@[simp] theorem setJob_entries (h : Fin 16) (v : JobView) : (L.setJob h v).entries = L.entries := rfl
@[simp] theorem setJob_openTag (h : Fin 16) (v : JobView) : (L.setJob h v).openTag = L.openTag := rfl
@[simp] theorem setJob_scan (h : Fin 16) (v : JobView) : (L.setJob h v).scan = L.scan := rfl
@[simp] theorem setJob_money (h : Fin 16) (v : JobView) : (L.setJob h v).money = L.money := rfl
@[simp] theorem setMoney_entries (i : Fin 256) (m : MoneyView) : (L.setMoney i m).entries = L.entries := rfl
@[simp] theorem setMoney_openTag (i : Fin 256) (m : MoneyView) : (L.setMoney i m).openTag = L.openTag := rfl
@[simp] theorem setMoney_scan (i : Fin 256) (m : MoneyView) : (L.setMoney i m).scan = L.scan := rfl
@[simp] theorem setMoney_job (i : Fin 256) (m : MoneyView) : (L.setMoney i m).job = L.job := rfl

@[simp] theorem setJob_job_self (h : Fin 16) (v : JobView) : (L.setJob h v).job h = v := by simp [setJob]
theorem setJob_job_of_ne {h g : Fin 16} (v : JobView) (hne : g ≠ h) : (L.setJob h v).job g = L.job g := by
  simp [setJob, hne]
@[simp] theorem setMoney_money_self (i : Fin 256) (m : MoneyView) : (L.setMoney i m).money i = m := by simp [setMoney]
theorem setMoney_money_of_ne {i j : Fin 256} (m : MoneyView) (hne : j ≠ i) : (L.setMoney i m).money j = L.money j := by
  simp [setMoney, hne]

@[simp] theorem setJob_setJob (h : Fin 16) (v w : JobView) : (L.setJob h v).setJob h w = L.setJob h w := by
  simp [setJob]

@[simp] theorem setJob_self (h : Fin 16) : L.setJob h (L.job h) = L := by simp [setJob]

@[simp] theorem setMoney_self (i : Fin 256) : L.setMoney i (L.money i) = L := by simp [setMoney]

@[simp] theorem setMoney_scanHeld (i j : Fin 256) (m : MoneyView) : (L.setMoney i m).scanHeld j = L.scanHeld j := rfl

/-- The page of a job that has one in progress is not its entry's concern: an account's reservations by entries alone. -/
theorem entriesHeld_cons (e : Entry) (l : List Entry) (i : Fin 256) :
    entriesHeld (e :: l) i = (if e.account = i then e.reserved else 0) + entriesHeld l i := by
  by_cases h : e.account = i <;> simp [entriesHeld, h]

theorem entriesHeld_append (l r : List Entry) (i : Fin 256) :
    entriesHeld (l ++ r) i = entriesHeld l i + entriesHeld r i := by
  simp [entriesHeld]

/-- A job without pages may take any state that suits its entries. -/
theorem Law.setJob (hL : L.Law) {h : Fin 16} {v : JobView} (hopen : ∀ t ∈ L.openTag, t.job ≠ h)
    (hscan : ∀ p ∈ L.scan, p.1.job ≠ h)
    (hv : ∀ e ∈ L.entries, e.tag.job = h → v.state ≠ .free ∧ ∃ n ∈ v.lastPage, e.tag.page ≤ n) :
    (L.setJob h v).Law where
  rise := hL.rise
  held e he := by
    by_cases hj : e.tag.job = h
    · rw [hj, setJob_job_self]; exact hv e he hj
    · rw [setJob_job_of_ne _ hj]; exact hL.held e he
  opened t ht := by rw [setJob_job_of_ne _ (hopen t ht)]; exact hL.opened t ht
  scans p hp := by rw [setJob_job_of_ne _ (hscan p hp)]; exact hL.scans p hp
  forwarding := hL.forwarding
  reserved i := by
    rw [show (L.setJob h v).scanHeld i = L.scanHeld i from ?_]
    · exact hL.reserved i
    · simp only [scanHeld, setJob_scan]
      split
      next p hp => rw [setJob_job_of_ne _ (hscan p hp)]
      next => rfl
  within := hL.within
  absent := hL.absent

/-- A job that is not ACTIVE has no page. -/
theorem Law.open_ne (hL : L.Law) {h : Fin 16} (hs : (L.job h).state ≠ .active) : ∀ t ∈ L.openTag, t.job ≠ h :=
  fun t ht hj => hs (hj ▸ (hL.opened t ht).1)

theorem Law.scan_ne (hL : L.Law) {h : Fin 16} (hs : (L.job h).state ≠ .active) : ∀ p ∈ L.scan, p.1.job ≠ h :=
  fun p hp hj => hs (hj ▸ (hL.scans p hp).1)

/-- A job without pages may change its state between those that are not FREE. -/
theorem Law.setState (hL : L.Law) {h : Fin 16} {st : JobState} (hst : st ≠ .free) (hopen : ∀ t ∈ L.openTag, t.job ≠ h)
    (hscan : ∀ p ∈ L.scan, p.1.job ≠ h) : (L.setJob h { L.job h with state := st }).Law :=
  hL.setJob hopen hscan fun e he hj => ⟨hst, hj ▸ (hL.held e he).2⟩

/-- An account's money may change while its reservations stay and its quota holds them. -/
theorem Law.setMoney (hL : L.Law) {i : Fin 256} {m : MoneyView} (hr : m.reserved = (L.money i).reserved)
    (hw : m.charged + m.reserved ≤ m.quota) (ha : m.state = .absent → m.quota = 0) : (L.setMoney i m).Law where
  rise := hL.rise
  held := hL.held
  opened := hL.opened
  scans := hL.scans
  forwarding := hL.forwarding
  reserved j := by
    by_cases hj : j = i
    · subst hj; rw [setMoney_money_self, hr]; exact hL.reserved j
    · rw [setMoney_money_of_ne _ hj]; exact hL.reserved j
  within j := by
    by_cases hj : j = i
    · subst hj; rw [setMoney_money_self]; exact hw
    · rw [setMoney_money_of_ne _ hj]; exact hL.within j
  absent j := by
    by_cases hj : j = i
    · subst hj; rw [setMoney_money_self]; exact ha
    · rw [setMoney_money_of_ne _ hj]; exact hL.absent j

/-- With no entry, page or scan page nothing is held against an account, and every job may be FREE. -/
theorem Law.of_empty {job : Fin 16 → JobView} {money : Fin 256 → MoneyView}
    (hr : ∀ i, (money i).reserved = 0) (hw : ∀ i, (money i).charged ≤ (money i).quota)
    (ha : ∀ i, (money i).state = .absent → (money i).quota = 0) : (⟨job, [], none, none, money⟩ : Ledger).Law where
  rise := .nil
  held _ he := absurd he List.not_mem_nil
  opened _ ht := by cases ht
  scans _ hp := by cases hp
  forwarding _ he := absurd he List.not_mem_nil
  reserved i := hr i
  within i := by rw [hr i]; exact hw i
  absent := ha

/-! ### The open page -/

/-- The entry of the open page changed where it is FORWARDING. -/
def modOpen (L : Ledger) (t : Tag) (f : Entry → Entry) : List Entry :=
  L.entries.map fun e => if e.tag == t && e.status == .forwarding then f e else e

theorem modOpen_tag {t : Tag} {f : Entry → Entry} (hf : ∀ e, (f e).tag = e.tag) (e : Entry) :
    (if e.tag == t && e.status == .forwarding then f e else e).tag = e.tag := by
  split
  · exact hf e
  · rfl

/-- A page ends: its FORWARDING entry takes a final status and may hold less, and no page is open. -/
theorem Law.closePage (hL : L.Law) {t : Tag} (ht : L.openTag = some t) {f : Entry → Entry}
    (hf : ∀ e, (f e).tag = e.tag) (hfwd : ∀ e, (f e).status ≠ .forwarding) (money : Fin 256 → MoneyView)
    (hr : ∀ i, (money i).reserved = entriesHeld (L.modOpen t f) i + L.scanHeld i)
    (hm : ∀ i, (money i).charged + (money i).reserved ≤ (money i).quota)
    (ha : ∀ i, (money i).state = .absent → (money i).quota = 0) :
    ({ L with entries := L.modOpen t f, openTag := none, money := money } : Ledger).Law where
  rise := by
    refine List.Pairwise.map _ (fun a b hab => ?_) hL.rise
    simp only [modOpen_tag hf]
    exact hab
  held e he := by
    obtain ⟨x, hx, rfl⟩ := List.mem_map.mp he
    simp only [modOpen_tag hf]
    exact hL.held x hx
  opened _ h := by cases h
  scans := hL.scans
  forwarding e he hst := by
    obtain ⟨x, hx, rfl⟩ := List.mem_map.mp he
    split at hst
    next => exact absurd hst (hfwd x)
    next hn =>
      have hxt : x.tag = t := by
        have := hL.forwarding x hx hst
        rw [ht] at this
        exact (Option.some.inj this).symm
      simp [hxt, hst] at hn
  reserved := hr
  within := hm
  absent := ha

/-- A void keeps the reservation of the entry. -/
theorem entriesHeld_modOpen_of_same {t : Tag} {f : Entry → Entry} (hacc : ∀ e, (f e).account = e.account)
    (hres : ∀ e, (f e).reserved = e.reserved) (i : Fin 256) :
    entriesHeld (L.modOpen t f) i = entriesHeld L.entries i := by
  simp only [modOpen]
  induction L.entries with
  | nil => rfl
  | cons e l ih =>
    rw [List.map_cons, entriesHeld_cons, entriesHeld_cons, ih]
    split <;> simp [hacc, hres]

/-- The open page is voided (R17). -/
theorem Law.voidPage (hL : L.Law) {t : Tag} (ht : L.openTag = some t) :
    ({ L with entries := L.modOpen t fun e => { e with status := .void }, openTag := none } : Ledger).Law := by
  refine hL.closePage (f := fun e => { e with status := .void }) ht (fun _ => rfl) (fun _ => by simp) L.money (fun i => ?_) hL.within hL.absent
  rw [entriesHeld_modOpen_of_same (f := fun e => { e with status := .void }) (fun _ => rfl) (fun _ => rfl)]
  exact hL.reserved i

/-- What the entry of the open page gives up, no other entry of its tag being FORWARDING, leaves its account. -/
theorem entriesHeld_modOpen {e : Entry} {t : Tag} {f : Entry → Entry} (hacc : ∀ x, (f x).account = x.account)
    (l : List Entry) (hrise : l.Pairwise fun a b => a.tag.job = b.tag.job → a.tag.page < b.tag.page)
    (hfind : (l.find? fun x => x.tag == t && x.status == .forwarding) = some e) (i : Fin 256) :
    entriesHeld (l.map fun x => if x.tag == t && x.status == .forwarding then f x else x) i +
        (if e.account = i then e.reserved else 0) =
      entriesHeld l i + (if e.account = i then (f e).reserved else 0) := by
  induction l with
  | nil => simp at hfind
  | cons x l ih =>
    obtain ⟨hx, hl⟩ := List.pairwise_cons.mp hrise
    rw [List.map_cons, entriesHeld_cons, entriesHeld_cons]
    by_cases hxt : (x.tag == t && x.status == .forwarding) = true
    · simp only [List.find?, hxt] at hfind
      cases hfind
      have hrest : (l.map fun y => if y.tag == t && y.status == .forwarding then f y else y) = l := by
        refine List.map_congr_left (fun y hy => ?_) |>.trans (List.map_id l)
        have hne : ¬(y.tag == t && y.status == .forwarding) = true := by
          simp only [Bool.and_eq_true, beq_iff_eq] at hxt ⊢
          rintro ⟨hyt, -⟩
          have := hx y hy (by rw [hxt.1, hyt])
          rw [hxt.1, hyt] at this
          omega
        rw [if_neg hne]; rfl
      rw [hrest, if_pos hxt, hacc]
      omega
    · simp only [List.find?, hxt] at hfind
      have := ih hl hfind
      rw [if_neg hxt]
      omega

/-- The open page completes (R16, R46): its entry keeps the price of the final class where that is lower. -/
theorem Law.completePage (hL : L.Law) {e : Entry} {t : Tag} (ht : L.openTag = some t)
    (hfind : (L.entries.find? fun x => x.tag == t && x.status == .forwarding) = some e) {n : Nat} (hn : n ≤ e.reserved)
    {f : Entry → Entry} (hf : ∀ e, (f e).tag = e.tag) (hfwd : ∀ e, (f e).status ≠ .forwarding)
    (hacc : ∀ e, (f e).account = e.account) (hres : (f e).reserved = n) :
    ({ L with
        entries := L.modOpen t f, openTag := none
        money := Function.update L.money e.account
          { L.money e.account with reserved := (L.money e.account).reserved - (e.reserved - n) } } : Ledger).Law := by
  have hheld (i : Fin 256) := entriesHeld_modOpen hacc L.entries hL.rise hfind i
  have hmem : e ∈ L.entries := List.mem_of_find?_eq_some hfind
  have hle : e.reserved ≤ entriesHeld L.entries e.account := by
    refine List.single_le_sum (by simp) _ (List.mem_map.mpr ⟨e, ?_, rfl⟩)
    simp [hmem]
  refine hL.closePage ht hf hfwd _ (fun i => ?_) (fun i => ?_) (fun i => ?_)
  · have := hheld i
    have hri := hL.reserved i
    rw [hres] at this
    simp only [modOpen]
    by_cases hi : i = e.account
    · subst hi
      simp only [Function.update_self, if_true] at this ⊢
      omega
    · rw [Function.update_of_ne hi]
      rw [if_neg (Ne.symm hi), if_neg (Ne.symm hi)] at this
      omega
  · have := hL.within i
    by_cases hi : i = e.account
    · subst hi
      simp only [Function.update_self]
      omega
    · rw [Function.update_of_ne hi]; exact this
  · by_cases hi : i = e.account
    · subst hi; simpa using hL.absent _
    · rw [Function.update_of_ne hi]; exact hL.absent i

/-- A page is admitted and opened (R10, R45): its price is reserved, its entry stands at the tail, its job has started
it. -/
theorem Law.openPage (hL : L.Law) (hnone : L.openTag = none) {e : Entry} {h : Fin 16} (hj : e.tag.job = h)
    (hactive : (L.job h).state = .active) (hkind : (L.job h).kind ≠ .scan)
    (hnew : ∀ n ∈ (L.job h).lastPage, n < e.tag.page)
    (hquota : (L.money e.account).charged + (L.money e.account).reserved + e.reserved ≤ (L.money e.account).quota) :
    ({ (L.setMoney e.account { L.money e.account with reserved := (L.money e.account).reserved + e.reserved }).setJob h
        { L.job h with lastPage := some e.tag.page } with
      entries := L.entries ++ [e], openTag := some e.tag } : Ledger).Law where
  rise := by
    refine List.pairwise_append.mpr ⟨hL.rise, List.pairwise_singleton .., fun a ha b hb hab => ?_⟩
    rw [List.mem_singleton] at hb
    subst hb
    obtain ⟨n, hn, hle⟩ := (hL.held a ha).2
    rw [hab, hj] at hn
    exact Nat.lt_of_le_of_lt hle (hnew n hn)
  held a ha := by
    dsimp only
    by_cases hah : a.tag.job = h
    · rw [hah, setJob_job_self]
      refine ⟨by simp [hactive], _, rfl, ?_⟩
      obtain ha | ha := List.mem_append.mp ha
      · obtain ⟨n, hn, hle⟩ := (hL.held a ha).2
        rw [hah] at hn
        exact (Nat.lt_of_le_of_lt hle (hnew n hn)).le
      · rw [List.mem_singleton] at ha
        rw [ha]
    · rw [setJob_job_of_ne _ hah]
      obtain ha | ha := List.mem_append.mp ha
      · exact hL.held a ha
      · rw [List.mem_singleton] at ha
        exact absurd (ha ▸ hj) hah
  opened t ht := by
    cases ht
    dsimp only
    rw [hj, setJob_job_self]
    exact ⟨hactive, rfl, hkind⟩
  scans p hp := by
    dsimp only
    by_cases hph : p.1.job = h
    · rw [hph, setJob_job_self]
      exact hph ▸ hL.scans p hp
    · rw [setJob_job_of_ne _ hph]
      exact hL.scans p hp
  forwarding a ha hst := by
    obtain ha | ha := List.mem_append.mp ha
    · have := hL.forwarding a ha hst
      rw [hnone] at this
      cases this
    · rw [List.mem_singleton] at ha
      rw [ha]
  reserved i := by
    have hscan : Ledger.scanHeld { (L.setMoney e.account
        { L.money e.account with reserved := (L.money e.account).reserved + e.reserved }).setJob h
          { L.job h with lastPage := some e.tag.page } with entries := L.entries ++ [e], openTag := some e.tag } i =
        L.scanHeld i := by
      simp only [scanHeld, setJob_scan, setMoney_scan]
      split
      next p _ =>
        by_cases hph : p.1.job = h
        · rw [hph, setJob_job_self]
        · rw [setJob_job_of_ne _ hph, setMoney_job]
      next => rfl
    rw [hscan, entriesHeld_append, entriesHeld_cons]
    have := hL.reserved i
    dsimp only
    rw [setJob_money]
    by_cases hi : i = e.account
    · subst hi
      simp only [setMoney_money_self, if_true, entriesHeld, List.filter_nil, List.map_nil, List.sum_nil] at this ⊢
      omega
    · rw [setMoney_money_of_ne _ hi, if_neg (Ne.symm hi)]
      simpa [entriesHeld] using this
  within i := by
    have := hL.within i
    dsimp only
    rw [setJob_money]
    by_cases hi : i = e.account
    · subst hi; rw [setMoney_money_self]; dsimp only; omega
    · rw [setMoney_money_of_ne _ hi]; exact this
  absent i := by
    dsimp only
    rw [setJob_money]
    by_cases hi : i = e.account
    · subst hi; rw [setMoney_money_self]; exact hL.absent _
    · rw [setMoney_money_of_ne _ hi]; exact hL.absent i

/-! ### Entries that leave -/

/-- The head entry leaves, and what it held is charged or released (R81): the rest of the ledger stays. -/
theorem Law.removeEntry (hL : L.Law) {e : Entry} {rest : List Entry} (he : L.entries = e :: rest) {c : Nat}
    (hc : c ≤ e.reserved) :
    ({ L.setMoney e.account { L.money e.account with
        reserved := (L.money e.account).reserved - e.reserved, charged := (L.money e.account).charged + c } with
      entries := rest } : Ledger).Law where
  rise := by have := hL.rise; rw [he] at this; exact (List.pairwise_cons.mp this).2
  held a ha := hL.held a (by rw [he]; exact List.mem_cons_of_mem _ ha)
  opened := hL.opened
  scans := hL.scans
  forwarding a ha := hL.forwarding a (by rw [he]; exact List.mem_cons_of_mem _ ha)
  reserved i := by
    have := hL.reserved i
    rw [he, entriesHeld_cons] at this
    change (Ledger.money (L.setMoney _ _) i).reserved = entriesHeld rest i + L.scanHeld i
    by_cases hi : i = e.account
    · subst hi; rw [setMoney_money_self]; dsimp only; rw [if_pos rfl] at this; omega
    · rw [setMoney_money_of_ne _ hi]; rw [if_neg (Ne.symm hi)] at this; omega
  within i := by
    have hr := hL.reserved i
    have := hL.within i
    rw [he, entriesHeld_cons] at hr
    change (Ledger.money (L.setMoney _ _) i).charged + (Ledger.money (L.setMoney _ _) i).reserved ≤
      (Ledger.money (L.setMoney _ _) i).quota
    by_cases hi : i = e.account
    · subst hi; rw [setMoney_money_self]; dsimp only; rw [if_pos rfl] at hr; omega
    · rw [setMoney_money_of_ne _ hi]; exact this
  absent i := by
    change (Ledger.money (L.setMoney _ _) i).state = .absent → (Ledger.money (L.setMoney _ _) i).quota = 0
    by_cases hi : i = e.account
    · subst hi; rw [setMoney_money_self]; exact hL.absent _
    · rw [setMoney_money_of_ne _ hi]; exact hL.absent i

/-! ### The scan page -/

/-- The scan page in progress ends, and what it held is charged or released (R127, R128). -/
theorem Law.closeScan (hL : L.Law) {p : Tag × Nat} (hp : L.scan = some p) {c : Nat} (hc : c ≤ p.2) :
    ({ L.setMoney (L.job p.1.job).account { L.money (L.job p.1.job).account with
        reserved := (L.money (L.job p.1.job).account).reserved - p.2
        charged := (L.money (L.job p.1.job).account).charged + c } with scan := none } : Ledger).Law where
  rise := hL.rise
  held := hL.held
  opened := hL.opened
  scans _ h := by cases h
  forwarding := hL.forwarding
  reserved i := by
    have := hL.reserved i
    simp only [scanHeld, hp] at this
    change (Ledger.money (L.setMoney _ _) i).reserved = entriesHeld L.entries i + 0
    by_cases hi : i = (L.job p.1.job).account
    · subst hi; rw [setMoney_money_self]; dsimp only; rw [if_pos rfl] at this; omega
    · rw [setMoney_money_of_ne _ hi]; rw [if_neg (Ne.symm hi)] at this; omega
  within i := by
    have hr := hL.reserved i
    have := hL.within i
    simp only [scanHeld, hp] at hr
    change (Ledger.money (L.setMoney _ _) i).charged + (Ledger.money (L.setMoney _ _) i).reserved ≤
      (Ledger.money (L.setMoney _ _) i).quota
    by_cases hi : i = (L.job p.1.job).account
    · subst hi; rw [setMoney_money_self]; dsimp only; rw [if_pos rfl] at hr; omega
    · rw [setMoney_money_of_ne _ hi]; exact this
  absent i := by
    change (Ledger.money (L.setMoney _ _) i).state = .absent → (Ledger.money (L.setMoney _ _) i).quota = 0
    by_cases hi : i = (L.job p.1.job).account
    · subst hi; rw [setMoney_money_self]; exact hL.absent _
    · rw [setMoney_money_of_ne _ hi]; exact hL.absent i

/-- A scan page is admitted and opened (R125): its price is reserved and its job has started it. -/
theorem Law.openScan (hL : L.Law) (hnone : L.scan = none) {t : Tag} {price : Nat} {h : Fin 16} (hj : t.job = h)
    (hactive : (L.job h).state = .active) (hkind : (L.job h).kind = .scan)
    (hnew : ∀ n ∈ (L.job h).lastPage, n < t.page)
    (hquota : (L.money (L.job h).account).charged + (L.money (L.job h).account).reserved + price ≤
      (L.money (L.job h).account).quota) :
    ({ (L.setMoney (L.job h).account { L.money (L.job h).account with
          reserved := (L.money (L.job h).account).reserved + price }).setJob h
        { L.job h with lastPage := some t.page } with
      scan := some (t, price) } : Ledger).Law where
  rise := hL.rise
  held a ha := by
    dsimp only
    by_cases hah : a.tag.job = h
    · rw [hah, setJob_job_self]
      obtain ⟨n, hn, hle⟩ := (hL.held a ha).2
      rw [hah] at hn
      exact ⟨by simp [hactive], _, rfl, (Nat.lt_of_le_of_lt hle (hnew n hn)).le⟩
    · rw [setJob_job_of_ne _ hah]
      exact hL.held a ha
  opened u hu := by
    have hne : u.job ≠ h := fun huh => (hL.opened u hu).2.2 (huh ▸ hkind)
    dsimp only
    rw [setJob_job_of_ne _ hne]
    exact hL.opened u hu
  scans p hp := by
    cases hp
    dsimp only
    rw [hj, setJob_job_self]
    exact ⟨hactive, hkind⟩
  forwarding := hL.forwarding
  reserved i := by
    have := hL.reserved i
    simp only [scanHeld, hnone] at this
    simp only [scanHeld, hj, setJob_job_self, setJob_money]
    change (Ledger.money (L.setMoney _ _) i).reserved = entriesHeld L.entries i + _
    by_cases hi : i = (L.job h).account
    · subst hi; rw [setMoney_money_self]; dsimp only; rw [if_pos rfl]; omega
    · rw [setMoney_money_of_ne _ hi, if_neg (Ne.symm hi)]; exact this
  within i := by
    have := hL.within i
    change (Ledger.money (L.setMoney _ _) i).charged + (Ledger.money (L.setMoney _ _) i).reserved ≤
      (Ledger.money (L.setMoney _ _) i).quota
    by_cases hi : i = (L.job h).account
    · subst hi; rw [setMoney_money_self]; dsimp only; omega
    · rw [setMoney_money_of_ne _ hi]; exact this
  absent i := by
    change (Ledger.money (L.setMoney _ _) i).state = .absent → (Ledger.money (L.setMoney _ _) i).quota = 0
    by_cases hi : i = (L.job h).account
    · subst hi; rw [setMoney_money_self]; exact hL.absent _
    · rw [setMoney_money_of_ne _ hi]; exact hL.absent i

end Ledger

end Sys2Proof.Machine

/-! PROOFS. The operations of jobs, pages and scans move the ledger as its laws allow (`LedgerKept`). -/

namespace Sys2Proof.Machine

/-- What a move of the state does to the laws of its ledger: they hold after it where they held before. -/
def LedgerKept (s t : State) : Prop := s.ledger.Law → t.ledger.Law

theorem LedgerKept.refl (s : State) : LedgerKept s s := id

theorem LedgerKept.trans {s t u : State} (h : LedgerKept s t) (k : LedgerKept t u) : LedgerKept s u := k ∘ h

/-- The last operation first, as the operations are written. -/
theorem LedgerKept.comp {s t u : State} (k : LedgerKept t u) (h : LedgerKept s t) : LedgerKept s u := k ∘ h

theorem LedgerKept.ite {s t u : State} {p : Prop} [Decidable p] (h : LedgerKept s t) (k : LedgerKept s u) :
    LedgerKept s (if p then t else u) := by
  split
  · exact h
  · exact k

theorem LedgerKept.foldl {α : Type} {f : State → α → State} (l : List α) (h : ∀ s a, LedgerKept s (f s a)) (s : State) :
    LedgerKept s (l.foldl f s) := by
  induction l generalizing s with
  | nil => exact .refl s
  | cons a l ih => exact (h s a).trans (ih (f s a))

theorem LedgerKept.of_eq {s t : State} (h : t.ledger = s.ledger) : LedgerKept s t := by
  unfold LedgerKept; rw [h]; exact id

/-! ### The ledger through the named updates of the state -/

/-- What the ledger is taken from. -/
def State.booked (s : State) : Vector Job 16 × Vector Account 256 × List Entry × Option OpenPage × Option ScanPage :=
  (s.jt, s.acct.records, s.st.entries, s.pp.openPage, s.sp.page)

theorem ledger_of_same {s t : State} (h : t.booked = s.booked) : t.ledger = s.ledger := by
  simp only [State.booked, Prod.mk.injEq] at h
  obtain ⟨hj, ha, he, ho, hp⟩ := h
  simp only [State.ledger, State.job, State.account, hj, ha, he, ho, hp]

section
variable (s : State)

theorem ledger_setJob (h : Fin 16) (j : Job) : (s.setJob h j).ledger = s.ledger.setJob h j.view := by
  simp only [State.ledger, Ledger.setJob, Ledger.mk.injEq]
  refine ⟨funext fun g => ?_, rfl, rfl, rfl, rfl⟩
  by_cases hg : g = h
  · subst hg; simp
  · simp [State.job_setJob_of_ne _ _ hg, hg]

theorem ledger_modJob (h : Fin 16) (f : Job → Job) :
    (s.modJob h f).ledger = s.ledger.setJob h (f (s.job h)).view := ledger_setJob s h _

/-- A change of a job that the laws do not speak of. -/
theorem ledger_modJob_of_view (h : Fin 16) {f : Job → Job} (hf : ∀ j, (f j).view = j.view) :
    (s.modJob h f).ledger = s.ledger := by
  rw [ledger_modJob, hf]
  exact Ledger.setJob_self h

theorem ledger_setAccount (i : Fin 256) (a : Account) : (s.setAccount i a).ledger = s.ledger.setMoney i a.view := by
  simp only [State.ledger, Ledger.setMoney, Ledger.mk.injEq]
  refine ⟨rfl, rfl, rfl, rfl, funext fun g => ?_⟩
  by_cases hg : g = i
  · subst hg; simp
  · simp [State.account_setAccount_of_ne _ _ hg, hg]

/-- A change of a record that the laws do not speak of. -/
theorem ledger_modAccount_of_view (i : Fin 256) {f : Account → Account} (hf : ∀ a, (f a).view = a.view) :
    (s.modAccount i f).ledger = s.ledger := by
  rw [State.modAccount, ledger_setAccount, hf]
  exact Ledger.setMoney_self i

theorem Quiet.ledger {s t : State} (h : Quiet s t) : t.ledger = s.ledger := by
  have hf := h.frame
  have hm : (fun i => (t.account i).view) = fun i => (s.account i).view := by
    funext i
    have := h.money i
    simp only [Account.sameMoney] at this
    rw [← this]
    rfl
  simp only [State.ledger, hm]
  rw [hf]
  rfl

theorem Quiet.kept {s t : State} (h : Quiet s t) : LedgerKept s t := .of_eq h.ledger

theorem ledger_raise (f : Flag) (v : List Val) : (s.raise f v).ledger = s.ledger := rfl

theorem ledger_countStarted (h : Fin 16) : (s.countStarted h).ledger = s.ledger := ledger_modJob_of_view s h fun _ => rfl
theorem ledger_countExited (h : Fin 16) : (s.countExited h).ledger = s.ledger := ledger_modJob_of_view s h fun _ => rfl
theorem ledger_countJammed (h : Fin 16) : (s.countJammed h).ledger = s.ledger := ledger_modJob_of_view s h fun _ => rfl
theorem ledger_countVoided (h : Fin 16) : (s.countVoided h).ledger = s.ledger := ledger_modJob_of_view s h fun _ => rfl
theorem ledger_countRefused (h : Fin 16) : (s.countRefused h).ledger = s.ledger := ledger_modJob_of_view s h fun _ => rfl

theorem ledger_touchIdle (i : Fin 256) : (touchIdle s i).ledger = s.ledger := by
  simp only [touchIdle]
  split <;> rfl

theorem ledger_releaseReservation (i : Fin 256) (n : Nat) : (releaseReservation s i n).ledger =
    s.ledger.setMoney i { s.ledger.money i with reserved := (s.ledger.money i).reserved - n } :=
  ledger_setAccount s i _

theorem ledger_charge (i : Fin 256) (n : Nat) (cls : TariffClass) : (charge s i n cls).ledger =
    s.ledger.setMoney i { s.ledger.money i with
      reserved := (s.ledger.money i).reserved - n, charged := (s.ledger.money i).charged + n } := by
  simp only [charge]
  split
  · rw [commitAccount, (request_quiet _ _).ledger, State.modAccount, ledger_setAccount]
    rw [State.modAccount, State.account_setAccount_self, ledger_setAccount]
    simp [Ledger.setMoney, Account.view, State.ledger]
  · exact ledger_setAccount s i _

/-! ### Voids and drains -/

theorem ledger_voidOpenPage {p : OpenPage} (hp : s.pp.openPage = some p) : (voidOpenPage s).ledger =
    { s.ledger with entries := s.ledger.modOpen p.tag fun e => { e with status := .void }, openTag := none } := by
  have hvoided : (voidOpenPage s).jt =
      (s.modJob p.tag.job fun j => { j with counters := { j.counters with
        voided := satAdd max32 j.counters.voided 1 } }).jt := by
    simp only [voidOpenPage, hp, markDue, sendVoid]
    split <;> rfl
  have hjob : (voidOpenPage s).ledger.job = s.ledger.job := by
    have := congrArg Ledger.job (ledger_countVoided s p.tag.job)
    rw [← this]
    funext h
    simp only [State.ledger, State.job, hvoided]
    rfl
  have hrest : (voidOpenPage s).ledger = { s.ledger with
      job := (voidOpenPage s).ledger.job
      entries := s.ledger.modOpen p.tag fun e => { e with status := .void }, openTag := none } := by
    simp only [voidOpenPage, hp, markDue, sendVoid, State.ledger]
    split <;> rfl
  rw [hrest, hjob]

theorem openTag_of_page {p : OpenPage} (hp : s.pp.openPage = some p) : s.ledger.openTag = some p.tag := by
  simp [State.ledger, hp]

theorem openTag_of_none (hp : s.pp.openPage = none) : s.ledger.openTag = none := by
  simp [State.ledger, hp]

theorem scan_of_page {p : ScanPage} (hp : s.sp.page = some p) : s.ledger.scan = some (p.tag, p.reservation) := by
  simp [State.ledger, hp]

theorem voidOpenPage_of_none (hp : s.pp.openPage = none) : voidOpenPage s = s := by
  simp [voidOpenPage, hp]

theorem voidOpenPage_kept : LedgerKept s (voidOpenPage s) := by
  cases hp : s.pp.openPage with
  | none => rw [voidOpenPage_of_none s hp]; exact .refl s
  | some p =>
    intro h
    rw [ledger_voidOpenPage s hp]
    exact h.voidPage (openTag_of_page s hp)

theorem completeDrain_ledger (h : Fin 16) : (completeDrain s h).ledger =
    s.ledger.setJob h { s.ledger.job h with state := .free } := by
  rw [completeDrain_eq, State.jobDone, ledger_setJob, ledger_raise, (disposeKey_quiet s h).ledger]
  rfl

theorem drainTest_kept (h : Fin 16) : LedgerKept s (drainTest s h) := by
  intro hL
  by_cases hd : drained s h = true
  · rw [drainTest_of_drained hd, completeDrain_ledger]
    obtain ⟨hstate, hentries, hscan, -⟩ := (drained_iff s h).mp hd
    have hne : (s.ledger.job h).state ≠ .active := by simp [State.ledger, Job.view, hstate]
    exact hL.setJob (hL.open_ne hne) (hL.scan_ne hne) fun e he hj => absurd hj (hentries e he)
  · rwa [drainTest_of_not_drained hd]

/-- The ledger once the scan page in progress has ended with nothing charged (R128). -/
theorem voidScanPage_kept : LedgerKept s (voidScanPage s) := by
  cases hp : s.sp.page with
  | none => rw [voidScanPage_of_idle hp]; exact .refl s
  | some p =>
    intro hL
    simp only [voidScanPage, hp]
    refine drainTest_kept _ _ ?_
    have hclose := hL.closeScan (scan_of_page s hp) (Nat.zero_le _)
    have hledger : (((releaseReservation s (s.job p.tag.job).account p.reservation).countVoided p.tag.job).raise
        .pageVoid [.u8 p.tag.job, .u16 p.tag.page, .u8 1]).ledger = s.ledger.setMoney (s.job p.tag.job).account
          { s.ledger.money (s.job p.tag.job).account with
            reserved := (s.ledger.money (s.job p.tag.job).account).reserved - p.reservation } := by
      rw [ledger_raise, ledger_countVoided, ledger_releaseReservation]
    generalize ((releaseReservation s (s.job p.tag.job).account p.reservation).countVoided p.tag.job).raise
        .pageVoid [.u8 p.tag.job, .u16 p.tag.page, .u8 1] = u at hledger
    have hscanless : ({ u with sp := { u.sp with page := none, announced := none } } : State).ledger =
        { u.ledger with scan := none } := rfl
    rw [hscanless, hledger]
    exact hclose

/-! ### What a void leaves of the pages -/

theorem drainTest_pages (h : Fin 16) : (drainTest s h).pp = s.pp ∧ (drainTest s h).sp = s.sp := by
  simp only [drainTest]
  split
  · rw [completeDrain_eq]
    have hq := disposeKey_quiet s h
    constructor
    · show (disposeKey s h).pp = s.pp; rw [hq.frame]
    · show (disposeKey s h).sp = s.sp; rw [hq.frame]
  · exact ⟨rfl, rfl⟩

theorem voidScanPage_pp : (voidScanPage s).pp = s.pp := by
  simp only [voidScanPage]
  split
  · rfl
  · exact (drainTest_pages _ _).1

theorem voidScanPage_page : (voidScanPage s).sp.page = none := by
  simp only [voidScanPage]
  split
  next hp => exact hp
  · rw [(drainTest_pages _ _).2]

theorem voidOpenPage_openPage : (voidOpenPage s).pp.openPage = none := by
  simp only [voidOpenPage]
  split
  next hp => exact hp
  · rfl

theorem voidOpenPage_sp : (voidOpenPage s).sp = s.sp := by
  simp only [voidOpenPage]
  split
  · rfl
  · simp only [markDue, sendVoid]; split <;> rfl

/-- Once the pages of a job have been voided, it has neither an open page nor a scan page in progress. -/
theorem voidPagesOf_openPage (h : Fin 16) : ∀ p ∈ (voidPagesOf s h).pp.openPage, p.tag.job ≠ h := by
  have hopen : ∀ p ∈ (if s.hasOpenPage h then voidOpenPage s else s).pp.openPage, p.tag.job ≠ h := by
    split
    · rw [voidOpenPage_openPage]; simp
    next hn =>
      intro p hp hj
      exact hn (by simp only [State.hasOpenPage, Option.any_eq_true]; exact ⟨p, hp, by simp [hj]⟩)
  simp only [voidPagesOf]
  generalize (if s.hasOpenPage h then voidOpenPage s else s) = t at hopen
  split
  · rw [voidScanPage_pp]; exact hopen
  · exact hopen

theorem voidPagesOf_scanPage (h : Fin 16) : ∀ p ∈ (voidPagesOf s h).sp.page, p.tag.job ≠ h := by
  simp only [voidPagesOf]
  generalize (if s.hasOpenPage h then voidOpenPage s else s) = t
  split
  · rw [voidScanPage_page]; simp
  next hn =>
    intro p hp hj
    exact hn (by simp only [State.hasScanPage, Option.any_eq_true]; exact ⟨p, hp, by simp [hj]⟩)

theorem voidPagesOf_kept (h : Fin 16) : LedgerKept s (voidPagesOf s h) := by
  have hopen : LedgerKept s (if s.hasOpenPage h then voidOpenPage s else s) := .ite (voidOpenPage_kept s) (.refl s)
  exact .ite (.comp (voidScanPage_kept _) hopen) hopen

theorem ledger_dropAnnounced (h : Fin 16) : (dropAnnounced s h).ledger = s.ledger := by
  simp only [dropAnnounced]
  split <;> rfl

/-- Every field of the pages once those of a job have been voided and its announced page dropped. -/
theorem pagesVoided (h : Fin 16) (hL : s.ledger.Law) :
    (dropAnnounced (voidPagesOf s h) h).ledger.Law ∧
      (∀ t ∈ (dropAnnounced (voidPagesOf s h) h).ledger.openTag, t.job ≠ h) ∧
      ∀ p ∈ (dropAnnounced (voidPagesOf s h) h).ledger.scan, p.1.job ≠ h := by
  rw [ledger_dropAnnounced]
  refine ⟨voidPagesOf_kept s h hL, fun t ht => ?_, fun t ht => ?_⟩
  · obtain ⟨p, hp, rfl⟩ := Option.map_eq_some_iff.mp ht
    exact voidPagesOf_openPage s h p hp
  · obtain ⟨p, hp, rfl⟩ := Option.map_eq_some_iff.mp ht
    exact voidPagesOf_scanPage s h p hp

theorem holdJob_kept (h : Fin 16) (r : Reason) : LedgerKept s (holdJob s h r) := by
  intro hL
  have hheld : (((dropAnnounced (voidPagesOf s h) h).modJob h fun j =>
      { j with state := .held, reason := some r }).raise .jobHeld [.u8 h, .u8 r.code]).ledger.Law := by
    obtain ⟨hvoid, hopen, hscan⟩ := pagesVoided s h hL
    rw [ledger_raise, ledger_modJob]
    exact hvoid.setState (by simp) hopen hscan
  simp only [holdJob]
  cases (s.job h).state with
  | active => exact hheld
  | held => exact hheld
  | free => exact hL
  | draining => exact hL

theorem ledger_discardFrames (h : Fin 16) : (discardFrames s h).ledger = s.ledger := rfl

theorem beginDrain_kept (h : Fin 16) (cancel : Bool) : LedgerKept s (beginDrain s h cancel) := by
  intro hL
  obtain ⟨hvoid, hopen, hscan⟩ := pagesVoided s h hL
  simp only [beginDrain]
  split
  · rw [ledger_modJob, ledger_discardFrames]
    exact hvoid.setState (by simp) hopen hscan
  · rw [ledger_modJob]
    exact hvoid.setState (by simp) hopen hscan

theorem ledger_cancelDraining (h : Fin 16) : (cancelDraining s h).ledger = s.ledger := by
  rw [cancelDraining, ledger_discardFrames]; exact ledger_modJob_of_view s h fun _ => rfl

theorem sanitizeJob_kept (h : Fin 16) : LedgerKept s (sanitizeJob s h) := by
  have hreason (t : State) : LedgerKept t (t.modJob h fun j => { j with reason := some .sanitize }) :=
    .of_eq (ledger_modJob_of_view t h fun _ => rfl)
  have hcancel := (beginDrain_kept s h true).trans (hreason _)
  simp only [sanitizeJob]
  refine .ite (.refl s) ?_
  cases (s.job h).state with
  | free => exact .refl s
  | draining => exact LedgerKept.trans (.of_eq (ledger_cancelDraining s h)) (hreason _)
  | active => exact hcancel
  | held => exact hcancel

theorem sanitizeJobs_kept : LedgerKept s (sanitizeJobs s) :=
  .comp (.foldl _ drainTest_kept _) (.foldl _ sanitizeJob_kept s)

/-! ### The page stream -/

theorem ledger_modOpenEntry (t : Tag) (f : Entry → Entry) : (modOpenEntry s t f).ledger =
    { s.ledger with entries := s.ledger.modOpen t f } := rfl

/-- The coverage of a completed page, absent for a MONO page (R71). -/
def pageCoverage (s : State) (p : OpenPage) : Option Nat :=
  let acc := s.dm.accum.getD clearAccum
  match p.mode with
  | .mono => none
  | .color => some (coverage (acc[1].raw + acc[2].raw + acc[3].raw) (p.width * p.planes[0].lines))

/-- The final class of a completed page (R72). -/
def pageClass (s : State) (p : OpenPage) : TariffClass :=
  match pageCoverage s p with
  | none => monoClass p.size
  | some q => finalClass q s.dm.threshold p.size

/-- The conversion of a completed page (R73). -/
def pageConverted (s : State) (p : OpenPage) : State × List PlaneResult :=
  convertPlanes (s.dm.accum.getD clearAccum) s (modePlanes p.mode)

/-- The Deposit Meter after a page: no accumulators, the page's record kept. -/
def pageRecorded (s : State) (p : OpenPage) (m : DepositMeter) : DepositMeter :=
  { m with
    accum := none
    lastRecord := some { tag := p.tag, mode := p.mode, coverage := pageCoverage s p, final := pageClass s p,
                         planes := (pageConverted s p).2 } }

/-- The price a completed page's entry keeps: that of the final class where it is lower (R46). -/
def pagePrice (s : State) (p : OpenPage) (e : Entry) : Nat := min (s.price (pageClass s p)) e.reserved

/-- The settled state of a completed page before its record is kept: what its entry gives up and takes. -/
def pageSettled (s : State) (p : OpenPage) (e : Entry) : State :=
  modOpenEntry (releaseReservation (pageConverted s p).1 e.account (e.reserved - pagePrice s p e)) p.tag fun e =>
    e.completed (pageClass s p) (pagePrice s p e) (pageConverted s p).2

theorem meterPage_of_entry {p : OpenPage} {e : Entry} (he : openEntry? s p.tag = some e) : meterPage s p =
    { pageSettled s p e with dm := pageRecorded s p (pageConverted s p).1.dm } := by
  simp only [meterPage, he]; rfl

theorem meterPage_of_no_entry {p : OpenPage} (he : openEntry? s p.tag = none) : meterPage s p =
    { (pageConverted s p).1 with dm := pageRecorded s p (pageConverted s p).1.dm } := by
  simp only [meterPage, he]; rfl

/-- The completed page's entry keeps a price no higher than its reservation, and the difference leaves its account. -/
theorem ledger_pageSettled (p : OpenPage) (e : Entry) : (pageSettled s p e).ledger = { s.ledger with
      entries := s.ledger.modOpen p.tag fun e => e.completed (pageClass s p) (pagePrice s p e) (pageConverted s p).2
      money := Function.update s.ledger.money e.account { s.ledger.money e.account with
        reserved := (s.ledger.money e.account).reserved - (e.reserved - pagePrice s p e) } } := by
  have hq : (pageConverted s p).1.ledger = s.ledger := (convertPlanes_quiet s _ _).ledger
  rw [pageSettled, ledger_modOpenEntry, ledger_releaseReservation, hq]
  rfl

theorem completePage_kept {p : OpenPage} (hp : s.ledger.openTag = some p.tag) : LedgerKept s (completePage s p) := by
  intro hL
  have hclosed : (completePage s p).ledger =
      { (meterPage (s.emitEngine (markPageEnd p.tag)) p).ledger with openTag := none } := rfl
  rw [hclosed]
  have hL' : (s.emitEngine (markPageEnd p.tag)).ledger.Law := hL
  have hp' : (s.emitEngine (markPageEnd p.tag)).ledger.openTag = some p.tag := hp
  generalize s.emitEngine (markPageEnd p.tag) = t at hL' hp'
  cases he : openEntry? t p.tag with
  | none =>
    have hsame : (meterPage t p).ledger = t.ledger := by
      rw [meterPage_of_no_entry t he]
      exact (ledger_of_same rfl).trans (convertPlanes_quiet t _ _).ledger
    have hnone : t.ledger.modOpen p.tag (fun e => { e with status := .void }) = t.ledger.entries :=
      (List.map_congr_left fun e hmem => if_neg (List.find?_eq_none.mp he e hmem)).trans (List.map_id _)
    have := hL'.voidPage hp'
    rw [hnone] at this
    rwa [hsame]
  | some e =>
    have hsettled : (meterPage t p).ledger = _ :=
      (congrArg State.ledger (meterPage_of_entry t he)).trans ((ledger_of_same rfl).trans (ledger_pageSettled t p e))
    rw [hsettled]
    exact hL'.completePage hp' he (Nat.min_le_right _ _) (fun _ => rfl) (fun _ => by simp [Entry.completed])
      (fun _ => rfl) rfl

end

end Sys2Proof.Machine

/-! PROOFS. The page stream, the Sheet Tracker and the Scan Path move the ledger as its laws allow. -/

namespace Sys2Proof.Machine

section
variable (s : State)

/-! ### The open page -/

theorem judgePage_kept {p : OpenPage} (hp : s.ledger.openTag = some p.tag) : LedgerKept s (judgePage s p) := by
  simp only [judgePage]
  cases p.mode with
  | mono => exact .ite (completePage_kept s hp) (.refl s)
  | color => exact .ite (.ite (completePage_kept s hp) (voidOpenPage_kept s)) (.refl s)

/-- The open page's record may change under its tag. -/
theorem ledger_setOpenPage {p : OpenPage} (hp : s.ledger.openTag = some p.tag) :
    ({ s with pp := { s.pp with openPage := some p } } : State).ledger = s.ledger := by
  have : ({ s with pp := { s.pp with openPage := some p } } : State).ledger =
      { s.ledger with openTag := some p.tag } := rfl
  rw [this, ← hp]

/-- A band that is forwarded, up to the completion of its page (R13). -/
theorem ledger_bandForwarded {p : OpenPage} (hp : s.ledger.openTag = some p.tag) (h : Fin 16) (plane : Fin 4)
    (m a : List Byte) : (((accumulate { s with pp := { s.pp with openPage := some p } } plane a).emitEngine m).modJob h
      fun j => { j with stallCount := some 0 }).ledger = s.ledger := by
  rw [ledger_modJob_of_view]
  · exact ledger_setOpenPage s hp
  · exact fun _ => rfl

theorem forwardBand_kept {p : OpenPage} (hp : s.ledger.openTag = some p.tag) (b : Band) :
    LedgerKept s (forwardBand s p b) := by
  simp only [forwardBand]
  generalize bandTones s p b = a
  generalize markBand b.plane b.last b.index b.lines b.width a = m
  generalize hq : ({ p with planes := p.planes.set b.plane (p.planes[b.plane].accept b.lines b.last) } : OpenPage) = q
  have hqp : s.ledger.openTag = some q.tag := by rw [← hq]; exact hp
  have hled := ledger_bandForwarded s hqp b.job b.plane m a
  refine .ite (.comp (judgePage_kept _ ?_) (.of_eq hled)) (.of_eq hled)
  rw [hled]
  exact hqp

theorem ledger_waitBand (b : Band) (r : WaitReason) : (waitBand s b r).ledger = s.ledger := rfl

theorem bandOfPage_kept {p : OpenPage} (hp : s.ledger.openTag = some p.tag) (b : Band) :
    LedgerKept s (bandOfPage s p b) :=
  .ite (.of_eq (ledger_waitBand s b _)) (.ite (forwardBand_kept s hp b) (voidOpenPage_kept s))

theorem ledger_raiseRefused (h : Fin 16) (n : Nat) : (raiseRefused s h n).ledger = s.ledger := by
  simp only [raiseRefused]
  split <;> rfl

theorem ledger_refuseBand (h : Fin 16) (n : Nat) : (refuseBand s h n).ledger = s.ledger :=
  (ledger_raiseRefused _ h n).trans (ledger_countRefused s h)

theorem refuseAdmission_kept (h : Fin 16) (r : Reason) : LedgerKept s (refuseAdmission s h r) :=
  .comp (.of_eq (ledger_countRefused _ h)) (holdJob_kept s h r)

/-! ### Admission -/

/-- An admitted price is reserved, and the quota holds it. -/
theorem ledger_admissionOf {i : Fin 256} {n price : Nat} {allowed : Bool} {t : State}
    (h : admissionOf s i n allowed = .admitted t price) :
    t.ledger = s.ledger.setMoney i { s.ledger.money i with reserved := (s.ledger.money i).reserved + price } ∧
      (s.ledger.money i).charged + (s.ledger.money i).reserved + price ≤ (s.ledger.money i).quota := by
  simp only [admissionOf] at h
  split_ifs at h with _ _ hquota
  cases h
  exact ⟨(ledger_touchIdle _ i).trans (ledger_setAccount s i _), Nat.not_lt.mp hquota⟩

theorem ledger_pageOpened (b : Band) (cls : TariffClass) (price : Nat) : (s.pageOpened b cls price).ledger =
    { s.ledger.setJob b.job { s.ledger.job b.job with lastPage := some b.page } with
      entries := s.ledger.entries ++ [admittedEntry (s.job b.job) b cls price]
      openTag := some ⟨b.job, b.page⟩ } := by
  have hjobs : (s.pageOpened b cls price).ledger =
      { (s.setJob b.job ((s.job b.job).pageStarted b.page)).ledger with
        entries := s.ledger.entries ++ [admittedEntry (s.job b.job) b cls price]
        openTag := some ⟨b.job, b.page⟩ } := rfl
  rw [hjobs, ledger_setJob]
  rfl

theorem admitPage_kept (b : Band) (hnone : s.ledger.openTag = none) (hactive : (s.ledger.job b.job).state = .active)
    (hkind : (s.ledger.job b.job).kind ≠ .scan) (hnew : ∀ n ∈ (s.ledger.job b.job).lastPage, n < b.page) :
    LedgerKept s (admitPage s b) := by
  intro hL
  simp only [admitPage]
  split
  · exact refuseAdmission_kept s _ _ hL
  · split
    · exact refuseAdmission_kept s _ _ hL
    next t price ha =>
      obtain ⟨ht, hquota⟩ := ledger_admissionOf s ha
      rw [openPageFor_eq]
      refine bandOfPage_kept _ rfl b ?_
      rw [ledger_pageOpened, ht]
      have hjob : (t.job b.job).account = (s.job b.job).account :=
        congrArg (fun L => (Ledger.job L b.job).account) ht
      have hentry : (admittedEntry (t.job b.job) b (t.job b.job).provisionalClass price).account =
          (s.job b.job).account := hjob
      have := hL.openPage hnone (e := admittedEntry (t.job b.job) b (t.job b.job).provisionalClass price) (h := b.job)
        rfl hactive hkind hnew (by rw [hentry]; exact hquota)
      rw [hentry] at this
      exact this

theorem openingBand_kept (b : Band) (hnone : s.ledger.openTag = none) (hactive : (s.ledger.job b.job).state = .active)
    (hkind : (s.ledger.job b.job).kind ≠ .scan) (hnew : ∀ n ∈ (s.ledger.job b.job).lastPage, n < b.page) :
    LedgerKept s (openingBand s b) :=
  .ite (.of_eq (ledger_refuseBand s _ _)) (.ite (.of_eq (ledger_waitBand s _ _))
    (.ite (.of_eq (ledger_waitBand s _ _)) (admitPage_kept s b hnone hactive hkind hnew)))

/-- A page number that is not stale is above the job's last started page. -/
theorem lt_of_not_staleFor {j : Job} {n : Nat} (h : ¬staleFor j n = true) : ∀ m ∈ j.lastPage, m < n := by
  intro m hm
  simp only [staleFor, Option.any_eq_true, decide_eq_true_eq, not_exists, not_and, Nat.not_le] at h
  exact h m hm

theorem examine_kept (b : Band) : LedgerKept s (examine s b) := by
  have hcount : LedgerKept s (s.countRefused b.job) := .of_eq (ledger_countRefused s b.job)
  intro hL
  simp only [examine]
  by_cases hok : (s.job b.job).state ≠ .active ∨ (s.job b.job).kind = .scan
  · rw [if_pos hok]; rwa [ledger_refuseBand]
  rw [if_neg hok]
  have hactive : (s.ledger.job b.job).state = .active := by_contra fun h => hok (.inl h)
  have hkind : (s.ledger.job b.job).kind ≠ .scan := fun h => hok (.inr h)
  by_cases hplane : (s.job b.job).mode = .mono ∧ b.plane ≠ 0
  · rw [if_pos hplane]; exact hcount hL
  rw [if_neg hplane]
  cases hp : s.pp.openPage with
  | none =>
    dsimp only
    split
    · exact hcount hL
    next hfresh => exact openingBand_kept s b (openTag_of_none s hp) hactive hkind (lt_of_not_staleFor hfresh) hL
  | some p =>
    have htag := openTag_of_page s hp
    dsimp only
    split
    next hjob =>
      split
      · exact hcount hL
      next hlow =>
      split
      · exact bandOfPage_kept s htag b hL
      next hne =>
        have hvoid := ledger_voidOpenPage s hp
        have hlast : (s.ledger.job b.job).lastPage = some p.tag.page := hjob ▸ (hL.opened _ htag).2.1
        refine openingBand_kept _ b ?_ ?_ ?_ ?_ (voidOpenPage_kept s hL)
        · rw [hvoid]
        · rw [hvoid]; exact hactive
        · rw [hvoid]; exact hkind
        · rw [hvoid]
          intro n hn
          rw [hlast] at hn
          cases hn
          omega
    · split
      · exact hcount hL
      · exact hL

theorem settleBand_kept : LedgerKept s (settleBand s) := by
  simp only [settleBand]
  cases s.li.bandPosition with
  | none => exact .refl s
  | some w => exact .ite (.comp (examine_kept _ _) (.of_eq (ledger_of_same rfl))) (.refl s)

theorem stallExpiry_kept : LedgerKept s (stallExpiry s) := by
  simp only [stallExpiry]
  cases s.pp.openPage with
  | none => exact .refl s
  | some p =>
    exact .ite (.comp (settleBand_kept _) (.comp (voidOpenPage_kept _)
      (.of_eq (ledger_modJob_of_view s _ fun _ => rfl)))) (.refl s)

theorem tickStall_kept : LedgerKept s (tickStall s) := by
  simp only [tickStall]
  cases s.pp.openPage with
  | none => exact .refl s
  | some p =>
    exact .ite (.ite (stallExpiry_kept s) (.of_eq (ledger_modJob_of_view s _ fun _ => rfl))) (.refl s)

theorem ledger_sendPendingVoid : (sendPendingVoid s).ledger = s.ledger := by
  simp only [sendPendingVoid]
  split
  · split <;> rfl
  · rfl

theorem ledger_sendPathClear : (sendPathClear s).ledger = s.ledger := by
  simp only [sendPathClear]
  split
  · exact (ledger_of_same rfl).trans (ledger_sendPendingVoid s)
  · exact ledger_sendPendingVoid s

theorem setReadyLine_kept (level : Bool) : LedgerKept s (setReadyLine s level) := by
  simp only [setReadyLine]
  exact .ite (.comp (settleBand_kept _) (.of_eq ((ledger_sendPathClear _).trans (ledger_of_same rfl))))
    (.of_eq (ledger_of_same rfl))

/-! ### The Sheet Tracker -/

theorem ledger_trackFault (k : FaultKind) (f : ReportFields) : (trackFault s k f).ledger = s.ledger := rfl

/-- What is charged for a removed entry (R81). -/
def entryCharge (e : Entry) (m : Manner) : Nat :=
  if e.status = .complete ∧ m = .exited then e.reserved else 0

theorem ledger_settleEntry (e : Entry) (m : Manner) : (settleEntry s e m).ledger =
    s.ledger.setMoney e.account { s.ledger.money e.account with
      reserved := (s.ledger.money e.account).reserved - e.reserved
      charged := (s.ledger.money e.account).charged + entryCharge e m } := by
  have hsettled : (if e.status == .complete && m == .exited
      then charge s e.account e.reserved (e.final.getD e.provisional)
      else releaseReservation s e.account e.reserved).ledger =
      s.ledger.setMoney e.account { s.ledger.money e.account with
        reserved := (s.ledger.money e.account).reserved - e.reserved
        charged := (s.ledger.money e.account).charged + entryCharge e m } := by
    by_cases h : e.status = .complete ∧ m = .exited
    · rw [if_pos (by simp [h]), ledger_charge, entryCharge, if_pos h]
    · rw [if_neg (by simpa using h), ledger_releaseReservation, entryCharge, if_neg h]; rfl
  have hdebited (p : Prop) [Decidable p] (t : State) : (if p then debit t e else t).ledger = t.ledger := by
    split
    · exact (debit_quiet t e).ledger
    · rfl
  rw [← hsettled]
  simp only [settleEntry]
  cases m with
  | exited => exact (ledger_countExited _ _).trans (hdebited _ _)
  | cleared => exact hdebited _ _
  | lost => exact (ledger_countJammed _ _).trans (hdebited _ _)
  | developed => exact (ledger_countJammed _ _).trans (hdebited _ _)
  | undeveloped => exact (ledger_countJammed _ _).trans (hdebited _ _)
  | purged => exact (ledger_countJammed _ _).trans (hdebited _ _)

theorem entryCharge_le (e : Entry) (m : Manner) : entryCharge e m ≤ e.reserved := by
  simp only [entryCharge]
  split <;> omega

theorem removeFront_kept (m : Manner) (n : Nat) : LedgerKept s (removeFront m n s) := by
  induction n generalizing s with
  | zero => exact .refl s
  | succ n ih =>
    intro hL
    simp only [removeFront]
    split
    · exact hL
    next e rest he =>
      refine ih _ ?_
      rw [ledger_settleEntry]
      exact hL.removeEntry he (entryCharge_le e m)

theorem holdJam_kept (hs : List (Fin 16)) : LedgerKept s (holdJam s hs) :=
  .foldl hs (fun s h => holdJob_kept s h .jam) s

theorem afterReport_kept (removed : List Entry) : LedgerKept s (afterReport s removed) :=
  .comp (settleBand_kept _) (.foldl _ drainTest_kept s)

theorem exitAt_kept (k c : Nat) (f : ReportFields) : LedgerKept s (exitAt s k c f) := by
  have hfault (t : State) (p : Prop) [Decidable p] (x : FaultKind) : LedgerKept t (if p then trackFault t x f else t) :=
    LedgerKept.ite (.of_eq (ledger_trackFault t x f)) (.refl t)
  simp only [exitAt]
  refine .comp (afterReport_kept _ _) (.trans ?_ (.ite (holdJam_kept _ _) (.refl _)))
  refine .trans ?_ (hfault _ _ .short)
  refine .comp (removeFront_kept _ .exited c) (.comp (removeFront_kept _ .lost k) (.trans (hfault s (0 < k) .skip) ?_))
  exact .ite (.comp (voidOpenPage_kept _) (.of_eq (ledger_trackFault _ _ f))) (.refl _)

theorem sheetExit_kept (job : Byte) (page : Half) (count : Byte) : LedgerKept s (sheetExit s job page count) := by
  simp only [sheetExit]
  split
  · exact exitAt_kept s _ _ _
  · exact .of_eq (ledger_of_same rfl)

theorem sheetJam_kept (lost developed : Byte) : LedgerKept s (sheetJam s lost developed) := by
  simp only [sheetJam]
  refine .comp (afterReport_kept _ _) (.comp (holdJam_kept _ _) (.comp (removeFront_kept _ _ _)
    (.comp (removeFront_kept _ _ _) (.comp (voidOpenPage_kept _) ?_))))
  exact .ite (.of_eq (ledger_trackFault s _ _)) (.refl s)

theorem pathPurge_kept : LedgerKept s (pathPurge s) :=
  .comp (afterReport_kept _ _) (.comp (holdJam_kept _ _) (.comp (removeFront_kept _ _ _) (voidOpenPage_kept s)))

theorem ledger_linkError (l : LinkName) : (s.linkError l).ledger = s.ledger := rfl

theorem engineBytes_kept (frame : List Byte) : LedgerKept s (engineBytes s frame) := by
  simp only [engineBytes]
  split
  · exact sheetExit_kept s _ _ _
  · exact sheetJam_kept s _ _
  · exact pathPurge_kept s
  · exact .of_eq (ledger_linkError s _)

/-! ### The Scan Path -/

theorem completeScanPage_kept : LedgerKept s (completeScanPage s) := by
  simp only [completeScanPage]
  cases hp : s.sp.page with
  | none => exact .refl s
  | some p =>
    refine .ite ?_ (.refl s)
    refine .comp (drainTest_kept _ _) fun hL => ?_
    have hclose := hL.closeScan (scan_of_page s hp) (Nat.le_refl _)
    have hledger : ((charge s (s.job p.tag.job).account p.reservation .scan).countExited p.tag.job).ledger = _ :=
      (ledger_countExited _ _).trans (ledger_charge s _ _ _)
    generalize ((charge s (s.job p.tag.job).account p.reservation .scan).countExited p.tag.job) = t at hledger
    have hidle : ({ t with sp := { t.sp with page := none } } : State).ledger = { t.ledger with scan := none } := rfl
    rw [hidle, hledger]
    exact hclose

theorem scannerPageBegin_kept (page : Nat) : LedgerKept s (scannerPageBegin s page) :=
  LedgerKept.trans (.ite (voidScanPage_kept s) (.refl s)) (.of_eq (ledger_of_same rfl))

/-- The scan page's record may change under its tag and reservation. -/
theorem ledger_setScanPage {p : ScanPage} (hp : s.ledger.scan = some (p.tag, p.reservation)) :
    ({ s with sp := { s.sp with page := some p } } : State).ledger = s.ledger := by
  have : ({ s with sp := { s.sp with page := some p } } : State).ledger =
      { s.ledger with scan := some (p.tag, p.reservation) } := rfl
  rw [this, ← hp]

theorem takeScanBand_kept (h : Fin 16) {p : ScanPage} (hp : s.ledger.scan = some (p.tag, p.reservation)) (i : Fin 3)
    (b : ScannerBand) : LedgerKept s (takeScanBand s h p i b) := by
  simp only [takeScanBand]
  refine .ite (.of_eq ?_) (voidScanPage_kept s)
  exact (ledger_of_same rfl).trans (ledger_setScanPage s (p := { p with
    planes := p.planes.set i (p.planes[i].accept b.lines.toNat b.last), inBuffer := p.inBuffer + 1 }) hp)

theorem refuseScanPage_kept (h : Fin 16) (r : Reason) : LedgerKept s (refuseScanPage s h r) :=
  .comp (.of_eq ((ledger_of_same rfl).trans (ledger_countRefused _ h))) (holdJob_kept s h r)

theorem openScanPage_kept {n price : Nat} {allowed : Bool} {t : State} {h : Fin 16}
    (ha : admissionOf s (s.job h).account n allowed = .admitted t price) (hnone : s.ledger.scan = none)
    (hactive : (s.ledger.job h).state = .active) (hkind : (s.ledger.job h).kind = .scan) (c : Fin 3) (b : ScannerBand)
    (hnew : ∀ n ∈ (s.ledger.job h).lastPage, n < b.page.toNat) : LedgerKept s (openScanPage t h c b price) := by
  intro hL
  obtain ⟨ht, hquota⟩ := ledger_admissionOf s ha
  have hopen := hL.openScan hnone (t := ⟨h, b.page.toNat⟩) rfl hactive hkind hnew hquota
  have hstarted : (((({ t with sp := { t.sp with
        page := some ⟨false, ⟨h, b.page.toNat⟩, b.width.toNat, Vector.replicate 3 PlaneRec.initial, price, 0⟩
        announced := none } } : State).modJob h fun j => { j with lastPage := some b.page.toNat })).countStarted h).ledger =
      { t.ledger.setJob h { t.ledger.job h with lastPage := some b.page.toNat } with
        scan := some (⟨h, b.page.toNat⟩, price) } := by
    rw [ledger_countStarted, ledger_modJob]
    rfl
  simp only [openScanPage]
  refine takeScanBand_kept _ h ?_ c b ?_
  · rw [hstarted]
  · rw [hstarted, ht]
    rw [Ledger.setMoney_job]
    exact hopen

theorem openingScanBand_kept {h : Fin 16} (hnone : s.ledger.scan = none) (hactive : (s.ledger.job h).state = .active)
    (hkind : (s.ledger.job h).kind = .scan) (c : Fin 3) (b : ScannerBand) : LedgerKept s (openingScanBand s h c b) := by
  simp only [openingScanBand]
  by_cases hstale : staleFor (s.job h) b.page.toNat = true
  · rw [if_pos hstale]; exact .of_eq (ledger_countRefused s h)
  rw [if_neg hstale]
  refine .ite (.of_eq (ledger_refuseBand s h _)) (.ite (refuseScanPage_kept s h _) ?_)
  split
  · exact refuseScanPage_kept s h _
  next ha => exact openScanPage_kept s ha hnone hactive hkind c b (lt_of_not_staleFor hstale)

theorem scanBand_kept {h : Fin 16} (hactive : (s.job h).state = .active) (hkind : (s.job h).kind = .scan)
    (b : ScannerBand) : LedgerKept s (scanBand s h b) := by
  simp only [scanBand]
  split
  · exact .of_eq (ledger_countRefused s h)
  next c _ =>
    cases hp : s.sp.page with
    | none => exact openingScanBand_kept s (by simp [State.ledger, hp]) hactive hkind c b
    | some p => exact takeScanBand_kept s h (scan_of_page s hp) c b

theorem scannerPageEnd_kept : LedgerKept s (scannerPageEnd s) := by
  simp only [scannerPageEnd]
  cases hp : s.sp.page with
  | none => exact .of_eq (ledger_of_same (by simp [State.booked, hp]))
  | some p =>
    refine .ite (.refl s) (.ite (.comp (completeScanPage_kept _) (.of_eq ?_)) (voidScanPage_kept s))
    exact ledger_setScanPage s (p := { p with ended := true }) ((scan_of_page s hp).trans rfl)

/-- The ACTIVE scan job is an ACTIVE job of kind SCAN. -/
theorem activeScan_spec {h : Fin 16} (ha : s.activeScan = some h) :
    (s.job h).state = .active ∧ (s.job h).kind = .scan := by
  have := List.find?_some ha
  simpa [and_comm] using this

theorem scannerFrame_kept (f : ScannerFrame) : LedgerKept s (scannerFrame s f) := by
  have herror : LedgerKept s (s.linkError .scanner) := .of_eq (ledger_linkError s _)
  simp only [scannerFrame]
  refine .ite herror ?_
  cases f with
  | pageBegin page => exact scannerPageBegin_kept s _
  | pageEnd => exact scannerPageEnd_kept s
  | band b =>
    refine .ite ?_ herror
    cases ha : s.activeScan with
    | none => exact .refl s
    | some h => exact scanBand_kept s (activeScan_spec s ha).1 (activeScan_spec s ha).2 b

theorem scannerBytes_kept (frame : List Byte) : LedgerKept s (scannerBytes s frame) := by
  simp only [scannerBytes]
  split
  · exact scannerFrame_kept s _
  · exact .of_eq (ledger_linkError s _)

/-! ### The upstream half of the controller link -/

theorem stopAtHead_kept (h : Fin 16) : LedgerKept s (stopAtHead s h) := by
  simp only [stopAtHead]
  refine LedgerKept.trans (t := { s with sp := { s.sp with buffer := s.sp.buffer.filter fun f => f.tag.job != h } })
    (.of_eq (ledger_of_same rfl)) ?_
  generalize ({ s with sp := { s.sp with buffer := s.sp.buffer.filter fun f => f.tag.job != h } } : State) = u
  have hvoided : LedgerKept u (if u.hasScanPage h then voidScanPage u else u) := .ite (voidScanPage_kept u) (.refl u)
  generalize (if u.hasScanPage h then voidScanPage u else u) = t at hvoided
  refine hvoided.trans ?_
  cases (t.job h).state with
  | active => exact holdJob_kept t h _
  | free => exact drainTest_kept t h
  | held => exact drainTest_kept t h
  | draining => exact drainTest_kept t h

theorem upstreamBegin_kept : LedgerKept s (upstreamBegin s) := by
  simp only [upstreamBegin]
  split
  · exact .refl s
  · split
    · exact .of_eq (ledger_of_same rfl)
    · split
      · exact .of_eq (ledger_of_same rfl)
      · exact .ite (.of_eq (ledger_of_same rfl)) (stopAtHead_kept s _)
      · exact .refl s

theorem ledger_noticeSent : (noticeSent s).ledger = s.ledger := by
  simp only [noticeSent]
  split
  · split <;> rfl
  · rfl

theorem scanFrameSent_kept : LedgerKept s (scanFrameSent s) := by
  simp only [scanFrameSent]
  split
  next f buffered _ =>
    refine .ite (.comp (drainTest_kept _ _) (.comp (completeScanPage_kept _) (.of_eq ?_))) (.of_eq (ledger_of_same rfl))
    cases hp : s.sp.page with
    | none => exact ledger_of_same (by simp [State.booked, State.emitUpstream, hp])
    | some p =>
      have hscan : s.ledger.scan = (s.sp.page.map fun p => if p.tag = f.tag then
          { p with inBuffer := p.inBuffer - 1 } else p).map fun p => (p.tag, p.reservation) := by
        rw [scan_of_page s hp, hp]
        simp only [Option.map_some]
        split <;> rfl
      have hframe (q : Option ScanPage) (b : List ScanFrame) : ({ s with sp := { s.sp with
          buffer := b, page := q } } : State).ledger = { s.ledger with scan := q.map fun p => (p.tag, p.reservation) } :=
        rfl
      exact (hframe _ _).trans (congrArg (fun x => { s.ledger with scan := x }) hscan.symm)
  · exact .refl s

end

end Sys2Proof.Machine

/-! PROOFS. The commands, the resets, the store's events and the ticks move the ledger as its laws allow, and so does a
step: the laws of pages, entries and accounts (O56) are an invariant. -/

namespace Sys2Proof.Machine

section
variable (s : State)

/-! ### Requests, timers and settings -/

theorem ledger_request (q : StoreRequest) : (request s q).1.ledger = s.ledger := (request_quiet s q).ledger

theorem requestOwn_kept (q : StoreRequest) : LedgerKept s (requestOwn s q) := (requestOwn_step s q).quiet.kept

theorem requestRegion_kept (g : Region) : LedgerKept s (requestRegion s g) := (requestRegion_step s g).quiet.kept

theorem startIfReady_kept : LedgerKept s (startIfReady s) := (startIfReady_step s).quiet.kept

theorem ledger_stopChannel (c : Fin 4) : (stopChannel s c).ledger = s.ledger := rfl

/-! ### Accounts -/

theorem ledger_storeAccount (i : Fin 256) (a : Account) : (storeAccount s i a).ledger = s.ledger.setMoney i a.view := by
  rw [storeAccount, commitAccount, ledger_request, ledger_setAccount]
  rfl

/-- A record may be replaced by one with the same reservations, whose quota holds what it owes. -/
theorem storeAccount_kept (i : Fin 256) (a : Account) (hr : s.ledger.Law → a.reserved = (s.account i).reserved)
    (hw : s.ledger.Law → a.charged + a.reserved ≤ a.quota) (ha : a.state = .absent → a.quota = 0) :
    LedgerKept s (storeAccount s i a) := by
  intro hL
  rw [ledger_storeAccount]
  exact hL.setMoney (hr hL) (hw hL) ha

theorem AccountState.ofByte_ne_absent {b : Byte} {st : AccountState} (h : AccountState.ofByte b = some st) :
    st ≠ .absent := by
  simp only [AccountState.ofByte] at h
  split at h <;> cases h <;> decide

/-- An ABSENT record owes nothing. -/
theorem reserved_of_absent {i : Fin 256} (hL : s.ledger.Law) (h : (s.account i).state = .absent) :
    (s.account i).reserved = 0 := by
  have hq : (s.account i).quota = 0 := hL.absent i h
  have hw : (s.account i).charged + (s.account i).reserved ≤ (s.account i).quota := hL.within i
  omega

theorem Account.quotaFor_ge (a : Account) (q : Nat) : a.charged + a.reserved ≤ a.quotaFor q := Nat.le_max_right ..

theorem cmdAdjustQuota_kept (i : Byte) (q : Word) : LedgerKept s (cmdAdjustQuota i q s).1 := by
  simp only [cmdAdjustQuota]
  split
  · exact .refl s
  next h => exact storeAccount_kept s _ _ (fun _ => rfl) (fun _ => Account.quotaFor_ge _ _) fun ha => absurd ha h

theorem cmdLoadAccount_kept (a : LoadAccountArgs) : LedgerKept s (cmdLoadAccount a s).1 := by
  simp only [cmdLoadAccount]
  split
  · exact .refl s
  next st hst =>
    split_ifs with _ habsent
    · exact .refl s
    · exact .refl s
    · refine storeAccount_kept s _ _ (fun hL => (reserved_of_absent s hL habsent).symm)
        (fun _ => ?_) fun h => absurd h (AccountState.ofByte_ne_absent hst)
      simp [loadedAccount]
    · exact .refl s
    · exact storeAccount_kept s _ _ (fun _ => rfl) (fun _ => Account.quotaFor_ge _ _) fun h => absurd h habsent

theorem cmdUnloadAccount_kept (i : Byte) : LedgerKept s (cmdUnloadAccount i s).1 := by
  simp only [cmdUnloadAccount]
  split_ifs with _ hbusy
  · exact .refl s
  · exact .refl s
  · exact .refl s
  · refine storeAccount_kept s _ _ (fun _ => ?_) (fun _ => ?_) fun _ => rfl
    · rw [not_or] at hbusy
      exact (Nat.eq_zero_of_not_pos hbusy.1).symm
    · simp [Account.blank]

theorem cmdSetAccountState_kept (i t : Byte) : LedgerKept s (cmdSetAccountState i t s).1 := by
  simp only [cmdSetAccountState]
  split
  · exact .refl s
  next st hst =>
    split_ifs
    · exact .refl s
    · exact .refl s
    · exact storeAccount_kept s _ _ (fun _ => rfl) (fun hL => hL.within _) fun h =>
        absurd h (AccountState.ofByte_ne_absent hst)

theorem cmdOpenSession_kept (i : Byte) : LedgerKept s (cmdOpenSession i s).1 := by
  simp only [cmdOpenSession]
  split
  · exact .refl s
  · split
    · exact .refl s
    · exact .refl s
    · exact .of_eq (ledger_of_same rfl)

theorem cmdCloseSession_kept : LedgerKept s (cmdCloseSession s).1 := by
  simp only [cmdCloseSession]
  split
  · exact .of_eq ((ledger_stopChannel _ 0).trans (ledger_of_same rfl))
  · exact .refl s

/-! ### Jobs -/

/-- A FREE job has no entry and no page. -/
theorem freeContext_spec {h : Fin 16} (hf : freeContext? s = some h) : (s.job h).state = .free := by
  have := List.find?_some hf
  simpa using this

/-- A FREE context may take a job, whose pages are all to come (R27). -/
theorem setJob_kept_of_free {h : Fin 16} (hf : (s.job h).state = .free) (j : Job) : LedgerKept s (s.setJob h j) := by
  intro hL
  have hne : (s.ledger.job h).state ≠ .active := by simp [State.ledger, Job.view, hf]
  rw [ledger_setJob]
  exact hL.setJob (hL.open_ne hne) (hL.scan_ne hne) fun e he hj => absurd (by rw [hj]; exact hf) (hL.held e he).1

theorem opened_kept {h : Fin 16} (hf : (s.job h).state = .free) (j : Job) (i : Fin 256) :
    LedgerKept s (touchIdle (dropWaiting ((s.setJob h j).setMarker h none) h) i) :=
  .comp (.of_eq ((ledger_touchIdle _ i).trans (ledger_of_same rfl))) (setJob_kept_of_free s hf j)

theorem openAt_kept {h : Fin 16} (hf : (s.job h).state = .free) (kind : JobKind) (mode : ColourMode)
    (size : Option SizeClass) (a : OpenJobArgs) : LedgerKept s (openAt s h kind mode size a).1 := by
  simp only [openAt]
  split
  · exact opened_kept s hf _ _
  next k _ =>
    have hkeys := openKeys_quiet s k kind (s.account (byteIndex a.account)).id h
    have hfree : ((openKeys s kind k (s.account (byteIndex a.account)).id h).job h).state = .free :=
      (congrArg (fun L => (Ledger.job L h).state) hkeys.ledger).trans hf
    cases kind <;> exact hkeys.kept.trans (opened_kept _ hfree _ _)

theorem cmdOpenJob_kept (a : OpenJobArgs) : LedgerKept s (cmdOpenJob a s).1 := by
  simp only [cmdOpenJob]
  split
  · split
    · exact .refl s
    · split
      · exact .refl s
      · exact .refl s
      next h _ hf => exact openAt_kept s (freeContext_spec s hf) _ _ _ a
  · exact .refl s

theorem cmdResumeJob_kept (handle : Byte) : LedgerKept s (cmdResumeJob handle s).1 := by
  simp only [cmdResumeJob]
  split
  · exact .refl s
  next h _ =>
    split
    next hheld =>
      intro hL
      have hne : (s.ledger.job h).state ≠ .active := by simp [State.ledger, Job.view, hheld]
      have hled : ((s.modJob h fun j => { j with state := .active, reason := none }).setMarker h none).ledger =
          s.ledger.setJob h { s.ledger.job h with state := .active } :=
        ledger_modJob s h fun j => { j with state := .active, reason := none }
      exact hled ▸ hL.setState (by simp) (hL.open_ne hne) (hL.scan_ne hne)
    all_goals exact .refl s

theorem cmdCloseJob_kept (handle : Byte) : LedgerKept s (cmdCloseJob handle s).1 := by
  simp only [cmdCloseJob]
  split
  · exact .refl s
  · split
    · exact .refl s
    · exact .refl s
    · exact .comp (drainTest_kept _ _) (beginDrain_kept s _ _)

theorem cmdCancelJob_kept (handle : Byte) : LedgerKept s (cmdCancelJob handle s).1 := by
  simp only [cmdCancelJob]
  split
  · exact .refl s
  · split
    · exact .refl s
    · split
      · exact .refl s
      · exact .comp (drainTest_kept _ _) (.of_eq (ledger_cancelDraining s _))
    · exact .comp (drainTest_kept _ _) (beginDrain_kept s _ _)

/-! ### The path reset -/

theorem settleEntry_entries (e : Entry) (m : Manner) : (settleEntry s e m).ledger.entries = s.ledger.entries := by
  rw [ledger_settleEntry]; rfl

theorem settleEntry_openTag (e : Entry) (m : Manner) : (settleEntry s e m).ledger.openTag = s.ledger.openTag := by
  rw [ledger_settleEntry]; rfl

/-- Entries leave from the head. -/
theorem removeFront_entries (m : Manner) (n : Nat) : (removeFront m n s).st.entries = s.st.entries.drop n := by
  induction n generalizing s with
  | zero => rfl
  | succ n ih =>
    simp only [removeFront]
    split
    next he => rw [he, List.drop_nil]
    next e rest he =>
      have hsettled : (settleEntry { s with st := { s.st with entries := rest } } e m).st.entries = rest :=
        settleEntry_entries _ e m
      rw [ih, hsettled, he, List.drop_succ_cons]

theorem removeFront_openTag (m : Manner) (n : Nat) : (removeFront m n s).ledger.openTag = s.ledger.openTag := by
  induction n generalizing s with
  | zero => rfl
  | succ n ih =>
    simp only [removeFront]
    split
    · rfl
    · rw [ih, settleEntry_openTag]; rfl

theorem resetPageStream_kept : LedgerKept s (resetPageStream s) :=
  (voidOpenPage_kept s).trans (.of_eq (ledger_of_same rfl))

theorem resetPageStream_openTag : (resetPageStream s).ledger.openTag = none :=
  openTag_of_none _ (voidOpenPage_openPage s)

theorem clearTracker_kept : LedgerKept s (clearTracker s) := by
  simp only [clearTracker]
  exact .ite (.comp (.of_eq (ledger_of_same rfl)) (removeFront_kept s _ _))
    (.comp (.of_eq (ledger_of_same rfl)) (removeFront_kept s _ _))

theorem clearTracker_ledger : (clearTracker s).ledger = (removeFront .cleared s.st.entries.length s).ledger := by
  simp only [clearTracker]
  split <;> rfl

theorem clearTracker_entries : (clearTracker s).ledger.entries = [] := by
  rw [clearTracker_ledger]
  exact (removeFront_entries s _ _).trans (List.drop_eq_nil_of_le (Nat.le_refl _))

theorem clearTracker_openTag : (clearTracker s).ledger.openTag = s.ledger.openTag := by
  rw [clearTracker_ledger, removeFront_openTag]

/-- What no drain changes: the entries and the pages. -/
theorem drainTest_entries (h : Fin 16) : (drainTest s h).ledger.entries = s.ledger.entries ∧
    (drainTest s h).ledger.openTag = s.ledger.openTag := by
  by_cases hd : drained s h = true
  · rw [drainTest_of_drained hd, completeDrain_ledger]; exact ⟨rfl, rfl⟩
  · rw [drainTest_of_not_drained hd]; exact ⟨rfl, rfl⟩

theorem voidScanPage_entries : (voidScanPage s).ledger.entries = s.ledger.entries ∧
    (voidScanPage s).ledger.openTag = s.ledger.openTag := by
  simp only [voidScanPage]
  cases s.sp.page with
  | none => exact ⟨rfl, rfl⟩
  | some p => exact drainTest_entries _ _

theorem resetScanPath_kept : LedgerKept s (resetScanPath s) := (voidScanPage_kept s).trans (.of_eq (ledger_of_same rfl))

theorem resetScanPath_ledger : (resetScanPath s).ledger = (voidScanPage s).ledger := ledger_of_same rfl

/-- An account that reserves nothing, within its quota. -/
def MoneyView.Clear (m : MoneyView) : Prop := m.reserved = 0 ∧ m.charged ≤ m.quota ∧ (m.state = .absent → m.quota = 0)

/-- Where nothing is queued, open or in progress, the laws speak of the accounts alone. -/
theorem Ledger.Law.of_nothing {L : Ledger} (he : L.entries = []) (ho : L.openTag = none) (hs : L.scan = none)
    (hclear : ∀ i, (L.money i).Clear) : L.Law := by
  obtain ⟨_, _, _, _, _⟩ := L
  subst he ho hs
  exact .of_empty (fun i => (hclear i).1) (fun i => (hclear i).2.1) fun i => (hclear i).2.2

theorem Ledger.Law.reserved_eq_zero {L : Ledger} (hL : L.Law) (he : L.entries = []) (hs : L.scan = none) (i : Fin 256) :
    (L.money i).reserved = 0 := by
  rw [hL.reserved i, he, scanHeld, hs]; rfl

theorem resetJobs_ledger : (resetJobs s).ledger.entries = s.ledger.entries ∧
    (resetJobs s).ledger.openTag = s.ledger.openTag ∧ (resetJobs s).ledger.scan = s.ledger.scan ∧
    (resetJobs s).ledger.money = s.ledger.money := ⟨rfl, rfl, rfl, rfl⟩

theorem resetJobs_kept (he : s.ledger.entries = []) (ho : s.ledger.openTag = none) (hs : s.ledger.scan = none) :
    LedgerKept s (resetJobs s) := by
  intro hL
  obtain ⟨he', ho', hs', hm⟩ := resetJobs_ledger s
  refine .of_nothing (he'.trans he) (ho'.trans ho) (hs'.trans hs) fun i => ?_
  rw [hm]
  exact ⟨hL.reserved_eq_zero he hs i, Nat.le_trans (Nat.le_add_right _ _) (hL.within i), hL.absent i⟩

theorem ledger_resetNotices : (resetNotices s).ledger = s.ledger := rfl

theorem pathReset_kept : LedgerKept s (pathReset s) := by
  intro hL
  have hcleared := resetScanPath_kept _ (clearTracker_kept _ (resetPageStream_kept s hL))
  have hentries : (resetScanPath (clearTracker (resetPageStream s))).ledger.entries = [] := by
    rw [resetScanPath_ledger, (voidScanPage_entries _).1, clearTracker_entries]
  have hopen : (resetScanPath (clearTracker (resetPageStream s))).ledger.openTag = none := by
    rw [resetScanPath_ledger, (voidScanPage_entries _).2, clearTracker_openTag, resetPageStream_openTag]
  have hscan : (resetScanPath (clearTracker (resetPageStream s))).ledger.scan = none := by
    rw [resetScanPath_ledger]; simp only [State.ledger, voidScanPage_page]; rfl
  have hslots (t : State) : LedgerKept t (slots.foldl pathResetSlot t) :=
    .foldl _ (fun t c => (pathResetSlot_step t c).quiet.kept) t
  simp only [pathReset]
  generalize resetScanPath (clearTracker (resetPageStream s)) = t at hcleared hentries hopen hscan
  exact LedgerKept.comp (t := slots.foldl pathResetSlot (resetJobs t)) (.of_eq (ledger_resetNotices _)) (hslots _)
    (resetJobs_kept t hentries hopen hscan hcleared)

/-! ### The load of the Meter Store -/

theorem Account.blank_clear : Account.blank.view.Clear := ⟨rfl, Nat.le_refl _, fun _ => rfl⟩

theorem loadRecord_clear (m : Memory) (i : Fin 256) : (loadRecord m i).view.Clear := by
  simp only [loadRecord]
  split
  · simp only [decodeAccount]
    split
    · exact Account.blank_clear
    next st hst =>
      split
      · exact Account.blank_clear
      · exact ⟨rfl, Nat.min_le_left .., fun h => absurd h (AccountState.ofByte_ne_absent hst)⟩
  · exact Account.blank_clear

theorem account_loaded (i : Fin 256) : (loaded s).account i =
    if duplicateBelow (loadRecords s.ms.memory) i then { Account.blank with dirty := true }
    else loadRecord s.ms.memory i := by
  simp only [State.account, loaded, keepLowest, loadRecords, Fin.getElem_fin, Vector.getElem_ofFn, Fin.eta]
  rfl

theorem account_loaded_clear (i : Fin 256) : ((loaded s).account i).view.Clear := by
  rw [account_loaded]
  split
  · exact Account.blank_clear
  · exact loadRecord_clear _ i

theorem loaded_kept : LedgerKept s (loaded s) := by
  intro _
  have he : (loaded s).ledger.entries = [] := rfl
  have ho : (loaded s).ledger.openTag = none := rfl
  have hp : (loaded s).ledger.scan = none := rfl
  have hm (i : Fin 256) : (loaded s).ledger.money i = ((loaded s).account i).view := rfl
  exact .of_nothing he ho hp fun i => (hm i).symm ▸ account_loaded_clear s i

theorem powerOn_kept : LedgerKept s (powerOn s) := by
  refine .comp (.foldl _ (fun t k => ?_) _) (loaded_kept s)
  exact .ite (enterErasing_quiet t k _).kept (.refl t)

end

end Sys2Proof.Machine

/-! PROOFS. A command, an event of the store, a tick and so a step move the ledger as its laws allow: the laws of pages,
entries and accounts (O56) are an invariant. -/

namespace Sys2Proof.Machine

section
variable (s : State)

/-! ### Commands that do not touch the ledger -/

theorem cmdSetTimer_kept (c t : Byte) (p : Half) (r : Byte) : LedgerKept s (cmdSetTimer c t p r s).1 := by
  simp only [cmdSetTimer]
  split
  · split
    · exact .refl s
    · split
      · exact .refl s
      · exact .of_eq (ledger_of_same rfl)
  · exact .refl s

theorem cmdLoadToneTable_kept (p : Byte) (w : Vector Half 17) (g : Half) :
    LedgerKept s (cmdLoadToneTable p w g s).1 := by
  simp only [cmdLoadToneTable]
  split
  · exact .refl s
  · exact .of_eq (ledger_of_same rfl)

theorem cmdReadToneTable_kept (p : Byte) : LedgerKept s (cmdReadToneTable p s).1 := by
  simp only [cmdReadToneTable]
  split <;> exact .refl s

theorem cmdReadEntry_kept (p : Byte) : LedgerKept s (cmdReadEntry p s).1 := by
  simp only [cmdReadEntry]
  split <;> exact .refl s

theorem cmdReadJob_kept (h : Byte) : LedgerKept s (cmdReadJob h s).1 := by
  simp only [cmdReadJob]
  split <;> exact .refl s

theorem cmdReadHistory_kept (p : Byte) : LedgerKept s (cmdReadHistory p s).1 := by
  simp only [cmdReadHistory]
  split <;> exact .refl s

theorem cmdReadKeySlot_kept (k : Byte) : LedgerKept s (cmdReadKeySlot k s).1 := by
  simp only [cmdReadKeySlot]
  split <;> exact .refl s

theorem cmdReadRow_kept (r : Half) : LedgerKept s (cmdReadRow r s).1 := by
  simp only [cmdReadRow]
  split <;> exact .refl s

theorem cmdReadCartridge_kept (c : Byte) : LedgerKept s (cmdReadCartridge c s).1 := by
  simp only [cmdReadCartridge]
  split
  · exact .refl s
  · exact .of_eq (ledger_of_same rfl)

theorem cmdSetCartridgePolicy_kept (p : Byte) (m : Half) (n : Word) :
    LedgerKept s (cmdSetCartridgePolicy p m n s).1 := by
  simp only [cmdSetCartridgePolicy]
  split
  · exact .refl s
  · exact .of_eq (ledger_of_same rfl)

theorem cmdRecheckCartridge_kept (c : Byte) : LedgerKept s (cmdRecheckCartridge c s).1 := by
  have hsense (c : Fin 4) : LedgerKept s (if (s.slot c).exchange.isNone then
      (s.modSlot c fun x => { x with state := .sensed }).ok [] else s.refuse .busy).1 := by
    split
    · exact .of_eq (ledger_of_same rfl)
    · exact .refl s
  simp only [cmdRecheckCartridge]
  split
  · exact .refl s
  next c _ =>
    cases (s.slot c).state with
    | genuine => exact (requestRecheck_step s c).quiet.kept
    | spent => exact (requestRecheck_step s c).quiet.kept
    | rejected r => exact hsense c
    | mute => exact hsense c
    | sensed => exact .refl s
    | checking => exact .refl s
    | empty => exact .refl s

theorem cmdLoadEgressClass_kept (c m : Byte) (r n : Half) : LedgerKept s (cmdLoadEgressClass c m r n s).1 := by
  simp only [cmdLoadEgressClass]
  split
  · exact .refl s
  · exact .of_eq (ledger_of_same rfl)

theorem cmdDiscardKey_kept (k : Byte) (g : Half) : LedgerKept s (cmdDiscardKey k g s).1 := by
  simp only [cmdDiscardKey]
  split
  · exact .refl s
  · split
    · exact .refl s
    · split
      · exact .refl s
      · exact .refl s
      · exact .refl s
      · split
        · exact .refl s
        · exact (enterErasing_quiet s _ _).kept

theorem cmdClearStatus_kept (n : Half) : LedgerKept s (cmdClearStatus n s).1 := by
  rw [cmdClearStatus_eq]
  simp only [State.ok]
  rw [s.statusCleared_frame n]
  exact .of_eq (ledger_of_same rfl)

/-! ### Commands of the Meter Store -/

theorem ledger_clearFlush (i : Fin 256) : (s.modAccount i fun a => { a with sinceFlush := 0 }).ledger = s.ledger :=
  ledger_modAccount_of_view s i fun _ => rfl

theorem cmdFlushMeters_kept : LedgerKept s (cmdFlushMeters s).1 := by
  simp only [cmdFlushMeters]
  split
  · exact .refl s
  · exact .foldl _ (fun t i => .comp (requestOwn_kept _ _) (.of_eq (ledger_clearFlush t i))) s

theorem cmdSaveSettings_kept : LedgerKept s (cmdSaveSettings s).1 := by
  simp only [cmdSaveSettings]
  exact .foldl _ (fun t _ => requestOwn_kept t _) s

theorem cmdLockMeters_kept : LedgerKept s (cmdLockMeters s).1 := by
  simp only [cmdLockMeters]
  split
  · exact .refl s
  · exact .of_eq ((ledger_request _ _).trans (ledger_of_same rfl))

/-- Where every context is FREE nothing is queued, open or in progress. -/
theorem nothing_of_allFree (h : s.allFree = true) (hL : s.ledger.Law) :
    s.ledger.entries = [] ∧ s.ledger.openTag = none ∧ s.ledger.scan = none := by
  have hfree (g : Fin 16) : (s.ledger.job g).state = .free := by
    have hg : (s.job g).state = .free := by simpa using List.all_eq_true.mp h g (List.mem_finRange g)
    exact hg
  refine ⟨List.eq_nil_iff_forall_not_mem.mpr fun e he => (hL.held e he).1 (hfree _), ?_, ?_⟩
  · cases ho : s.ledger.openTag with
    | none => rfl
    | some t =>
      have := (hL.opened t ho).1
      rw [hfree] at this
      cases this
  · cases hp : s.ledger.scan with
    | none => rfl
    | some p =>
      have := (hL.scans p hp).1
      rw [hfree] at this
      cases this

theorem Quiet.allFree {s t : State} (h : Quiet s t) : t.allFree = s.allFree := by rw [h.frame]; rfl

theorem wipeAccounts_ledger : (wipeAccounts s).ledger = { s.ledger with money := fun _ => Account.blank.view } := by
  have : (wipeAccounts s).ledger = { s.ledger with money := fun i => ((wipeAccounts s).account i).view } := rfl
  rw [this]
  refine congrArg (fun m => { s.ledger with money := m }) (funext fun i => congrArg Account.view ?_)
  simp [State.account, wipeAccounts, stopChannel]

theorem wipeAccounts_kept (h : s.allFree = true) : LedgerKept s (wipeAccounts s) := by
  intro hL
  obtain ⟨he, ho, hs⟩ := nothing_of_allFree s h hL
  rw [wipeAccounts_ledger]
  exact .of_nothing he ho hs fun _ => Account.blank_clear

theorem ledger_defaultSettings : (defaultSettings s).ledger = s.ledger := rfl
theorem ledger_emptyRing : (emptyRing s).ledger = s.ledger := rfl
theorem ledger_unlock : (unlock s).ledger = s.ledger := rfl

theorem cmdSanitize_kept (scope : Byte) : LedgerKept s (cmdSanitize scope s).1 := by
  simp only [cmdSanitize, sanitizeKeysScope, sanitizeAccountsScope, sanitizeAllScope]
  split
  · exact .refl s
  · dsimp only
    exact ((sanitizeJobs_kept s).trans (sanitizeKeys_quiet _).kept).trans (requestRegion_kept _ .keys)
  · split_ifs with _ hbusy
    · exact .refl s
    · exact .refl s
    · exact (wipeAccounts_kept s (by simpa using hbusy)).trans (requestRegion_kept _ .accounts)
  · split_ifs with hbusy
    · exact .refl s
    · dsimp only
      have hq := sanitizeKeys_quiet s
      generalize sanitizeKeys s = t at hq
      have hfree : t.allFree = true := by rw [hq.allFree]; simpa using hbusy
      refine .trans hq.kept (.trans (wipeAccounts_kept t hfree) ?_)
      generalize wipeAccounts t = u
      have hset : (unlock (defaultSettings (emptyRing u))).ledger = u.ledger := by
        rw [ledger_unlock, ledger_defaultSettings, ledger_emptyRing]
      exact .comp (requestRegion_kept _ .all) (.of_eq hset)

/-! ### The Command Unit -/

theorem runCommand_kept (c : Command) : LedgerKept s (runCommand c s).1 := by
  cases c with
  | openJob a => exact cmdOpenJob_kept s a
  | resumeJob h => exact cmdResumeJob_kept s h
  | closeJob h => exact cmdCloseJob_kept s h
  | cancelJob h => exact cmdCancelJob_kept s h
  | readJob h => exact cmdReadJob_kept s h
  | loadTariff v f => exact .of_eq (ledger_of_same rfl)
  | readTariff => exact .refl s
  | adjustQuota i q => exact cmdAdjustQuota_kept s i q
  | loadAccount a => exact cmdLoadAccount_kept s a
  | unloadAccount i => exact cmdUnloadAccount_kept s i
  | setAccountState i t => exact cmdSetAccountState_kept s i t
  | readAccount i => exact .refl s
  | openSession i => exact cmdOpenSession_kept s i
  | touchSession =>
    simp only [runCommand, cmdTouchSession]
    split
    · exact .of_eq (ledger_of_same rfl)
    · exact .refl s
  | closeSession => exact cmdCloseSession_kept s
  | readSession => exact .refl s
  | loadToneTable p w g => exact cmdLoadToneTable_kept s p w g
  | setSpotThreshold t => exact .of_eq (ledger_of_same rfl)
  | readToneTable p => exact cmdReadToneTable_kept s p
  | readPageMeter => exact .refl s
  | setNoticeMask m => exact .of_eq (ledger_of_same rfl)
  | resetPath => exact pathReset_kept s
  | readTracker => exact .refl s
  | readEntry p => exact cmdReadEntry_kept s p
  | recheckCartridge c => exact cmdRecheckCartridge_kept s c
  | setCartridgePolicy p m n => exact cmdSetCartridgePolicy_kept s p m n
  | readCartridge c => exact cmdReadCartridge_kept s c
  | readHistory p => exact cmdReadHistory_kept s p
  | loadEgressClass c m r n => exact cmdLoadEgressClass_kept s c m r n
  | readEgressClass c => exact .refl s
  | discardKey k g => exact cmdDiscardKey_kept s k g
  | readKeySlot k => exact cmdReadKeySlot_kept s k
  | flushMeters => exact cmdFlushMeters_kept s
  | saveSettings => exact cmdSaveSettings_kept s
  | lockMeters => exact cmdLockMeters_kept s
  | sanitize sc => exact cmdSanitize_kept s sc
  | readRow r => exact cmdReadRow_kept s r
  | setTime t => exact .of_eq (ledger_of_same rfl)
  | readTime => exact .refl s
  | setTrim t => exact .of_eq (ledger_of_same rfl)
  | setTimer c t p r => exact cmdSetTimer_kept s c t p r
  | readStatus => exact .refl s
  | clearStatus n => exact cmdClearStatus_kept s n
  | readIdentity => exact .refl s

theorem ledger_setUnit (u : UnitState) : (s.setUnit u).ledger = s.ledger := rfl

theorem ledger_setQueue (q : List CommandFrame) :
    ({ s with li := { s.li with commandQueue := q } } : State).ledger = s.ledger := rfl

theorem execute_kept (f : CommandFrame) : LedgerKept s (execute f s) := by
  simp only [execute]
  split
  · exact .of_eq (ledger_setUnit s _)
  · exact .comp (settleBand_kept _) (.comp (.of_eq (ledger_setUnit _ _)) (runCommand_kept s _))

theorem takeNext_kept : LedgerKept s (takeNext s) := by
  simp only [takeNext]
  split
  · exact .comp (execute_kept _ _) (.of_eq (ledger_setQueue s _))
  · exact .refl s

theorem deliver_kept (f : CommandFrame) : LedgerKept s (deliver f s) :=
  .ite (.comp (takeNext_kept _) (.of_eq (ledger_setQueue s _))) (.refl s)

theorem downstreamFrame_kept (frame : List Byte) : LedgerKept s (downstreamFrame frame s) := by
  have herror : LedgerKept s (s.linkError .controller) := .of_eq (ledger_linkError s _)
  simp only [downstreamFrame]
  refine .ite ?_ (.refl s)
  split
  · refine .ite (deliver_kept s _) (.ite ?_ herror)
    split
    · exact examine_kept s _
    · exact herror
  · exact herror

theorem replySent_kept : LedgerKept s (replySent s) := by
  simp only [replySent]
  split
  · refine .comp (takeNext_kept _) (.comp (.of_eq (ledger_setUnit _ _)) ?_)
    exact .ite (.of_eq (ledger_of_same rfl)) (.of_eq (ledger_of_same rfl))
  · exact .refl s

theorem ledger_dropUnsentReply : (dropUnsentReply s).ledger = s.ledger := by
  simp only [dropUnsentReply]
  split <;> rfl

theorem pathLineRise_kept : LedgerKept s (pathLineRise s) := by
  have hreset : LedgerKept s (pathReset { s with li := { s.li with pathLine := true } }) :=
    LedgerKept.trans (t := { s with li := { s.li with pathLine := true } }) (.of_eq (ledger_of_same rfl)) (pathReset_kept _)
  simp only [pathLineRise]
  generalize pathReset { s with li := { s.li with pathLine := true } } = u at hreset
  have hdropped : (dropUnsentReply { u with li := { u.li with commandQueue := [] } }).ledger = u.ledger := by
    rw [ledger_dropUnsentReply, ledger_setQueue]
  exact .ite (.refl s) (.comp (.of_eq hdropped) hreset)

/-! ### The store's events -/

theorem ledger_setStore (m : MeterStore) : ({ s with ms := m } : State).ledger = s.ledger := rfl

theorem ledger_replyLong (v : List Val) : (replyLong s v).ledger = s.ledger := by
  simp only [replyLong]
  split <;> rfl

theorem ledger_countRow (completed : Bool) : (countRow s completed).ledger = s.ledger := by
  simp only [countRow]
  split
  · split
    · exact ledger_replyLong s _
    · rfl
  · rfl

theorem ledger_setDirty (i : Fin 256) (b : Bool) : (s.modAccount i fun a => { a with dirty := b }).ledger = s.ledger :=
  ledger_modAccount_of_view s i fun _ => rfl

theorem ledger_reportRow (q : StoreRequest) (completed : Bool) : (reportRow s q completed).ledger = s.ledger := by
  cases q with
  | commit r g =>
    simp only [reportRow]
    cases rowOwner r with
    | key k => exact (keyReport_quiet s k g _ _).ledger
    | account i =>
      dsimp only
      split
      · rfl
      · exact ledger_setDirty s i true
    | history p => dsimp only; split <;> rfl
    | settings k => dsimp only; split <;> rfl
    | manufacture => rfl
    | egress k => rfl
  | erase r g =>
    simp only [reportRow]
    split
    · exact (keyReport_quiet s _ g _ _).ledger
    · rfl
  | region g => rfl

theorem ledger_startIfReady : (startIfReady s).ledger = s.ledger := (startIfReady_step s).quiet.ledger

theorem ledger_endRowOp (op : StoreOp) (completed : Bool) : (endRowOp s op completed).ledger = s.ledger := by
  have hreport := ledger_reportRow { s with ms := { s.ms with op := none } } op.request completed
  simp only [endRowOp]
  rw [ledger_startIfReady]
  split
  · rw [ledger_countRow, hreport, ledger_setStore]
  · rw [hreport, ledger_setStore]

theorem ledger_endRegion (g : Region) (n : Nat) : (endRegion s g n).ledger = s.ledger := by
  have hstore := ledger_setStore s { s.ms with op := none }
  refine (ledger_startIfReady _).trans ((ledger_replyLong _ _).trans ?_)
  generalize ({ s with ms := { s.ms with op := none } } : State) = u at hstore ⊢
  have hkeys := (keyRegionErased_quiet u).ledger
  cases g with
  | keys => exact hkeys.trans hstore
  | accounts => exact hstore
  | all => exact hkeys.trans hstore

theorem ledger_nextRegionRow (op : StoreOp) (g : Region) (n : Nat) : (nextRegionRow s op g n).ledger = s.ledger := by
  simp only [nextRegionRow]
  split
  · rfl
  · exact ledger_endRegion s g n

theorem ledger_rowDone (op : StoreOp) (n : Nat) (completed : Bool) : (match op.request with
      | .region g => nextRegionRow s op g n
      | _ => endRowOp s op completed).ledger = s.ledger := by
  cases op.request with
  | commit r g => exact ledger_endRowOp s op _
  | erase r g => exact ledger_endRowOp s op _
  | region g => exact ledger_nextRegionRow s op g n

theorem ledger_writeComplete (retained : Option (List Byte)) : (writeComplete s retained).ledger = s.ledger := by
  simp only [writeComplete]
  cases s.ms.op with
  | none => rfl
  | some op =>
    dsimp only
    generalize s.ms.memory.writeRow op.row (retained.getD s.ms.latches) = m
    split
    · exact (ledger_rowDone _ op _ _).trans (ledger_setStore s _)
    · split
      · rfl
      · exact (ledger_rowDone _ op _ _).trans ((ledger_raise _ _ _).trans (ledger_setStore s _))

theorem setWarning_kept (level : Bool) : LedgerKept s (setWarning s level) :=
  .ite (.of_eq (ledger_setStore s _)) (.comp (startIfReady_kept _) (.of_eq (ledger_setStore s _)))

/-! ### The Time Base -/

theorem ledger_meterFlush : (meterFlush s).ledger = s.ledger := by
  have hflush (l : List (Fin 256)) (t : State) : (l.foldl
      (fun s i => commitAccount (s.modAccount i fun a => { a with sinceFlush := 0 }) i) t).ledger = t.ledger := by
    induction l generalizing t with
    | nil => rfl
    | cons i l ih => rw [List.foldl_cons, ih, commitAccount, ledger_request, ledger_clearFlush]
  simp only [meterFlush]
  split
  · rw [ledger_request, hflush]
  · exact hflush _ s

theorem ledger_sessionExpiry : (sessionExpiry s).ledger = s.ledger := by
  simp only [sessionExpiry]
  split <;> rfl

theorem ledger_ownerExpiry (c : Fin 4) : (ownerExpiry s c).ledger = s.ledger := by
  unfold ownerExpiry
  split
  · exact ledger_sessionExpiry s
  · exact (keySweep_quiet s).ledger
  · exact ledger_meterFlush s
  · exact (recheckExpiry_quiet s).ledger

theorem ledger_setChannel (c : Fin 4) (x : Channel) : (s.setChannel c x).ledger = s.ledger := rfl

theorem ledger_expireChannel (c : Fin 4) : (expireChannel s c).ledger = s.ledger :=
  (ledger_setChannel _ _ _).trans (ledger_ownerExpiry s c)

theorem ledger_channelExpiry (c : Fin 4) : (channelExpiry s c).ledger = s.ledger := by
  simp only [channelExpiry]
  split
  · exact (ledger_expireChannel _ c).trans (ledger_setChannel s c _)
  · rfl

theorem ledger_tickChannel (c : Fin 4) : (tickChannel s c).ledger = s.ledger := by
  simp only [tickChannel]
  split_ifs
  · rfl
  · exact (ledger_expireChannel _ c).trans (ledger_setChannel s c _)
  · rfl
  · rfl

theorem ledger_setTime (t : TimeBase) : ({ s with tb := t } : State).ledger = s.ledger := rfl

theorem tick_kept (presence : Vector Bool 4) : LedgerKept s (tick presence s) := by
  simp only [tick]
  have hexchanges : LedgerKept s (slots.foldl tickExchange { s with tb := s.tb.tick }) :=
    LedgerKept.trans (.of_eq (ledger_setTime s _)) (.foldl _ (fun t c => (tickExchange_step t c).quiet.kept) _)
  generalize slots.foldl tickExchange { s with tb := s.tb.tick } = s1 at hexchanges
  have hslow : LedgerKept s1
      (tickStall (slots.foldl (fun s c => samplePresence s c presence[c]) (slots.foldl beginCheck s1))) :=
    .comp (tickStall_kept _) (.comp (.foldl _ (fun t c => (samplePresence_step t c _).quiet.kept) _)
      (.foldl _ (fun t c => (beginCheck_step t c).quiet.kept) s1))
  refine .comp (.foldl _ (fun t c => .ite (.of_eq (ledger_tickChannel t c)) (.refl t)) _) ?_
  exact .ite (hexchanges.trans hslow) hexchanges

theorem ticks_kept (presence : Vector Bool 4) (n : Nat) : LedgerKept s (ticks presence n s) := by
  induction n generalizing s with
  | zero => exact .refl s
  | succ n ih => exact (tick_kept s presence).trans (ih _)

theorem referenceStep_kept (presence : Vector Bool 4) : LedgerKept s (referenceStep s presence) := by
  simp only [referenceStep]
  exact LedgerKept.trans (.of_eq (ledger_setTime s _)) (ticks_kept _ presence _)

/-! ### A step -/

theorem ledger_setPending (l : List Instr) : ({ s with pending := l } : State).ledger = s.ledger := rfl

theorem tagBytes_quiet (c : Fin 4) (frame : List Byte) : Quiet s (tagBytes s c frame) := by
  simp only [tagBytes]
  split
  · exact (takeAnswer_step s c _).quiet
  · exact .refl s

theorem exec_kept (i : Instr) (t : State) (h : exec i s = .next t) : LedgerKept s t := by
  have of_next {u : State} (hu : (Host.Outcome.next u : Host.Outcome State Fault Refusal) = .next t)
      (k : LedgerKept s u) : LedgerKept s t := by cases hu; exact k
  cases i with
  | powerOnReset => exact of_next h (powerOn_kept s)
  | commandFrameReceived frame => exact of_next h (downstreamFrame_kept s frame)
  | bandFrameReceived frame => exact of_next h (downstreamFrame_kept s frame)
  | bandReexamined => exact of_next h (settleBand_kept s)
  | stallExpiry => exact of_next h (stallExpiry_kept s)
  | engineReadyLine level => exact of_next h (setReadyLine_kept s level)
  | pendingVoidSend => exact of_next h (.of_eq (ledger_sendPendingVoid s))
  | pathClearSend => exact of_next h (.of_eq (ledger_sendPathClear s))
  | sheetExit job page count => exact of_next h (sheetExit_kept s job page count)
  | sheetJam lost developed => exact of_next h (sheetJam_kept s lost developed)
  | pathPurge => exact of_next h (pathPurge_kept s)
  | drainCompletion job => exact of_next h (drainTest_kept s job)
  | scannerPageBegin page => exact of_next h (scannerFrame_kept s _)
  | scannerBand band => exact of_next h (scannerFrame_kept s _)
  | scannerPageEnd => exact of_next h (scannerFrame_kept s _)
  | scanPageCompletion => exact of_next h (completeScanPage_kept s)
  | upstreamFrameBegin => exact of_next h (upstreamBegin_kept s)
  | replySent => exact of_next h (replySent_kept s)
  | noticeSent => exact of_next h (.of_eq (ledger_noticeSent s))
  | scanFrameSent => exact of_next h (scanFrameSent_kept s)
  | referenceStep presence => exact of_next h (referenceStep_kept s presence)
  | channelExpiry channel => exact of_next h (.of_eq (ledger_channelExpiry s channel))
  | debouncedRise slot => exact of_next h (riseEvent_step s slot).quiet.kept
  | debouncedFall slot => exact of_next h (fallEvent_step s slot).quiet.kept
  | fullCheckStart slot => exact of_next h (beginCheck_step s slot).quiet.kept
  | identifyAnswer slot serial colorant model rated => exact of_next h (takeAnswer_step s slot _).quiet.kept
  | challengeAnswer slot response => exact of_next h (takeAnswer_step s slot _).quiet.kept
  | readRationAnswer slot ration n => exact of_next h (takeAnswer_step s slot _).quiet.kept
  | writeRationAnswer slot ration n => exact of_next h (takeAnswer_step s slot _).quiet.kept
  | exchangeLimit slot => exact of_next h (exchangeLimit_step s slot).quiet.kept
  | serveWaitingWork slot => exact of_next h (serveLine_step s slot).quiet.kept
  | storeOperationStart => exact of_next h (startIfReady_kept s)
  | storeWriteComplete retained => exact of_next h (.of_eq (ledger_writeComplete s retained))
  | powerWarningRise => exact of_next h (setWarning_kept s true)
  | powerWarningFall => exact of_next h (setWarning_kept s false)
  | pathResetLine => exact of_next h (pathLineRise_kept s)
  | pathResetLineFall => exact of_next h (.of_eq (ledger_of_same rfl))
  | engineReportDiscard frame => exact of_next h (engineBytes_kept s frame)
  | scannerFrameDiscard frame => exact of_next h (scannerBytes_kept s frame)
  | tagAnswerDiscard slot frame => exact of_next h (tagBytes_quiet s slot frame).kept
  | _ => exact of_next h (deliver_kept s _)

end

theorem step_kept {s t : State} (h : step s = .next t) : LedgerKept s t := by
  unfold step at h
  split at h
  · cases h; exact .refl s
  · exact LedgerKept.trans (.of_eq (ledger_setPending s _)) (exec_kept _ _ t h)

/-- Settles O56: the laws are those of the ledger, and a step moves the ledger as they allow. -/
theorem stepKeepsLedger : Obligations.StepKeepsLedger := by
  intro s t hlaw hstep
  exact (ledgerLaw_iff t).mpr (step_kept hstep ((ledgerLaw_iff s).mp hlaw))

end Sys2Proof.Machine

/-! PROOFS. The front of the queue (O1), the invariants at reset (O57), a raised condition (O5), and the commands that
report live state (O6 to O10). -/

namespace Sys2Proof.Machine

/-- Settles O1: both halves are the two equations of a step. -/
theorem stepTakesFront : Obligations.StepTakesFront :=
  fun s => ⟨fun c rest h => by simp only [step, h], fun h => by simp only [step, h]⟩

/-! ### The state right after reset -/

section

theorem reset_channel_inRange : ∀ c, (State.reset.channel c).InRange := by
  intro c
  refine ⟨?_, ?_, ?_⟩ <;> fin_cases c <;> decide

theorem reset_slot (c : Fin 4) : State.reset.slot c = Cartridge.initial := by
  simp [State.slot, State.reset]

theorem reset_account (i : Fin 256) : State.reset.account i = Account.blank := by
  simp [State.account, State.reset]

theorem reset_ledger : State.reset.ledger.Law := by
  have he : State.reset.ledger.entries = [] := rfl
  have ho : State.reset.ledger.openTag = none := rfl
  have hp : State.reset.ledger.scan = none := rfl
  have hm (i : Fin 256) : State.reset.ledger.money i = (State.reset.account i).view := rfl
  have hclear (i : Fin 256) : (State.reset.account i).view.Clear := by
    rw [reset_account]; exact Account.blank_clear
  exact .of_nothing he ho hp fun i => (hm i).symm ▸ hclear i

end

/-- Settles O57: every table and queue of the reset state is empty, every slot and record blank. -/
theorem invariantsAtReset : Obligations.InvariantsAtReset := by
  refine ⟨⟨?_, ?_, reset_channel_inRange, fun c => ?_, rfl, rfl⟩, fun c => ?_, (ledgerLaw_iff _).mpr reset_ledger⟩
  · exact ⟨Nat.zero_le _, Nat.zero_le _, Nat.zero_le _, Nat.zero_le _, QueueHolds.of_le (Nat.zero_le _)⟩
  · decide
  · rw [reset_slot]; decide
  · rw [reset_slot]; exact Cartridge.initial_law

/-! ### A raised condition -/

section
variable (s : State) (f : Flag) (fields : List Val)

theorem raise_of_enabled (h : s.status.enabled f = true) :
    (s.raise f fields).status = (s.status.set f).formNotice f s.now fields := by
  have : (s.status.set f).enabled f = true := h
  simp only [State.raise, this, if_true]

theorem raise_of_disabled (h : s.status.enabled f = false) : (s.raise f fields).status = s.status.set f := by
  have : (s.status.set f).enabled f = false := h
  simp only [State.raise, this]
  rfl

theorem formNotice_of_room {t : Status} {n : Nat} (h : t.notices.length < 32) : t.formNotice f n fields =
    { t with sequence := t.sequence + 1, notices := t.notices ++ [⟨f, n, t.sequence + 1, fields⟩] } := by
  simp only [Status.formNotice, if_pos h]

theorem formNotice_of_full {t : Status} {n : Nat} (h : 32 ≤ t.notices.length) : t.formNotice f n fields =
    { t with sequence := t.sequence + 1 }.set .noticeOverflow := by
  simp only [Status.formNotice, if_neg (Nat.not_lt.mpr h)]

theorem formNotice_mask (t : Status) (n : Nat) : (t.formNotice f n fields).mask = t.mask := by
  simp only [Status.formNotice]
  split <;> rfl

theorem formNotice_sequence (t : Status) (n : Nat) : (t.formNotice f n fields).sequence = t.sequence + 1 := by
  simp only [Status.formNotice]
  split <;> rfl

/-- A notice that is dropped sets NOTICE OVERFLOW and no other flag. -/
theorem has_formNotice (t : Status) (n : Nat) (g : Flag) : (t.formNotice f n fields).has g =
    (t.has g || g == .noticeOverflow && decide (32 ≤ t.notices.length)) := by
  by_cases h : t.notices.length < 32
  · rw [formNotice_of_room f fields h]
    simp [Nat.not_le.mpr h]
    rfl
  · rw [formNotice_of_full f fields (Nat.not_lt.mp h), Status.has_set]
    simp [Nat.not_lt.mp h]
    rfl

theorem raise_mask : (s.raise f fields).status.mask = s.status.mask := by
  simp only [State.raise]
  split
  · exact formNotice_mask f fields _ _
  · rfl

/-- The flags once a condition has been raised: those that were set, its own, and NOTICE OVERFLOW for a notice
dropped. -/
theorem has_raise (g : Flag) : (s.raise f fields).status.has g = (s.status.has g || g == f ||
    (g == .noticeOverflow && s.status.enabled f && decide (32 ≤ s.status.notices.length))) := by
  cases he : s.status.enabled f with
  | false => rw [raise_of_disabled s f fields he, Status.has_set]; simp
  | true =>
    rw [raise_of_enabled s f fields he, has_formNotice, Status.has_set, Bool.and_true]
    rfl

end

/-- Settles O5: by whether the kind is enabled, and then by the room in the queue. -/
theorem conditionsRaiseNotices : Obligations.ConditionsRaiseNotices := by
  intro s f fields t
  refine ⟨rfl, raise_mask s f fields, by simp [t, has_raise], fun g hg => by simp [t, has_raise, hg],
    fun g hf ho => by simp [t, has_raise, beq_eq_false_iff_ne.mpr hf, beq_eq_false_iff_ne.mpr ho], fun hoff => ?_, fun hon => ⟨?_, fun hroom => ?_, fun hfull => ?_⟩⟩
  · rw [raise_of_disabled s f fields hoff]; exact ⟨rfl, rfl⟩
  · rw [raise_of_enabled s f fields hon, formNotice_sequence]; rfl
  · rw [raise_of_enabled s f fields hon, formNotice_of_room f fields (t := s.status.set f) hroom]; rfl
  · refine ⟨?_, by simp [t, has_raise, hon, hfull]⟩
    rw [raise_of_enabled s f fields hon, formNotice_of_full f fields (t := s.status.set f) hfull]
    rfl

/-! ### Commands that report live state -/

section
variable {s t : State} {tag : Byte} {code : ReplyCode} {results : List Val}

/-- A command answered at once is the row's whole effect where its owner leaves the Link Interface alone. -/
theorem next_of_reply (h : Ready s) (c : Command) (hrun : runCommand c s = (t, .reply code results))
    (hli : t.li = s.li) : (Host.Outcome.next (deliverCommand tag c s) : Host.Outcome State Fault Refusal) =
      .next (t.answered c.kind tag code results) :=
  congrArg Host.Outcome.next (deliverCommand_of_reply_of_li_eq h hrun hli)

end

/-- A byte names an index below `n`, or none. -/
theorem indexOf_of_lt {n : Nat} {b : Byte} (h : b.toNat < n) : indexOf n b = some ⟨b.toNat, h⟩ := dif_pos h

theorem indexOf_of_not_lt {n : Nat} {b : Byte} (h : ¬b.toNat < n) : indexOf n b = none := dif_neg h

theorem openPageOf_eq (s : State) {b : Byte} (hb : b.toNat < 16) :
    ((s.pp.openPage.filter fun p => p.tag.job == ⟨b.toNat, hb⟩).map fun p => p.tag.page) =
      match s.pp.openPage with
      | some p => if p.tag.job.val = b.toNat then some p.tag.page else none
      | none => none := by
  cases s.pp.openPage with
  | none => rfl
  | some p =>
    by_cases hp : p.tag.job.val = b.toNat
    · simp [Option.filter, Fin.ext_iff, hp]
    · simp [Option.filter, Fin.ext_iff, hp]

theorem hasScanPage_eq (s : State) {b : Byte} (hb : b.toNat < 16) : s.hasScanPage ⟨b.toNat, hb⟩ =
    match s.sp.page with | some p => p.tag.job.val == b.toNat | none => false := by
  simp only [State.hasScanPage]
  cases s.sp.page with
  | none => rfl
  | some p => simp [Fin.ext_iff, beq_eq_decide]

theorem entryCount_eq (s : State) {b : Byte} (hb : b.toNat < 16) :
    s.entryCount ⟨b.toNat, hb⟩ = (s.st.entries.filter fun e => e.tag.job.val == b.toNat).length := by
  simp only [State.entryCount]
  congr 2
  funext e
  simp [Fin.ext_iff, beq_eq_decide]

theorem faultVals_eq (x : Option LastFault) : faultVals x =
    match x with
    | none => [.absent 10]
    | some ⟨k, .exit j p c, t⟩ => [.flag true, .u8 k.code, .u8 j.toNat, .u16 p.toNat, .u16 c.toNat, .u32 t]
    | some ⟨k, .jam l d, t⟩ => [.flag true, .u8 k.code, .u16 l.toNat, .u16 d.toNat, .u32 t] := by
  match x with
  | none => rfl
  | some ⟨_, .exit .., _⟩ => rfl
  | some ⟨_, .jam .., _⟩ => rfl

theorem entryVals_eq (e : Entry) : e.vals =
    [.u8 e.tag.job.val, .u16 e.tag.page, .u8 e.account.val, .u8 e.provisional.code, .u16 e.reserved,
      .u8 e.status.code] ++
      (match e.status, e.final with
      | .complete, some f =>
        [.u8 f.code, .opt 4 e.deposits[0], .opt 4 e.deposits[1], .opt 4 e.deposits[2], .opt 4 e.deposits[3],
          .opt 8 (e.serials[0].map BitVec.toNat), .opt 8 (e.serials[1].map BitVec.toNat),
          .opt 8 (e.serials[2].map BitVec.toNat), .opt 8 (e.serials[3].map BitVec.toNat)]
      | _, _ => []) := by
  simp only [Entry.vals]
  cases e.status <;> cases e.final <;> rfl

/-- Settles O6. -/
theorem jobAndTrackerReads : Obligations.JobAndTrackerReads := by
  refine ⟨fun s tag handle hr => ?job, fun s tag hr => ?tracker, fun s tag position hr => ?entry⟩
  case job =>
    by_cases h : handle.toNat < 16
    · rw [dif_pos h]
      refine next_of_reply hr (.readJob handle) ?_ rfl
      simp only [runCommand, cmdReadJob, indexOf_of_lt h, openPageOf_eq s h, hasScanPage_eq s h, entryCount_eq s h]
      rfl
    · rw [dif_neg h]
      refine next_of_reply hr (.readJob handle) ?_ rfl
      simp only [runCommand, cmdReadJob, indexOf_of_not_lt h]
      rfl
  case tracker =>
    refine next_of_reply hr .readTracker ?_ rfl
    simp only [runCommand, cmdReadTracker, faultVals_eq]
    rfl
  case entry =>
    cases he : s.st.entries[position.toNat]? with
    | none =>
      refine next_of_reply hr (.readEntry position) ?_ rfl
      simp only [runCommand, cmdReadEntry, he]
      rfl
    | some e =>
      refine next_of_reply hr (.readEntry position) ?_ rfl
      simp only [runCommand, cmdReadEntry, he, entryVals_eq]
      rfl

/-- Settles O7. -/
theorem accountAndToneReads : Obligations.AccountAndToneReads := by
  refine ⟨fun s tag index hr => next_of_reply hr (.readAccount index) rfl rfl, fun s tag hr => ?session,
    fun s tag plane hr => ?tone⟩
  case session =>
    refine next_of_reply hr .readSession ?_ rfl
    simp only [runCommand, cmdReadSession]
    cases s.acct.session <;> rfl
  case tone =>
    by_cases h : plane.toNat < 4
    · rw [dif_pos h]
      refine next_of_reply hr (.readToneTable plane) ?_ rfl
      simp only [runCommand, cmdReadToneTable, indexOf_of_lt h, ToneTable.vals, List.append_assoc]
      rfl
    · rw [dif_neg h]
      refine next_of_reply hr (.readToneTable plane) ?_ rfl
      simp only [runCommand, cmdReadToneTable, indexOf_of_not_lt h]
      rfl

theorem rowVals_eq (s : State) {row : Half} (h : row.toNat < 360) : rowVals s ⟨row.toNat, h⟩ =
    if row.toNat = 1 ∨ (280 ≤ row.toNat ∧ row.toNat ≤ 343) then [.raw (List.replicate 64 0), .u8 0]
    else [.raw (s.ms.memory.row ⟨row.toNat, h⟩), .u8 (rowCondition (s.ms.memory.row ⟨row.toNat, h⟩)).code] := by
  have hprotected : protectedRow ⟨row.toNat, h⟩ = true ↔
      row.toNat = 1 ∨ (280 ≤ row.toNat ∧ row.toNat ≤ 343) := by simp [protectedRow]
  simp only [rowVals, hprotected]
  rfl

theorem Vector.toList_four {α : Type} (v : Vector α 4) :
    v.toList = ([0, 1, 2, 3] : List (Fin 4)).map fun i => v[i] := by
  refine List.ext_getElem (by simp) fun i h _ => ?_
  have hi : i < 4 := by simpa using h
  interval_cases i <;> rfl

/-- Settles O8. -/
theorem keyRowAndTimeReads : Obligations.KeyRowAndTimeReads := by
  refine ⟨fun s tag slot hr => ?key, fun s tag row hr => ?row, fun s tag hr => ?time⟩
  case key =>
    by_cases h : slot.toNat < 64
    · rw [dif_pos h]
      refine next_of_reply hr (.readKeySlot slot) ?_ rfl
      simp only [runCommand, cmdReadKeySlot, indexOf_of_lt h]
      rfl
    · rw [dif_neg h]
      refine next_of_reply hr (.readKeySlot slot) ?_ rfl
      simp only [runCommand, cmdReadKeySlot, indexOf_of_not_lt h]
      rfl
  case row =>
    by_cases h : row.toNat < 360
    · rw [dif_pos h]
      have hrun : runCommand (.readRow row) s = s.ok (rowVals s ⟨row.toNat, h⟩) := by
        simp only [runCommand, cmdReadRow, dif_pos h]
      rw [rowVals_eq s h] at hrun
      split_ifs with hp
      · rw [if_pos hp] at hrun
        exact next_of_reply hr (.readRow row) hrun rfl
      · rw [if_neg hp] at hrun
        exact next_of_reply hr (.readRow row) hrun rfl
    · rw [dif_neg h]
      refine next_of_reply hr (.readRow row) ?_ rfl
      simp only [runCommand, cmdReadRow, dif_neg h]
      rfl
  case time =>
    refine next_of_reply hr .readTime ?_ rfl
    simp only [runCommand, cmdReadTime, Vector.toList_four, List.flatMap_map]
    rfl

theorem historyVals_eq (x : Option HistoryRow) : historyVals x =
    match x with
    | none => [.absent 30]
    | some r => [.flag true, .u8 r.event.code, .u8 r.slot.val, .u64 r.serial, .u32 r.mirror, .u32 r.insertionTime,
        .u32 r.eventTime, .u32 r.developed, .u32 r.overdraw] := by
  cases x <;> rfl

/-- The planes a page of a mode carries: black alone, or all four. -/
theorem modePlanes_eq (m : ColourMode) : modePlanes m = if m = .mono then [0] else [0, 1, 2, 3] := by
  cases m <;> rfl

/-- Settles O9. -/
theorem statusAndMeterReads : Obligations.StatusAndMeterReads := by
  refine ⟨fun s tag hr => ⟨next_of_reply hr .readStatus rfl rfl, next_of_reply hr .readIdentity rfl rfl,
    next_of_reply hr .readTariff rfl rfl, fun cls => next_of_reply hr (.readEgressClass cls) rfl rfl,
    fun position => ?history⟩, fun s tag hr => ?meter⟩
  case history =>
    by_cases h : position.toNat < 16
    · rw [dif_pos h]
      refine next_of_reply hr (.readHistory position) ?_ rfl
      simp only [runCommand, cmdReadHistory, indexOf_of_lt h, historyVals_eq]
      rfl
    · rw [dif_neg h]
      refine next_of_reply hr (.readHistory position) ?_ rfl
      simp only [runCommand, cmdReadHistory, indexOf_of_not_lt h]
      rfl
  case meter =>
    refine next_of_reply hr .readPageMeter ?_ rfl
    simp only [runCommand, cmdReadPageMeter, openPageVals, recordVals, modePlanes_eq]
    cases s.pp.openPage <;> cases s.dm.lastRecord <;> rfl

theorem rejectCode_eq (x : CartridgeState) : x.reason?.map RejectReason.code =
    match x with | .rejected .wrongSlot => some 0 | .rejected .badResponse => some 1 | _ => none := by
  match x with
  | .rejected .wrongSlot => rfl
  | .rejected .badResponse => rfl
  | .empty | .sensed | .checking | .genuine | .spent | .mute => rfl

/-- Settles O10. -/
theorem readCartridgeReports : Obligations.ReadCartridgeReports := by
  intro s tag slot hr
  by_cases h : slot.toNat < 4
  · rw [dif_pos h]
    refine next_of_reply hr (.readCartridge slot) ?_ rfl
    simp only [runCommand, cmdReadCartridge, indexOf_of_lt h, Cartridge.vals, rejectCode_eq]
    rfl
  · rw [dif_neg h]
    refine next_of_reply hr (.readCartridge slot) ?_ rfl
    simp only [runCommand, cmdReadCartridge, indexOf_of_not_lt h]
    rfl

end Sys2Proof.Machine

/-! PROOFS. The commands that store a setting (O11), set the time and the timers (O12), and change an account (O14). -/

namespace Sys2Proof.Machine

/-! ### What a byte of a command names -/

theorem Policy.ofByte_of_lt {b : Byte} (h : b.toNat < 2) :
    Policy.ofByte b = some (if b.toNat = 0 then .strict else .tolerant) := by
  simp only [Policy.ofByte]
  generalize b.toNat = n at h
  interval_cases n <;> rfl

theorem Policy.ofByte_of_ge {b : Byte} (h : ¬b.toNat < 2) : Policy.ofByte b = none := by
  obtain ⟨n, hn⟩ := Nat.exists_eq_add_of_le' (Nat.not_lt.mp h)
  rw [Policy.ofByte, hn]
  rfl

theorem EgressMode.ofByte_of_lt {b : Byte} (h : b.toNat < 2) :
    EgressMode.ofByte b = some (if b.toNat = 1 then .cipher else .clear) := by
  simp only [EgressMode.ofByte]
  generalize b.toNat = n at h
  interval_cases n <;> rfl

theorem EgressMode.ofByte_of_ge {b : Byte} (h : ¬b.toNat < 2) : EgressMode.ofByte b = none := by
  obtain ⟨n, hn⟩ := Nat.exists_eq_add_of_le' (Nat.not_lt.mp h)
  rw [EgressMode.ofByte, hn]
  rfl

theorem Tap.ofCode_of_lt {n : Nat} (h : n < 4) : Tap.ofCode n =
    some (if n = 0 then .t1024 else if n = 1 then .t32 else if n = 2 then .t1 else .t60) := by
  interval_cases n <;> rfl

theorem Tap.ofCode_of_ge {n : Nat} (h : 4 ≤ n) : Tap.ofCode n = none := by
  obtain ⟨m, rfl⟩ := Nat.exists_eq_add_of_le' h
  rfl

theorem RunRequest.ofByte_of_lt {b : Byte} (h : b.toNat < 3) : RunRequest.ofByte b =
    some (if b.toNat = 0 then .none else if b.toNat = 1 then .start else .stop) := by
  simp only [RunRequest.ofByte]
  generalize b.toNat = n at h
  interval_cases n <;> rfl

theorem RunRequest.ofByte_of_ge {b : Byte} (h : 3 ≤ b.toNat) : RunRequest.ofByte b = Option.none := by
  obtain ⟨n, hn⟩ := Nat.exists_eq_add_of_le' h
  rw [RunRequest.ofByte, hn]
  rfl

/-- A byte is a numeral exactly when its value is. -/
theorem Byte.eq_iff {b c : Byte} : b = c ↔ b.toNat = c.toNat := BitVec.toNat_inj.symm

theorem AccountState.ofByte_of_unnamed {b : Byte} (h : b ≠ 1 ∧ b ≠ 2) : AccountState.ofByte b = none := by
  have h1 : b.toNat ≠ 1 := fun hb => h.1 (Byte.eq_iff.mpr hb)
  have h2 : b.toNat ≠ 2 := fun hb => h.2 (Byte.eq_iff.mpr hb)
  simp only [AccountState.ofByte]

theorem AccountState.ofByte_of_named {b : Byte} (h : ¬(b ≠ 1 ∧ b ≠ 2)) :
    AccountState.ofByte b = some (if b = 1 then .enabled else .suspended) := by
  by_cases h1 : b = 1
  · subst h1; rfl
  · have h2 : b = 2 := by_contra fun h2 => h ⟨h1, h2⟩
    subst h2; rfl

/-! ### Settings -/

theorem cmdSetCartridgePolicy_of_lt (s : State) {policy : Byte} (h : policy.toNat < 2) (m : Half) (n : Word) :
    cmdSetCartridgePolicy policy m n s =
      State.ok { s with tu := { s.tu with
          policy := if policy.toNat = 0 then .strict else .tolerant
          lowMark := min 1000 m.toNat, step := min 16777216 (max 1 n.toNat) } }
        [.u8 policy.toNat, .u16 (min 1000 m.toNat), .u32 (min 16777216 (max 1 n.toNat))] := by
  have hcode : (if policy.toNat = 0 then Policy.strict else .tolerant).code = policy.toNat := by
    split
    next h0 => rw [h0]; rfl
    next h0 => rw [show policy.toNat = 1 by omega]; rfl
  simp only [cmdSetCartridgePolicy, Policy.ofByte_of_lt h, hcode]
  rfl

theorem extractLsb_toNat (mask : Half) : (mask.extractLsb' 0 12).toNat = mask.toNat % 4096 := by
  simp [BitVec.extractLsb'_toNat]

theorem storedWeights_eq (w : Vector Half 17) : storedWeights (w.map BitVec.toNat) =
    Vector.ofFn fun i => if i = 0 then 0 else min 4095 w[i].toNat := by
  refine Vector.ext fun i hi => ?_
  simp only [storedWeights, Vector.getElem_ofFn, Fin.getElem_fin, Vector.getElem_map, Fin.ext_iff]
  rfl

theorem storedEgress_eq {cls mode : Byte} (r n : Nat) :
    storedEgress cls.toNat (if mode.toNat = 1 then .cipher else .clear) r n =
      ⟨if cls = 0 ∨ mode = 1 then .cipher else .clear, max 1 r, min 255 (max 1 n)⟩ := by
  have hc : cls = 0 ↔ cls.toNat = 0 := Byte.eq_iff
  have hm : mode = 1 ↔ mode.toNat = 1 := Byte.eq_iff
  simp only [storedEgress, hc, hm]
  by_cases h : cls.toNat = 0 <;> simp [h]

/-- Settles O11: each owner stores its clamped values and answers with them. -/
theorem settingsStored : Obligations.SettingsStored := by
  refine ⟨fun s tag hr => ⟨fun prices f => next_of_reply hr (.loadTariff prices f) rfl rfl,
    fun t => next_of_reply hr (.setSpotThreshold t) rfl rfl, fun policy m n => ?policy,
    fun t => next_of_reply hr (.setTrim t) rfl rfl, fun mask => ?mask⟩, fun s tag plane w g hr => ?tone,
    fun s tag cls mode r n hr => ?egress⟩
  case policy =>
    by_cases h : policy.toNat < 2
    · rw [if_pos h]
      exact next_of_reply hr (.setCartridgePolicy policy m n) (cmdSetCartridgePolicy_of_lt s h m n) rfl
    · rw [if_neg h]
      refine next_of_reply hr (.setCartridgePolicy policy m n) ?_ rfl
      simp only [runCommand, cmdSetCartridgePolicy, Policy.ofByte_of_ge h]
      rfl
  case mask =>
    refine next_of_reply hr (.setNoticeMask mask) ?_ rfl
    simp only [runCommand, cmdSetNoticeMask, extractLsb_toNat]
    rfl
  case tone =>
    by_cases h : plane.toNat < 4
    · rw [dif_pos h]
      refine next_of_reply hr (.loadToneTable plane w g) ?_ rfl
      simp only [runCommand, cmdLoadToneTable, indexOf_of_lt h, storedWeights_eq, storedGain]
      rfl
    · rw [dif_neg h]
      refine next_of_reply hr (.loadToneTable plane w g) ?_ rfl
      simp only [runCommand, cmdLoadToneTable, indexOf_of_not_lt h]
      rfl
  case egress =>
    by_cases h : mode.toNat < 2
    · rw [if_pos h]
      refine next_of_reply hr (.loadEgressClass cls mode r n) ?_ rfl
      simp only [runCommand, cmdLoadEgressClass, EgressMode.ofByte_of_lt h, storedEgress_eq]
      rfl
    · rw [if_neg h]
      refine next_of_reply hr (.loadEgressClass cls mode r n) ?_ rfl
      simp only [runCommand, cmdLoadEgressClass, EgressMode.ofByte_of_ge h]
      rfl

/-! ### Time and timers -/

/-- What SET TIMER stages or applies. -/
theorem Channel.settings_eq (c : Channel) (t : Tap) (p : Nat) : c.settings t p =
    if c.running ∨ c.stopPending then { c with staged := some (t, p) }
    else { c with tap := t, period := p, staged := none } := by
  simp only [Channel.settings, Bool.or_eq_true]

theorem Channel.run_eq (x : Channel) (run : Byte) :
    x.run (if run.toNat = 0 then .none else if run.toNat = 1 then .start else .stop) =
      if run = 0 then x
      else if run = 1 then
        { (match x.staged with
          | some (a, b) => { x with tap := a, period := b, staged := none }
          | none => x : Channel) with count := 0, stopPending := false, running := true }
      else if x.running then { x with stopPending := true } else x := by
  have h0 : run = 0 ↔ run.toNat = 0 := Byte.eq_iff
  have h1 : run = 1 ↔ run.toNat = 1 := Byte.eq_iff
  simp only [h0, h1]
  by_cases hz : run.toNat = 0
  · simp only [if_pos hz]; rfl
  · by_cases ho : run.toNat = 1
    · simp only [if_neg hz, if_pos ho, Channel.run, Channel.start, Channel.applyStaged] <;>
        cases x.staged <;> rfl
    · simp only [if_neg hz, if_neg ho]; rfl

theorem Tap.ofCode_of_byte {b : Byte} (h : b.toNat < 4) : Tap.ofCode b.toNat =
    some (if b = 0 then .t1024 else if b = 1 then .t32 else if b = 2 then .t1 else .t60) := by
  simp only [Tap.ofCode_of_lt h, Byte.eq_iff (b := b)]
  rfl

/-- A run request other than none for ch0 (R169). -/
theorem startsIdle_iff {channel run : Byte} (hc : channel.toNat < 4) :
    ((⟨channel.toNat, hc⟩ : Fin 4) = 0 ∧
      (if run.toNat = 0 then RunRequest.none else if run.toNat = 1 then .start else .stop) ≠ .none) ↔
      channel = 0 ∧ run ≠ 0 := by
  have h0 : run = 0 ↔ run.toNat = 0 := Byte.eq_iff
  have hc0 : channel = 0 ↔ channel.toNat = 0 := Byte.eq_iff
  rw [hc0, Ne, Ne, h0, Fin.ext_iff]
  refine and_congr Iff.rfl (not_congr ?_)
  by_cases hz : run.toNat = 0
  · simp [hz]
  · by_cases ho : run.toNat = 1 <;> simp [hz, ho]

/-- Settles O12: SET TIMER makes its tests in the order of the statement. -/
theorem timeAndTimersSet : Obligations.TimeAndTimersSet := by
  refine ⟨fun s tag t hr => next_of_reply hr (.setTime t) rfl rfl, fun s tag channel tap period run hr => ?_⟩
  by_cases hbad : 4 ≤ tap.toNat ∨ 3 ≤ run.toNat
  · rw [if_pos hbad]
    refine next_of_reply hr (.setTimer channel tap period run) ?_ rfl
    simp only [runCommand, cmdSetTimer]
    rcases hbad with ht | hrun
    · rw [Tap.ofCode_of_ge ht]; rfl
    · rw [RunRequest.ofByte_of_ge hrun]; cases Tap.ofCode tap.toNat <;> rfl
  rw [if_neg hbad]
  rw [not_or, Nat.not_le, Nat.not_le] at hbad
  obtain ⟨ht, hrun⟩ := hbad
  by_cases hc : channel.toNat < 4
  · rw [dif_pos hc]
    by_cases hidle : channel = 0 ∧ run ≠ 0
    · rw [if_pos hidle]
      refine next_of_reply hr (.setTimer channel tap period run) ?_ rfl
      simp only [runCommand, cmdSetTimer, Tap.ofCode_of_byte ht, RunRequest.ofByte_of_lt hrun, indexOf_of_lt hc,
        if_pos ((startsIdle_iff hc).mpr hidle)]
      rfl
    · rw [if_neg hidle]
      refine next_of_reply hr (.setTimer channel tap period run) ?_ rfl
      simp only [runCommand, cmdSetTimer, Tap.ofCode_of_byte ht, RunRequest.ofByte_of_lt hrun, indexOf_of_lt hc,
        if_neg (mt (startsIdle_iff hc).mp hidle), Channel.settings_eq, Channel.run_eq _ run]
      rfl
  · rw [dif_neg hc]
    refine next_of_reply hr (.setTimer channel tap period run) ?_ rfl
    simp only [runCommand, cmdSetTimer, Tap.ofCode_of_byte ht, RunRequest.ofByte_of_lt hrun, indexOf_of_not_lt hc]
    rfl

/-! ### Accounts -/

theorem request_li (s : State) (q : StoreRequest) : (request s q).1.li = s.li := by
  rw [(request_step s q).frame]

theorem idInUse_iff (s : State) (i : Fin 256) (id : Nat) :
    idInUse s i id = true ↔ ∃ j, j ≠ i ∧ (s.account j).state ≠ .absent ∧ (s.account j).id = id := by
  simp [idInUse, and_assoc]

theorem accountNamed_iff (s : State) (i : Fin 256) :
    accountNamed s i = true ↔ ∃ h, (s.job h).state ≠ .free ∧ (s.job h).account = i := by
  simp [accountNamed, State.handles]

theorem sessionNames_iff (s : State) (i : Fin 256) :
    (s.acct.session.any fun x => x.account == i) = true ↔ ∃ x ∈ s.acct.session, x.account = i := by
  simp [Option.any_eq_true]

/-- LOAD ACCOUNT with a state value that names one. -/
theorem cmdLoadAccount_of_named (s : State) {a : LoadAccountArgs} {st : AccountState}
    (h : AccountState.ofByte a.state = some st) : cmdLoadAccount a s =
      if a.id = 0 then s.refuse .malformed
      else
        let i := byteIndex a.index
        let x := s.account i
        if x.state = .absent then
          if idInUse s i a.id.toNat then s.refuse .busy else (storeAccount s i (loadedAccount a st)).ok []
        else if x.id ≠ a.id.toNat then s.refuse .busy
        else
          let q := x.quotaFor a.quota.toNat
          (storeAccount s i
            { x with privileges := a.privileges.extractLsb' 0 3, quota := q,
                     window1 := ⟨a.base1.toNat, a.limit1.toNat⟩, window2 := ⟨a.base2.toNat, a.limit2.toNat⟩ }).ok
              [.u32 q] := by
  simp only [cmdLoadAccount, h]

/-- SET ACCOUNT STATE with a state value that names one. -/
theorem cmdSetAccountState_of_named (s : State) {index state : Byte} {st : AccountState}
    (h : AccountState.ofByte state = some st) : cmdSetAccountState index state s =
      let i := byteIndex index
      let a := s.account i
      if a.state = .absent then s.refuse .noEntry
      else if a.state = st then s.ok []
      else (storeAccount s i { a with state := st }).ok [] := by
  simp only [cmdSetAccountState, h]

/-- Settles O14: each command makes its tests in order and stores the record the statement gives. -/
theorem accountCommandsAct : Obligations.AccountCommandsAct := by
  refine ⟨fun s tag index quota hr => ?quota, fun s tag a hr => ?load, fun s tag index hr => ?unload,
    fun s tag index state hr => ?state⟩
  case quota =>
    dsimp only
    by_cases ha : (s.account ⟨index.toNat, index.isLt⟩).state = .absent
    · rw [if_pos ha]
      exact next_of_reply hr (.adjustQuota index quota) (if_pos ha) rfl
    · rw [if_neg ha]
      exact next_of_reply hr (.adjustQuota index quota) (if_neg ha) (request_li _ _)
  case load =>
    dsimp only
    by_cases hst : a.state ≠ 1 ∧ a.state ≠ 2
    · rw [if_pos (.inl hst)]
      refine next_of_reply hr (.loadAccount a) ?_ rfl
      simp only [runCommand, cmdLoadAccount, AccountState.ofByte_of_unnamed hst]
      rfl
    have hrun := cmdLoadAccount_of_named s (AccountState.ofByte_of_named hst)
    by_cases hid : a.id = 0
    · rw [if_pos (.inr hid)]
      exact next_of_reply hr (.loadAccount a) (hrun.trans (if_pos hid)) rfl
    rw [if_neg (not_or.mpr ⟨hst, hid⟩)]
    replace hrun := hrun.trans (if_neg hid)
    by_cases hx : (s.account ⟨a.index.toNat, a.index.isLt⟩).state = .absent
    · rw [if_pos hx]
      replace hrun := hrun.trans (if_pos hx)
      by_cases hj : ∃ j, j ≠ (⟨a.index.toNat, a.index.isLt⟩ : Fin 256) ∧ (s.account j).state ≠ .absent ∧
          (s.account j).id = a.id.toNat
      · rw [if_pos hj]
        rw [← idInUse_iff] at hj
        exact next_of_reply hr (.loadAccount a) (hrun.trans (if_pos hj)) rfl
      · rw [if_neg hj]
        rw [← idInUse_iff] at hj
        exact next_of_reply hr (.loadAccount a) (hrun.trans (if_neg hj)) (request_li _ _)
    rw [if_neg hx]
    replace hrun := hrun.trans (if_neg hx)
    by_cases hne : (s.account ⟨a.index.toNat, a.index.isLt⟩).id ≠ a.id.toNat
    · rw [if_pos hne]
      exact next_of_reply hr (.loadAccount a) (hrun.trans (if_pos hne)) rfl
    · rw [if_neg hne]
      exact next_of_reply hr (.loadAccount a) (hrun.trans (if_neg hne)) (request_li _ _)
  case unload =>
    dsimp only
    by_cases ha : (s.account ⟨index.toNat, index.isLt⟩).state = .absent
    · rw [if_pos ha]
      exact next_of_reply hr (.unloadAccount index) (if_pos ha) rfl
    rw [if_neg ha]
    by_cases hn : 0 < (s.account ⟨index.toNat, index.isLt⟩).reserved ∨
        ∃ h, (s.job h).state ≠ .free ∧ (s.job h).account = ⟨index.toNat, index.isLt⟩
    · rw [if_pos hn]
      rw [← accountNamed_iff] at hn
      exact next_of_reply hr (.unloadAccount index) ((if_neg ha).trans (if_pos hn)) rfl
    rw [if_neg hn]
    rw [← accountNamed_iff] at hn
    by_cases hs : ∃ x ∈ s.acct.session, x.account = ⟨index.toNat, index.isLt⟩
    · rw [if_pos hs]
      rw [← sessionNames_iff] at hs
      exact next_of_reply hr (.unloadAccount index) ((if_neg ha).trans ((if_neg hn).trans (if_pos hs))) rfl
    · rw [if_neg hs]
      rw [← sessionNames_iff] at hs
      exact next_of_reply hr (.unloadAccount index) ((if_neg ha).trans ((if_neg hn).trans (if_neg hs)))
        (request_li _ _)
  case state =>
    dsimp only
    by_cases hst : state ≠ 1 ∧ state ≠ 2
    · rw [if_pos hst]
      refine next_of_reply hr (.setAccountState index state) ?_ rfl
      simp only [runCommand, cmdSetAccountState, AccountState.ofByte_of_unnamed hst]
      rfl
    rw [if_neg hst]
    have hrun := cmdSetAccountState_of_named s (index := index) (AccountState.ofByte_of_named hst)
    by_cases ha : (s.account ⟨index.toNat, index.isLt⟩).state = .absent
    · rw [if_pos ha]
      exact next_of_reply hr (.setAccountState index state) (hrun.trans (if_pos ha)) rfl
    rw [if_neg ha]
    replace hrun := hrun.trans (if_neg ha)
    by_cases he : (s.account ⟨index.toNat, index.isLt⟩).state = if state = 1 then .enabled else .suspended
    · rw [if_pos he]
      exact next_of_reply hr (.setAccountState index state) (hrun.trans (if_pos he)) rfl
    · rw [if_neg he]
      exact next_of_reply hr (.setAccountState index state) (hrun.trans (if_neg he)) (request_li _ _)

end Sys2Proof.Machine

/-! PROOFS. Command frames: decoding and encoding agree both ways (O2). -/

namespace Sys2Proof

/-! ### Values of two and four bytes -/

@[simp] theorem half_halfBytes (x : Half) : half (x.extractLsb' 8 8) (x.extractLsb' 0 8) = x := by
  refine BitVec.eq_of_getLsbD_eq fun i hi => ?_
  simp only [half, BitVec.getLsbD_append, BitVec.getLsbD_extractLsb']
  by_cases h : i < 8
  · simp [h]
  · simp [h, show i - 8 < 8 by omega, show 8 + (i - 8) = i by omega]

@[simp] theorem halfBytes_half (a b : Byte) : halfBytes (half a b) = [a, b] := by
  simp only [halfBytes, half, List.cons.injEq, and_true]
  constructor <;> refine BitVec.eq_of_getLsbD_eq fun i hi => ?_
  · simp only [BitVec.getLsbD_extractLsb', BitVec.getLsbD_append]
    simp [hi, show ¬8 + i < 8 by omega, show 8 + i - 8 = i by omega]
  · simp only [BitVec.getLsbD_extractLsb', BitVec.getLsbD_append]
    simp [hi]

theorem word_eq (x : Word) : word (x.extractLsb' 24 8) (x.extractLsb' 16 8) (x.extractLsb' 8 8) (x.extractLsb' 0 8) =
    x := by
  refine BitVec.eq_of_getLsbD_eq fun i hi => ?_
  simp only [word, BitVec.getLsbD_append, BitVec.getLsbD_extractLsb']
  by_cases h0 : i < 8
  · simp [h0]
  · by_cases h1 : i < 16
    · simp [h0, show i - 8 < 8 by omega, show 8 + (i - 8) = i by omega]
    · by_cases h2 : i < 24
      · simp [h0, show ¬i - 8 < 8 by omega, show i - 8 - 8 < 8 by omega, show 16 + (i - 8 - 8) = i by omega]
      · simp [h0, show ¬i - 8 < 8 by omega, show ¬i - 8 - 8 < 8 by omega, show i - 8 - 8 - 8 < 8 by omega,
          show 24 + (i - 8 - 8 - 8) = i by omega]

@[simp] theorem wordBytes_word (a b c d : Byte) : wordBytes (word a b c d) = [a, b, c, d] := by
  simp only [wordBytes, word, List.cons.injEq, and_true]
  refine ⟨?_, ?_, ?_, ?_⟩ <;> refine BitVec.eq_of_getLsbD_eq fun i hi => ?_ <;>
    simp only [BitVec.getLsbD_extractLsb', BitVec.getLsbD_append]
  · simp [hi, show ¬24 + i < 8 by omega, show ¬24 + i - 8 < 8 by omega, show ¬24 + i - 8 - 8 < 8 by omega,
      show 24 + i - 8 - 8 - 8 = i by omega]
  · simp [hi, show ¬16 + i < 8 by omega, show ¬16 + i - 8 < 8 by omega, show 16 + i - 8 - 8 = i by omega]
  · simp [hi, show ¬8 + i < 8 by omega, show 8 + i - 8 = i by omega]
  · simp [hi]

/-! ### Strings of two-byte values -/

theorem halves_flatMap (l : List Half) : halves (l.flatMap halfBytes) = l := by
  induction l with
  | nil => rfl
  | cons x l ih => simp [halfBytes, halves, ih]

theorem length_flatMap_halfBytes (l : List Half) : (l.flatMap halfBytes).length = 2 * l.length := by
  induction l with
  | nil => rfl
  | cons x l ih => simp [halfBytes, ih]; omega

theorem flatMap_halves {l : List Byte} (h : l.length % 2 = 0) : (halves l).flatMap halfBytes = l := by
  match l, h with
  | [], _ => rfl
  | [_], h => simp at h
  | a :: b :: rest, h =>
    rw [halves, List.flatMap_cons, halfBytes_half, flatMap_halves (by simp at h; omega)]
    rfl

theorem halvesOf_flatMap {n : Nat} (v : Vector Half n) : halvesOf n (v.toList.flatMap halfBytes) = some v := by
  have hlen : (halves (v.toList.flatMap halfBytes)).length = n := by rw [halves_flatMap]; simp
  have h2 : (v.toList.flatMap halfBytes).length = 2 * n := by rw [length_flatMap_halfBytes]; simp
  rw [halvesOf, if_pos h2, dif_pos hlen]
  refine congrArg some (Vector.toList_inj.mp ?_)
  simp [halves_flatMap]

theorem eq_flatMap_of_halvesOf {n : Nat} {l : List Byte} {v : Vector Half n} (h : halvesOf n l = some v) :
    l = v.toList.flatMap halfBytes := by
  simp only [halvesOf] at h
  split_ifs at h with h2 hlen
  cases h
  simp [flatMap_halves (l := l) (by omega)]

/-! ### Commands -/

/-- The words of a tone table and its gain stand as one string of 18 values. -/
theorem toneWords_eq (w : Vector Half 17) (g : Half) :
    w.toList.flatMap halfBytes ++ halfBytes g = (w.push g).toList.flatMap halfBytes := by
  have h : (w.push g).toList = w.toList ++ [g] := by rw [Vector.toList_push]
  rw [h, List.flatMap_append]
  simp

theorem decodeCommand_toneTable (p : Byte) (rest : List Byte) :
    decodeCommand 17#8 (p :: rest) = (halvesOf 18 rest).map fun v => .loadToneTable p v.pop v[17] := by
  change (match halvesOf 18 rest with | some v => some (Command.loadToneTable p v.pop v[17]) | none => none) = _
  cases halvesOf 18 rest <;> rfl

theorem decodeCommand_encode (c : Command) : decodeCommand c.kind (encodeArguments c) = some c := by
  cases c with
  | openJob a => exact congrArg (fun g => some (Command.openJob { a with generation := g })) (half_halfBytes a.generation)
  | loadTariff v f =>
    obtain ⟨⟨l⟩, hl⟩ := v
    match l, hl with
    | [a, b, c, d, e, g, k], _ =>
      change some (Command.loadTariff #v[half _ _, half _ _, half _ _, half _ _, half _ _, half _ _, half _ _] f) = _
      simp only [half_halfBytes]
  | loadToneTable p w g =>
    change decodeCommand 17#8 (p :: w.toList.flatMap halfBytes ++ halfBytes g) = _
    rw [List.cons_append, decodeCommand_toneTable, toneWords_eq, halvesOf_flatMap]
    simp
  | adjustQuota i q => exact congrArg (fun q => some (Command.adjustQuota i q)) (word_eq q)
  | loadAccount a =>
    change some (Command.loadAccount ⟨_, word _ _ _ _, _, _, word _ _ _ _, word _ _ _ _, _, _, _, _⟩) = _
    simp only [word_eq]
  | setSpotThreshold t => exact congrArg (fun t => some (Command.setSpotThreshold t)) (half_halfBytes t)
  | setNoticeMask m => exact congrArg (fun t => some (Command.setNoticeMask t)) (half_halfBytes m)
  | setCartridgePolicy p m n => exact congrArg₂ (fun a b => some (Command.setCartridgePolicy p a b)) (half_halfBytes m) (word_eq n)
  | loadEgressClass c m r n =>
    exact congrArg₂ (fun a b => some (Command.loadEgressClass c m a b)) (half_halfBytes r) (half_halfBytes n)
  | discardKey s g => exact congrArg (fun t => some (Command.discardKey s t)) (half_halfBytes g)
  | readRow r => exact congrArg (fun t => some (Command.readRow t)) (half_halfBytes r)
  | setTime t => exact congrArg (fun t => some (Command.setTime t)) (word_eq t)
  | setTrim t => exact congrArg (fun t => some (Command.setTrim t)) (half_halfBytes t)
  | setTimer c t p r => exact congrArg (fun p => some (Command.setTimer c t p r)) (half_halfBytes p)
  | clearStatus n => exact congrArg (fun t => some (Command.clearStatus t)) (half_halfBytes n)
  | _ => rfl

theorem decodeCommand_of_ge {n : Nat} (hn : 45 ≤ n) (h : n < 256) (args : List Byte) :
    decodeCommand (BitVec.ofNat 8 n) args = none := by
  interval_cases n <;> rfl

theorem encode_of_decode_toneTable {args : List Byte} {c : Command} (h : decodeCommand 17#8 args = some c) :
    17#8 = c.kind ∧ args = encodeArguments c := by
  obtain _ | ⟨p, rest⟩ := args
  · cases h
  rw [decodeCommand_toneTable] at h
  obtain ⟨v, hv, rfl⟩ := Option.map_eq_some_iff.mp h
  refine ⟨rfl, ?_⟩
  change p :: rest = p :: v.pop.toList.flatMap halfBytes ++ halfBytes v[17]
  rw [eq_flatMap_of_halvesOf hv, List.cons_append, toneWords_eq]
  exact congrArg (fun w : Vector Half 18 => p :: w.toList.flatMap halfBytes) (Vector.push_pop_back v).symm

/-- The bytes of a kind and its arguments are the encoding of the command they form, kind by kind. -/
theorem encode_of_decodeCommand {kind : Byte} {args : List Byte} {c : Command} (h : decodeCommand kind args = some c) :
    kind = c.kind ∧ args = encodeArguments c := by
  obtain ⟨n, hn⟩ : ∃ n, kind.toNat = n := ⟨_, rfl⟩
  obtain rfl : kind = BitVec.ofNat 8 n := BitVec.eq_of_toNat_eq (by have := kind.isLt; simp [hn]; omega)
  have hlt : n < 256 := by simp at hn; omega
  clear hn
  by_cases hrange : n < 45
  · interval_cases n
    · cases h
    · iterate 9 (rcases args with _ | ⟨_, args⟩; cases h)
      rcases args with _ | ⟨_, _⟩ <;> cases h; exact ⟨rfl, by simp [encodeArguments]⟩
    · obtain _ | ⟨a, _ | ⟨_, _⟩⟩ := args <;> cases h; exact ⟨rfl, rfl⟩
    · obtain _ | ⟨a, _ | ⟨_, _⟩⟩ := args <;> cases h; exact ⟨rfl, rfl⟩
    · obtain _ | ⟨a, _ | ⟨_, _⟩⟩ := args <;> cases h; exact ⟨rfl, rfl⟩
    · obtain _ | ⟨a, _ | ⟨_, _⟩⟩ := args <;> cases h; exact ⟨rfl, rfl⟩
    · iterate 15 (rcases args with _ | ⟨_, args⟩; cases h)
      rcases args with _ | ⟨_, _⟩ <;> cases h; exact ⟨rfl, by simp [encodeArguments]⟩
    · obtain _ | ⟨_, _⟩ := args <;> cases h; exact ⟨rfl, rfl⟩
    · iterate 5 (rcases args with _ | ⟨_, args⟩; cases h)
      rcases args with _ | ⟨_, _⟩ <;> cases h; exact ⟨rfl, by simp [encodeArguments]⟩
    · iterate 19 (rcases args with _ | ⟨_, args⟩; cases h)
      rcases args with _ | ⟨_, _⟩ <;> cases h; exact ⟨rfl, by simp [encodeArguments]⟩
    · obtain _ | ⟨a, _ | ⟨_, _⟩⟩ := args <;> cases h; exact ⟨rfl, rfl⟩
    · obtain _ | ⟨a, _ | ⟨b, _ | ⟨_, _⟩⟩⟩ := args <;> cases h; exact ⟨rfl, rfl⟩
    · obtain _ | ⟨a, _ | ⟨_, _⟩⟩ := args <;> cases h; exact ⟨rfl, rfl⟩
    · obtain _ | ⟨a, _ | ⟨_, _⟩⟩ := args <;> cases h; exact ⟨rfl, rfl⟩
    · obtain _ | ⟨_, _⟩ := args <;> cases h; exact ⟨rfl, rfl⟩
    · obtain _ | ⟨_, _⟩ := args <;> cases h; exact ⟨rfl, rfl⟩
    · obtain _ | ⟨_, _⟩ := args <;> cases h; exact ⟨rfl, rfl⟩
    · exact encode_of_decode_toneTable h
    · obtain _ | ⟨a, _ | ⟨b, _ | ⟨_, _⟩⟩⟩ := args <;> cases h; exact ⟨rfl, by simp [encodeArguments]⟩
    · obtain _ | ⟨a, _ | ⟨_, _⟩⟩ := args <;> cases h; exact ⟨rfl, rfl⟩
    · obtain _ | ⟨_, _⟩ := args <;> cases h; exact ⟨rfl, rfl⟩
    · obtain _ | ⟨a, _ | ⟨b, _ | ⟨_, _⟩⟩⟩ := args <;> cases h; exact ⟨rfl, by simp [encodeArguments]⟩
    · obtain _ | ⟨_, _⟩ := args <;> cases h; exact ⟨rfl, rfl⟩
    · obtain _ | ⟨_, _⟩ := args <;> cases h; exact ⟨rfl, rfl⟩
    · obtain _ | ⟨a, _ | ⟨_, _⟩⟩ := args <;> cases h; exact ⟨rfl, rfl⟩
    · obtain _ | ⟨a, _ | ⟨_, _⟩⟩ := args <;> cases h; exact ⟨rfl, rfl⟩
    · iterate 7 (rcases args with _ | ⟨_, args⟩; cases h)
      rcases args with _ | ⟨_, _⟩ <;> cases h; exact ⟨rfl, by simp [encodeArguments]⟩
    · obtain _ | ⟨a, _ | ⟨_, _⟩⟩ := args <;> cases h; exact ⟨rfl, rfl⟩
    · obtain _ | ⟨a, _ | ⟨_, _⟩⟩ := args <;> cases h; exact ⟨rfl, rfl⟩
    · iterate 6 (rcases args with _ | ⟨_, args⟩; cases h)
      rcases args with _ | ⟨_, _⟩ <;> cases h; exact ⟨rfl, by simp [encodeArguments]⟩
    · obtain _ | ⟨a, _ | ⟨_, _⟩⟩ := args <;> cases h; exact ⟨rfl, rfl⟩
    · iterate 3 (rcases args with _ | ⟨_, args⟩; cases h)
      rcases args with _ | ⟨_, _⟩ <;> cases h; exact ⟨rfl, by simp [encodeArguments]⟩
    · obtain _ | ⟨a, _ | ⟨_, _⟩⟩ := args <;> cases h; exact ⟨rfl, rfl⟩
    · obtain _ | ⟨_, _⟩ := args <;> cases h; exact ⟨rfl, rfl⟩
    · obtain _ | ⟨_, _⟩ := args <;> cases h; exact ⟨rfl, rfl⟩
    · obtain _ | ⟨_, _⟩ := args <;> cases h; exact ⟨rfl, rfl⟩
    · obtain _ | ⟨a, _ | ⟨_, _⟩⟩ := args <;> cases h; exact ⟨rfl, rfl⟩
    · obtain _ | ⟨a, _ | ⟨b, _ | ⟨_, _⟩⟩⟩ := args <;> cases h; exact ⟨rfl, by simp [encodeArguments]⟩
    · iterate 4 (rcases args with _ | ⟨_, args⟩; cases h)
      rcases args with _ | ⟨_, _⟩ <;> cases h; exact ⟨rfl, by simp [encodeArguments]⟩
    · obtain _ | ⟨_, _⟩ := args <;> cases h; exact ⟨rfl, rfl⟩
    · obtain _ | ⟨a, _ | ⟨b, _ | ⟨_, _⟩⟩⟩ := args <;> cases h; exact ⟨rfl, by simp [encodeArguments]⟩
    · iterate 5 (rcases args with _ | ⟨_, args⟩; cases h)
      rcases args with _ | ⟨_, _⟩ <;> cases h; exact ⟨rfl, by simp [encodeArguments]⟩
    · obtain _ | ⟨_, _⟩ := args <;> cases h; exact ⟨rfl, rfl⟩
    · obtain _ | ⟨a, _ | ⟨b, _ | ⟨_, _⟩⟩⟩ := args <;> cases h; exact ⟨rfl, by simp [encodeArguments]⟩
    · obtain _ | ⟨_, _⟩ := args <;> cases h; exact ⟨rfl, rfl⟩
  · rw [decodeCommand_of_ge (by omega) hlt] at h
    cases h

/-- Settles O2: forward by the command, backward by the kind byte. -/
theorem commandsDecodeExactly : Obligations.CommandsDecodeExactly := by
  intro kind args c
  refine ⟨encode_of_decodeCommand, ?_⟩
  rintro ⟨rfl, rfl⟩
  exact decodeCommand_encode c

end Sys2Proof

/-! PROOFS. The controller link: command frames taken and queued (O3), damaged frames discarded (O4). -/

namespace Sys2Proof.Machine

/-! ### Frames and their check values -/

@[simp] theorem length_beBytes (w v : Nat) : (beBytes w v).length = w := by
  induction w with
  | zero => rfl
  | succ w ih => simp [beBytes, ih]

/-- A frame formed from a body of at least the kind byte carries that body. -/
theorem checkFrame_frameOf {l : List Byte} (hl : 1 ≤ l.length) : checkFrame (frameOf l) = some l := by
  have h4 : (frameOf l).length = l.length + 4 := by simp [frameOf, u32]
  have hn : (frameOf l).length - 4 = l.length := by omega
  have htake : (frameOf l).take l.length = l := by simp [frameOf]
  have hdrop : (frameOf l).drop l.length = u32 (crc32 l) := by simp [frameOf]
  rw [checkFrame, hn, htake, hdrop]
  exact if_pos ⟨by omega, rfl⟩

/-! ### Command frames -/

theorem linkOpen_iff (s : State) :
    linkOpen s = true ↔ s.li.commandQueue.length < 4 ∧ s.li.bandPosition = none ∧ s.li.pathLine = false := by
  simp [linkOpen, and_assoc]

theorem downstreamFrame_of_command (s : State) (body : List Byte) :
    downstreamFrame (frameOf (0x01#8 :: body)) s = deliver (readCommandFrame body) s := by
  rw [downstreamFrame, checkFrame_frameOf (by simp)]
  by_cases hl : linkOpen s = true
  · exact if_pos hl
  · rw [if_neg hl, deliver, if_neg hl]

theorem readCommandFrame_encode (tag : Byte) (c : Command) :
    readCommandFrame (c.kind :: tag :: encodeArguments c) = ⟨c.kind, tag, some c⟩ := by
  rw [readCommandFrame, decodeCommand_encode]

/-- A frame that forms no command, on a part that can carry it out at once, is answered MALFORMED. -/
theorem deliver_malformed {s : State} (h : Ready s) (kind tag : Byte) :
    deliver ⟨kind, tag, none⟩ s = s.answered kind tag .malformed [] :=
  deliver_of_ready h _

/-- A Command Unit that is not IDLE takes nothing. -/
theorem takeNext_of_busy {s : State} (h : s.cu.state ≠ .idle) : takeNext s = s := by
  rw [takeNext]
  split
  · exact absurd (by assumption) h
  · rfl

theorem takeNext_of_idle {s : State} {f : CommandFrame} {rest : List CommandFrame} (hi : s.cu.state = .idle)
    (hq : s.li.commandQueue = f :: rest) :
    takeNext s = execute f { s with li := { s.li with commandQueue := rest } } := by
  rw [takeNext, hi, hq]

theorem replySent_eq {s : State} {r : Reply} (h : s.li.sending = some (.reply r)) :
    replySent s = takeNext { s with
      cu := { s.cu with state := .idle }
      li := { s.li with
        sending := none
        commandQueue := if r.kind = 22 ∧ r.code = .ok then [] else s.li.commandQueue }
      upstreamOut := s.upstreamOut ++ [encodeReply r] } := by
  rw [replySent, h]
  dsimp only
  by_cases hr : r.kind = 22 ∧ r.code = .ok
  · rw [if_pos hr]
    exact congrArg takeNext (by rw [if_pos (show r.kind = Command.resetPath.kind ∧ r.code = .ok from hr)]; rfl)
  · rw [if_neg hr]
    exact congrArg takeNext (by rw [if_neg (show ¬(r.kind = Command.resetPath.kind ∧ r.code = .ok) from hr)]; rfl)

/-- Settles O3. -/
theorem commandFramesTaken : Obligations.CommandFramesTaken := by
  refine ⟨fun s tag c => ?_, fun s kind tag args h hd => ?_, fun s h => ⟨fun kind => ?_, ?_⟩,
    fun s tag hb hl => ?_, fun s r hr => ?_, fun s f rest hq hi hf => ?_⟩
  · change Host.Outcome.next (downstreamFrame (frameOf (0x01#8 :: c.kind :: tag :: encodeArguments c)) s) = _
    rw [downstreamFrame_of_command, readCommandFrame_encode, deliver]
    simp only [linkOpen_iff]
  · change Host.Outcome.next (downstreamFrame _ s) = _
    rw [downstreamFrame_of_command, readCommandFrame, hd, deliver_malformed h]
  · change Host.Outcome.next (downstreamFrame _ s) = _
    rw [downstreamFrame_of_command, readCommandFrame, deliver_malformed h]
  · change Host.Outcome.next (downstreamFrame _ s) = _
    rw [downstreamFrame_of_command, readCommandFrame, deliver_malformed h]
  · change Host.Outcome.next (deliver _ s) = _
    rw [deliver, if_pos hl]
    exact congrArg Host.Outcome.next (takeNext_of_busy hb)
  · exact congrArg Host.Outcome.next (replySent_eq hr)
  · rw [takeNext_of_idle hi hq, execute, hf]
    rfl

/-! ### Damaged frames -/

theorem parseBand_of_short (f : Fin 16 → Bool) {k : Byte} {body : List Byte} (h : body.length < 10) :
    parseBand f (k :: body) = none := by
  rw [parseBand]
  · intro _ h p1 p0 plane flags i1 i0 lines w1 w0 rest he
    cases he
    simp at h
    omega

/-- A band frame whose header is complete is a band exactly when its fields are in range and its length is theirs. -/
theorem parseBand_eq_none {f : Fin 16 → Bool} {k job p1 p0 plane flags i1 i0 lines w1 w0 : Byte} {payload : List Byte}
    (h : ¬(job.toNat < 16 ∧ plane.toNat < 4 ∧ 256 * i1.toNat + i0.toNat ≤ 16383 ∧ 1 ≤ lines.toNat ∧ lines.toNat ≤ 64 ∧
      1 ≤ 256 * w1.toNat + w0.toNat ∧ 256 * w1.toNat + w0.toNat ≤ 8192 ∧
      payload.length = (256 * w1.toNat + w0.toNat) * lines.toNat +
        if ∃ h : Fin 16, h.val = job.toNat ∧ f h = true then 4 else 0)) :
    parseBand f (k :: job :: p1 :: p0 :: plane :: flags :: i1 :: i0 :: lines :: w1 :: w0 :: payload) = none := by
  have hbe (a b : Byte) : beNat [a, b] = 256 * a.toNat + b.toNat := by simp [beNat]; omega
  rw [parseBand]
  by_cases hj : job.toNat < 16
  · by_cases hp : plane.toNat < 4
    · rw [dif_pos hj, dif_pos hp]
      have hf : (∃ h : Fin 16, h.val = job.toNat ∧ f h = true) ↔ f ⟨job.toNat, hj⟩ = true :=
        ⟨fun ⟨h, he, hh⟩ => Fin.ext (a := h) (b := ⟨job.toNat, hj⟩) he ▸ hh, fun hh => ⟨_, rfl, hh⟩⟩
      simp only [hbe]
      refine if_neg fun hc => h ?_
      simp only [hf]
      exact ⟨hj, hp, hc⟩
    · rw [dif_pos hj, dif_neg hp]
  · rw [dif_neg hj]

theorem downstreamFrame_of_no_frame {s : State} {frame : List Byte} (hl : linkOpen s = true) (h : checkFrame frame = none) :
    downstreamFrame frame s = s.linkError .controller := by
  rw [downstreamFrame, if_pos hl, h]

theorem downstreamFrame_of_unknown {s : State} {frame body : List Byte} {kind : Byte} (hl : linkOpen s = true)
    (h : checkFrame frame = some (kind :: body)) (h1 : kind ≠ 0x01#8) (h2 : kind ≠ 0x02#8) :
    downstreamFrame frame s = s.linkError .controller := by
  rw [downstreamFrame, if_pos hl, h]
  dsimp only
  rw [if_neg h1, if_neg h2]

theorem downstreamFrame_of_no_band {s : State} {frame body : List Byte} (hl : linkOpen s = true)
    (h : checkFrame frame = some (0x02#8 :: body))
    (hb : parseBand (fun h => (s.job h).kind == .release) (0x02#8 :: body) = none) :
    downstreamFrame frame s = s.linkError .controller := by
  rw [downstreamFrame, if_pos hl, h]
  dsimp only
  rw [if_neg (by decide), if_pos rfl, hb]

/-- Settles O4: by the cause of the discard, then by what raising LINK FRAME ERROR does. -/
theorem damagedFramesDiscarded : Obligations.DamagedFramesDiscarded := by
  refine ⟨fun s frame hl hd => ?_, fun s frame h => ?_, fun s frame h => ?_, fun s c frame h => ?_, fun s l => ?_⟩
  · have key : downstreamFrame frame s = s.linkError .controller := by
      obtain h | ⟨kind, body, h, h1, h2⟩ | ⟨body, h, hshort⟩ | ⟨job, p1, p0, plane, flags, i1, i0, lines, w1, w0, payload, h, hr⟩ := hd
      · exact downstreamFrame_of_no_frame hl h
      · exact downstreamFrame_of_unknown hl h h1 h2
      · exact downstreamFrame_of_no_band hl h (parseBand_of_short _ hshort)
      · refine downstreamFrame_of_no_band hl h (parseBand_eq_none ?_)
        simpa only [beq_iff_eq] using hr
    exact ⟨congrArg Host.Outcome.next key, congrArg Host.Outcome.next key⟩
  · change Host.Outcome.next (engineBytes s frame) = _
    rw [engineBytes, h]
  · change Host.Outcome.next (scannerBytes s frame) = _
    rw [scannerBytes, h]
  · change Host.Outcome.next (tagBytes s c frame) = _
    rw [tagBytes, h]
  · intro t n link enabled room
    have hn : n = satAdd max16 s.li.errors 1 := rfl
    have hlink : link = l.code := by cases l <;> rfl
    obtain ⟨u, hu⟩ : ∃ u : State, u = { s with li := { s.li with errors := n } } := ⟨_, rfl⟩
    have ht : t = u.raise .linkFrameError [.u8 link, .u16 n] := by rw [hu, hlink, hn]; rfl
    have hst : u.status = s.status := by rw [hu]
    obtain ⟨hframe, hmask, -, -, -, hoff, hon⟩ := conditionsRaiseNotices u .linkFrameError [.u8 link, .u16 n]
    rw [← ht] at hframe hmask hoff hon
    have henabled : u.status.enabled .linkFrameError = true ↔ enabled := by rw [hst]; exact Iff.rfl
    have hroom : u.status.notices.length < 32 ↔ room := by rw [hst]
    rw [hst] at hoff hon
    rw [hst] at henabled hroom
    refine ⟨by rw [hframe, hu], by rw [hmask, hst], fun g => ?_, ?_, ?_⟩
    · rw [ht, has_raise, hst]
      simp only [Bool.or_eq_true, Bool.and_eq_true, beq_iff_eq, decide_eq_true_eq, henabled, ← Nat.not_lt, hroom, or_assoc,
        and_assoc]
    · by_cases he : enabled
      · rw [if_pos he, (hon (henabled.mpr he)).1]
      · rw [if_neg he, (hoff (Bool.eq_false_iff.mpr (mt henabled.mp he))).2]
    · by_cases he : enabled
      · obtain ⟨-, hfits, hfull⟩ := hon (henabled.mpr he)
        by_cases hr : room
        · rw [if_pos ⟨he, hr⟩, hfits (hroom.mpr hr), hu]
        · rw [if_neg fun h => hr h.2, (hfull (Nat.not_lt.mp (mt hroom.mp hr))).1]
      · rw [if_neg fun h => he h.1, (hoff (Bool.eq_false_iff.mpr (mt henabled.mp he))).1]

end Sys2Proof.Machine

/-! PROOFS. OPEN JOB: its refusals in order (O16) and what an accepted one fills (O17). -/

namespace Sys2Proof.Machine

/-! ### Tables of conditions -/

/-- The code of the first condition of a table that holds, the conditions as the model tests them. -/
def firstCode : List (Bool × ReplyCode) → Option ReplyCode
  | [] => none
  | (b, c) :: rest => if b = true then some c else firstCode rest

/-- Two tables of conditions agree row by row. -/
def SameTable : List (Bool × ReplyCode) → List (Prop × ReplyCode) → Prop
  | [], [] => True
  | (b, c) :: bs, (p, d) :: ps => (b = true ↔ p) ∧ c = d ∧ SameTable bs ps
  | _, _ => False

theorem firstCode_of_firstHolds {code : ReplyCode} : ∀ {bs : List (Bool × ReplyCode)} {ps : List (Prop × ReplyCode)},
    SameTable bs ps → FirstHolds ps code → firstCode bs = some code
  | [], [], _, h => h.elim
  | (b, c) :: bs, (p, d) :: ps, ⟨hb, hc, hr⟩, .inl ⟨hp, hd⟩ => by rw [firstCode, if_pos (hb.mpr hp), hc, hd]
  | (b, c) :: bs, (p, d) :: ps, ⟨hb, hc, hr⟩, .inr ⟨hp, h⟩ => by
    rw [firstCode, if_neg (mt hb.mp hp), firstCode_of_firstHolds hr h]

theorem firstCode_of_none_holds : ∀ {bs : List (Bool × ReplyCode)} {ps : List (Prop × ReplyCode)},
    SameTable bs ps → (∀ row ∈ ps, ¬row.1) → firstCode bs = none
  | [], [], _, _ => rfl
  | (b, c) :: bs, (p, d) :: ps, ⟨hb, hc, hr⟩, h => by
    rw [firstCode, if_neg (mt hb.mp (h _ (List.mem_cons_self ..))),
      firstCode_of_none_holds hr fun row hm => h row (List.mem_cons_of_mem _ hm)]

/-! ### The values the arguments name -/

def namedKind (a : OpenJobArgs) : JobKind := if a.kind = 0 then .print else if a.kind = 1 then .release else .scan
def namedMode (a : OpenJobArgs) : ColourMode := if a.mode = 0 then .mono else .color
def namedSize (a : OpenJobArgs) : Option SizeClass :=
  if a.kind = 2 then none else some (if a.size = 0 then .small else .large)

theorem JobKind.ofByte_of_lt {b : Byte} (h : b.toNat < 3) :
    JobKind.ofByte b = some (if b = 0 then .print else if b = 1 then .release else .scan) := by
  have h0 : b = 0 ↔ b.toNat = 0 := Byte.eq_iff
  have h1 : b = 1 ↔ b.toNat = 1 := Byte.eq_iff
  simp only [JobKind.ofByte, h0, h1]
  generalize b.toNat = n at h
  interval_cases n <;> rfl

theorem JobKind.ofByte_of_ge {b : Byte} (h : 3 ≤ b.toNat) : JobKind.ofByte b = none := by
  obtain ⟨n, hn⟩ := Nat.exists_eq_add_of_le' h
  rw [JobKind.ofByte, hn]
  rfl

theorem ColourMode.ofByte_of_lt {b : Byte} (h : b.toNat < 2) :
    ColourMode.ofByte b = some (if b = 0 then .mono else .color) := by
  have h0 : b = 0 ↔ b.toNat = 0 := Byte.eq_iff
  simp only [ColourMode.ofByte, h0]
  generalize b.toNat = n at h
  interval_cases n <;> rfl

theorem ColourMode.ofByte_of_ge {b : Byte} (h : 2 ≤ b.toNat) : ColourMode.ofByte b = none := by
  obtain ⟨n, hn⟩ := Nat.exists_eq_add_of_le' h
  rw [ColourMode.ofByte, hn]
  rfl

theorem SizeClass.ofByte_of_lt {b : Byte} (h : b.toNat < 2) :
    SizeClass.ofByte b = some (if b = 0 then .small else .large) := by
  have h0 : b = 0 ↔ b.toNat = 0 := Byte.eq_iff
  simp only [SizeClass.ofByte, h0]
  generalize b.toNat = n at h
  interval_cases n <;> rfl

theorem SizeClass.ofByte_of_ge {b : Byte} (h : 2 ≤ b.toNat) : SizeClass.ofByte b = none := by
  obtain ⟨n, hn⟩ := Nat.exists_eq_add_of_le' h
  rw [SizeClass.ofByte, hn]
  rfl

/-- Of a kind byte below 3, each value is one kind. -/
theorem namedKind_iff {a : OpenJobArgs} (h : a.kind.toNat < 3) :
    (a.kind = 0 ↔ namedKind a = .print) ∧ (a.kind = 1 ↔ namedKind a = .release) ∧ (a.kind = 2 ↔ namedKind a = .scan) := by
  rw [namedKind]
  by_cases h0 : a.kind = 0
  · rw [h0]; decide
  · by_cases h1 : a.kind = 1
    · rw [h1]; decide
    · have h2 : a.kind = 2 := by
        rw [Byte.eq_iff] at h0 h1 ⊢
        simp at h0 h1 ⊢
        omega
      rw [h2]; decide

theorem namedMode_iff {a : OpenJobArgs} (h : a.mode.toNat < 2) : a.mode = 1 ↔ namedMode a = .color := by
  rw [namedMode]
  by_cases h0 : a.mode = 0
  · rw [h0]; decide
  · have h1 : a.mode = 1 := by
      rw [Byte.eq_iff] at h0 ⊢
      simp at h0 ⊢
      omega
    rw [h1]; decide

theorem openSize_of_named {a : OpenJobArgs} (h : NamesValues a) : openSize (namedKind a) a.size = some (namedSize a) := by
  obtain ⟨hk, -, hs⟩ := h
  obtain ⟨-, -, h2⟩ := namedKind_iff hk
  by_cases hscan : a.kind = 2
  · rw [h2.mp hscan, namedSize, if_pos hscan]; rfl
  · have hne : namedKind a ≠ .scan := mt h2.mpr hscan
    have hsize := SizeClass.ofByte_of_lt (hs.resolve_left hscan)
    rw [namedSize, if_neg hscan]
    cases hj : namedKind a with
    | scan => exact absurd hj hne
    | print => rw [openSize, hsize]; rfl; simp
    | release => rw [openSize, hsize]; rfl; simp

theorem openSize_of_unnamed {a : OpenJobArgs} (hk : a.kind.toNat < 3) (hs : ¬(a.kind = 2 ∨ a.size.toNat < 2)) :
    openSize (namedKind a) a.size = none := by
  obtain ⟨hscan, hsize⟩ := not_or.mp hs
  obtain ⟨-, -, h2⟩ := namedKind_iff hk
  have hne : namedKind a ≠ .scan := mt h2.mpr hscan
  cases hj : namedKind a with
  | scan => exact absurd hj hne
  | print => rw [openSize, SizeClass.ofByte_of_ge (Nat.not_lt.mp hsize)]; rfl; simp
  | release => rw [openSize, SizeClass.ofByte_of_ge (Nat.not_lt.mp hsize)]; rfl; simp

/-! ### The command by its arguments -/

theorem cmdOpenJob_of_unnamed {a : OpenJobArgs} (h : ¬NamesValues a) (s : State) :
    cmdOpenJob a s = s.refuse .malformed := by
  rw [cmdOpenJob]
  by_cases hk : a.kind.toNat < 3
  · by_cases hm : a.mode.toNat < 2
    · have hs : ¬(a.kind = 2 ∨ a.size.toNat < 2) := fun hs => h ⟨hk, hm, hs⟩
      have hnone := openSize_of_unnamed hk hs
      rw [namedKind] at hnone
      rw [JobKind.ofByte_of_lt hk, ColourMode.ofByte_of_lt hm]
      dsimp only
      rw [hnone]
    · rw [ColourMode.ofByte_of_ge (Nat.not_lt.mp hm)]
      cases JobKind.ofByte a.kind <;> rfl
  · rw [JobKind.ofByte_of_ge (Nat.not_lt.mp hk)]

section
variable {s : State} {a : OpenJobArgs} (hn : NamesValues a)
include hn

theorem cmdOpenJob_of_refusal {code : ReplyCode} (hr : openRefusal s (namedKind a) (namedMode a) a = some code) :
    cmdOpenJob a s = s.refuse code := by
  obtain ⟨hk, hm, -⟩ := id hn
  have hs := openSize_of_named hn
  rw [namedKind] at hs hr
  rw [namedMode] at hr
  rw [cmdOpenJob, JobKind.ofByte_of_lt hk, ColourMode.ofByte_of_lt hm]
  dsimp only
  rw [hs]
  dsimp only
  rw [hr]

theorem cmdOpenJob_of_admitted {h : Fin 16} (hr : openRefusal s (namedKind a) (namedMode a) a = none)
    (hf : freeContext? s = some h) :
    cmdOpenJob a s = openAt s h (namedKind a) (namedMode a) (namedSize a) a := by
  obtain ⟨hk, hm, -⟩ := id hn
  have hs := openSize_of_named hn
  rw [namedKind] at hs hr
  rw [namedMode] at hr
  rw [cmdOpenJob, JobKind.ofByte_of_lt hk, ColourMode.ofByte_of_lt hm]
  dsimp only
  rw [hs]
  dsimp only
  rw [hr, hf, namedKind, namedMode]

end

/-! ### The refusals in order -/

theorem freeContext?_isNone_iff (s : State) : (freeContext? s).isNone = true ↔ ∀ h, (s.job h).state ≠ .free := by
  simp [freeContext?, State.handles]

theorem freeSlot?_isNone_iff (s : State) : (freeSlot? s).isNone = true ↔ ∀ k, (s.key k).state ≠ .free := by
  simp [freeSlot?, keySlots]

/-- The key slot a byte names, as the table of R26 reads it. -/
theorem keySlot_get?_eq (s : State) (b : Byte) : s.kt[b.toNat]? = (indexOf 64 b).map fun k => s.key k := by
  by_cases h : b.toNat < 64
  · rw [indexOf_of_lt h, Vector.getElem?_eq_getElem h]; rfl
  · rw [indexOf_of_not_lt h, Vector.getElem?_eq_none (Nat.not_lt.mp h)]; rfl

/-- The conditions of R26 as the model tests them, in order. -/
def openTests (s : State) (kind : JobKind) (mode : ColourMode) (a : OpenJobArgs) : List (Bool × ReplyCode) :=
  let x := s.account (byteIndex a.account)
  [((freeContext? s).isNone, .full),
   (x.state == .absent, .noEntry),
   (kind == .release && unknownSlot s a, .noEntry),
   (x.state == .suspended, .refused),
   (lacksPrivilege x kind mode, .refused),
   (kind != .print && noSession s (byteIndex a.account), .refused),
   (kind == .scan && !x.allows a.dest.toNat, .refused),
   (kind == .release && notReleasable s x a, .refused),
   (kind == .scan && State.handles.any (fun h => (s.job h).kind == .scan && (s.job h).state != .free), .busy),
   (kind == .release && slotNamed s a, .busy),
   (kind == .scan && cipherClass s a && (freeSlot? s).isNone, .full)]

theorem sameTable_openTests (s : State) {a : OpenJobArgs} (hn : NamesValues a) :
    SameTable (openTests s (namedKind a) (namedMode a) a) (openTable s a) := by
  obtain ⟨hk, hm, -⟩ := hn
  obtain ⟨h0, h1, h2⟩ := namedKind_iff hk
  have hc := namedMode_iff hm
  obtain ⟨kind, hkind⟩ : ∃ kind, namedKind a = kind := ⟨_, rfl⟩
  obtain ⟨mode, hmode⟩ : ∃ mode, namedMode a = mode := ⟨_, rfl⟩
  rw [hkind] at h0 h1 h2
  rw [hmode] at hc
  rw [hkind, hmode, openTable]
  simp only [h0, h1, h2, hc, keySlot_get?_eq, ne_eq]
  refine ⟨freeContext?_isNone_iff s, rfl, ?absent, rfl, ?unknown, rfl, ?suspended, rfl, ?privilege, rfl, ?session, rfl,
    ?window, rfl, ?releasable, rfl, ?scanning, rfl, ?named, rfl, ?slots, rfl, trivial⟩
  case absent => exact beq_iff_eq
  case suspended => exact beq_iff_eq
  case unknown =>
    simp only [Bool.and_eq_true, beq_iff_eq, unknownSlot]
    cases indexOf 64 a.slot <;> simp
  case privilege =>
    simp [lacksPrivilege, Account.mayColor, Account.mayScan, Account.mayRelease, State.account, byteIndex, or_assoc]
  case session =>
    simp only [Bool.and_eq_true, bne_iff_ne, noSession, Bool.not_eq_true', ne_eq]
    refine and_congr_right fun _ => ?_
    cases s.acct.session <;> simp [Fin.ext_iff, byteIndex]
  case window =>
    have hdest : a.dest = 0 ↔ a.dest.toNat = 0 := Byte.eq_iff
    simp only [Bool.and_eq_true, beq_iff_eq, Bool.not_eq_true', ← Bool.not_eq_true, Account.allows_iff, hdest]
    rfl
  case releasable =>
    simp only [Bool.and_eq_true, beq_iff_eq, notReleasable]
    cases indexOf 64 a.slot with
    | none => simp
    | some k =>
      have hexpiry : ((s.key k).expiry.any fun e => e ≤ s.now) = true ↔ ∃ e ∈ (s.key k).expiry, e ≤ s.tb.seconds := by
        simp only [Option.any_eq_true, decide_eq_true_eq]
        exact Iff.rfl
      simp only [Option.any_some, Bool.or_eq_true, hexpiry, bne_iff_ne, beq_iff_eq, or_assoc, Option.map_some,
        Option.mem_def, Option.some.injEq, exists_eq_left']
      rfl
  case scanning => simp [State.handles]
  case named =>
    simp only [Bool.and_eq_true, beq_iff_eq, slotNamed]
    cases indexOf 64 a.slot <;> simp [Option.isSome_iff_ne_none]
  case slots =>
    simp only [Bool.and_eq_true, beq_iff_eq, cipherClass, freeSlot?_isNone_iff, and_assoc]
    rfl

/-- Settles O16: the model tests the conditions of R26 row by row of the table. -/
theorem openJobRefusals : Obligations.OpenJobRefusals := by
  refine fun s tag a hr => ⟨fun hn => ?_, fun hn code hf => ?_⟩
  · exact next_of_reply hr (.openJob a) (cmdOpenJob_of_unnamed hn s) rfl
  · have hcode : openRefusal s (namedKind a) (namedMode a) a = some code :=
      firstCode_of_firstHolds (sameTable_openTests s hn) hf
    exact next_of_reply hr (.openJob a) (cmdOpenJob_of_refusal hn hcode) rfl

end Sys2Proof.Machine

/-! PROOFS. What an accepted OPEN JOB fills (O17). -/

namespace Sys2Proof.Machine

/-! ### The lowest free entry of a table -/

/-- A search over all indices finds the lowest that qualifies. -/
theorem find?_finRange {n : Nat} {p : Fin n → Bool} {i : Fin n} (hi : p i = true) (hlt : ∀ j < i, ¬p j = true) :
    (List.finRange n).find? p = some i := by
  rw [← Fin.find?_eq_find?_finRange, Fin.find?_eq_some_iff]
  exact ⟨hi, fun j hj => Bool.eq_false_iff.mpr (hlt j hj)⟩

theorem freeContext?_eq_some {s : State} {h : Fin 16} (hf : (s.job h).state = .free)
    (hlt : ∀ g < h, (s.job g).state ≠ .free) : freeContext? s = some h :=
  find?_finRange (by simpa using hf) fun g hg => by simpa using hlt g hg

theorem freeSlot?_eq_some {s : State} {k : Fin 64} (hf : (s.key k).state = .free)
    (hlt : ∀ g < k, (s.key g).state ≠ .free) : freeSlot? s = some k :=
  find?_finRange (by simpa using hf) fun g hg => by simpa using hlt g hg

/-! ### The context and what follows it -/

/-- The state once a context has been filled: the refused-page marker is cleared, a band of the handle that waits is
dropped, and the session idle channel follows (R27). -/
def State.filled (s : State) (h : Fin 16) (j : Job) : State :=
  { s with
    li := { s.li with bandPosition := s.li.bandPosition.filter fun w => w.band.job != h }
    jt := s.jt.set h j, pp := { s.pp with markers := s.pp.markers.set h none }
    tb := { s.tb with channels := if ∃ x ∈ s.acct.session, x.account = j.account
              then s.tb.channels.set 0 s.tb.channels[0].start else s.tb.channels } }

theorem touchIdle_eq_filled (s : State) (h : Fin 16) (j : Job) :
    touchIdle (dropWaiting ((s.setJob h j).setMarker h none) h) j.account = s.filled h j := by
  have hsession : (s.acct.session.any fun x => x.account == j.account) = true ↔
      ∃ x ∈ s.acct.session, x.account = j.account := by
    simp [Option.any_eq_true]
  have hs : (dropWaiting ((s.setJob h j).setMarker h none) h).acct = s.acct := rfl
  simp only [touchIdle, hs, hsession, State.filled]
  split <;> rfl

theorem openAt_of_no_slot {s : State} {h : Fin 16} {kind : JobKind} {mode : ColourMode} {size : Option SizeClass}
    {a : OpenJobArgs} (hk : openSlot? s kind a = none) :
    openAt s h kind mode size a = (s.filled h (openedJob kind mode size a none)).ok [.u8 h] := by
  rw [openAt, hk]
  exact congrArg (fun t => State.ok t _) (touchIdle_eq_filled s h (openedJob kind mode size a none))

theorem openAt_of_slot {s : State} {h : Fin 16} {kind : JobKind} {mode : ColourMode} {size : Option SizeClass}
    {a : OpenJobArgs} {k : Fin 64} (hk : openSlot? s kind a = some k) {t : State}
    (ht : openKeys s kind k (s.account (byteIndex a.account)).id h = t) :
    openAt s h kind mode size a =
      (t.filled h (openedJob kind mode size a (some ⟨k, (t.key k).generation⟩))).ok
        (if kind = .scan then [.u8 h, .u8 k, .u16 (t.key k).generation.toNat] else [.u8 h]) := by
  have hacct : byteIndex a.account = (openedJob kind mode size a (some ⟨k, (t.key k).generation⟩)).account := rfl
  rw [openAt, hk]
  dsimp only
  rw [ht, hacct, touchIdle_eq_filled]
  cases kind <;> rfl

/-- The context an accepted OPEN JOB fills, as the arguments give it. -/
theorem openedJob_eq {a : OpenJobArgs} (hn : NamesValues a) (key : Option KeyRef) :
    openedJob (namedKind a) (namedMode a) (namedSize a) a key =
      { state := .active, kind := if a.kind = 0 then .print else if a.kind = 1 then .release else .scan,
        account := ⟨a.account.toNat, a.account.isLt⟩, mode := if a.mode = 0 then .mono else .color,
        size := if a.kind = 2 then none else some (if a.size = 0 then .small else .large), key := key,
        dest := if a.kind = 2 then some ⟨a.dest.toNat, a.dest.isLt⟩ else none,
        stallLimit := if a.kind = 2 then none else some (max 1 a.stall.toNat),
        stallCount := if a.kind = 2 then none else some 0,
        reason := none, cancel := false, lastPage := none, counters := ⟨0, 0, 0, 0, 0⟩ } := by
  obtain ⟨-, -, h2⟩ := namedKind_iff hn.1
  simp only [openedJob, ← h2]
  rfl

/-! ### The key slot taken -/

section
variable (s : State) (k : Fin 64) (kind : RowRequest)

theorem requestKeyRow_generation : ((requestKeyRow s k kind).key k).generation = (s.key k).generation := by
  have hkey (q : StoreRequest) : (request s q).1.key k = s.key k := by
    rw [State.key, (request_step s q).frame]; rfl
  simp [requestKeyRow, State.modKey, hkey]

end

section
variable {s t : State} (h : Fin 16) (j : Job)

/-- What fills a context reads and writes nothing that taking a key slot changes. -/
theorem State.filled_of_quiet (ht : Quiet s t) (hb : s.li.bandPosition = none) :
    t.filled h j = { t with
      jt := t.jt.set h j, pp := { t.pp with markers := t.pp.markers.set h none }
      tb := { t.tb with channels := if ∃ x ∈ s.acct.session, x.account = j.account
                then s.tb.channels.set 0 s.tb.channels[0].start else s.tb.channels } } := by
  have hf := ht.frame
  have hli : t.li.bandPosition = none := by rw [hf]; exact hb
  have htb : t.tb = s.tb := by rw [hf]
  have hses : t.acct.session = s.acct.session := by rw [hf]
  have hkeep : ({ t.li with bandPosition := t.li.bandPosition.filter fun w => w.band.job != h } : LinkInterface) = t.li := by
    simp only [hli, Option.filter_none]
    rw [← hli]
  rw [State.filled, hkeep, htb, hses]

end

/-- The state the Command Unit's owner leaves, and its answer, for an accepted OPEN JOB. -/
theorem runCommand_openJob {s : State} {a : OpenJobArgs} {h : Fin 16} (hn : NamesValues a)
    (ht : ∀ row ∈ openTable s a, ¬row.1) (hf : (s.job h).state = .free) (hlt : ∀ g < h, (s.job g).state ≠ .free) :
    runCommand (.openJob a) s = openAt s h (namedKind a) (namedMode a) (namedSize a) a :=
  cmdOpenJob_of_admitted hn (firstCode_of_none_holds (sameTable_openTests s hn) ht) (freeContext?_eq_some hf hlt)

/-- Whatever slot is taken, it is taken quietly and the context is filled after it. -/
theorem openAt_cases (s : State) (h : Fin 16) (kind : JobKind) (mode : ColourMode) (size : Option SizeClass) (a : OpenJobArgs) :
    ∃ t key, Quiet s t ∧ (openAt s h kind mode size a).1 = t.filled h (openedJob kind mode size a key) := by
  cases hk : openSlot? s kind a with
  | none => exact ⟨s, none, .refl s, by rw [openAt_of_no_slot hk]; rfl⟩
  | some k => exact ⟨_, _, openKeys_quiet .., by rw [openAt_of_slot hk rfl]; rfl⟩

section
variable {s : State} {a : OpenJobArgs} {k : Fin 64}

/-- A PRINT job, and a SCAN job of a CLEAR class, takes no key slot. -/
theorem openSlot?_of_plain (h0 : a.kind = 0 ↔ namedKind a = .print) (h2 : a.kind = 2 ↔ namedKind a = .scan)
    (h : a.kind = 0 ∨ (a.kind = 2 ∧ (s.sp.egress[a.dest.toNat]'a.dest.isLt).mode = .clear)) :
    openSlot? s (namedKind a) a = none := by
  obtain hp | ⟨hscan, hclear⟩ := h
  · rw [h0.mp hp]; rfl
  · have hc : ¬cipherClass s a = true := by
      rw [cipherClass]
      simp [byteIndex, hclear]
    rw [h2.mp hscan]
    exact if_neg hc

theorem openSlot?_of_cipher (h2 : a.kind = 2 ↔ namedKind a = .scan) (hscan : a.kind = 2)
    (hc : (s.sp.egress[a.dest.toNat]'a.dest.isLt).mode = .cipher) (hk : (s.key k).state = .free)
    (hlt : ∀ g < k, (s.key g).state ≠ .free) : openSlot? s (namedKind a) a = some k := by
  have hc : cipherClass s a = true := beq_iff_eq.mpr hc
  rw [h2.mp hscan]
  exact (if_pos hc).trans (freeSlot?_eq_some hk hlt)

/-- A RELEASE job that passes R26 names the slot's generation as it stands. -/
theorem generation_of_table (ht : ∀ row ∈ openTable s a, ¬row.1) (hrel : a.kind = 1) (hk : k.val = a.slot.toNat) :
    (s.key k).generation = a.generation := by
  have hslot : s.kt[a.slot.toNat]? = some (s.key k) := by rw [keySlot_get?_eq, indexOf_eq_some hk]; rfl
  by_contra hne
  refine ht (a.kind = 1 ∧ ∀ y ∈ s.kt[a.slot.toNat]?, y.generation ≠ a.generation, .noEntry) (by simp [openTable]) ⟨hrel, ?_⟩
  rw [hslot]
  rintro y ⟨⟩
  exact hne

end

/-- Settles O17: by the kind of the job and the mode of its class. -/
theorem openJobAccepted : Obligations.OpenJobAccepted := by
  intro s tag a h hn htable hfree hlt i opened channels fill
  obtain ⟨h0, h1, h2⟩ := namedKind_iff hn.1
  have hrun := runCommand_openJob hn htable hfree hlt
  have hopened (key) : openedJob (namedKind a) (namedMode a) (namedSize a) a key = opened key := openedJob_eq hn key
  refine ⟨fun hr => ⟨fun hkind => ?_, fun k hscan hmode hk hklt => ?_, fun k hrel hk => ?_⟩, fun w hw => ?_⟩
  · obtain ⟨-, -, hband, -⟩ := id hr
    rw [openAt_of_no_slot (openSlot?_of_plain h0 h2 hkind), hopened, State.filled_of_quiet h _ (.refl s) hband] at hrun
    exact next_of_reply hr _ hrun rfl
  · obtain ⟨-, -, hband, -⟩ := id hr
    intro drawn
    have hd : openKeys s (namedKind a) k (s.account (byteIndex a.account)).id h = drawn := by rw [h2.mp hscan]; rfl
    have hgen : (drawn.key k).generation = (s.key k).generation + 1 := by simp [drawn, State.key]
    rw [openAt_of_slot (openSlot?_of_cipher h2 hscan hmode hk hklt) hd, hopened,
      State.filled_of_quiet h _ (hd ▸ openKeys_quiet ..) hband, if_pos (h2.mp hscan), hgen] at hrun
    exact next_of_reply hr _ hrun rfl
  · obtain ⟨-, -, hband, -⟩ := id hr
    intro used
    have hu : openKeys s (namedKind a) k (s.account (byteIndex a.account)).id h = used := by rw [h1.mp hrel]; rfl
    have hq : Quiet s used := hu ▸ openKeys_quiet ..
    have hgen : (used.key k).generation = a.generation := by
      rw [requestKeyRow_generation, State.key_setKey_self]
      exact generation_of_table htable hrel hk
    have hne : namedKind a ≠ .scan := by rw [h1.mp hrel]; decide
    have hslot : openSlot? s (namedKind a) a = some k := by rw [h1.mp hrel]; exact indexOf_eq_some hk
    rw [openAt_of_slot hslot hu, hopened, State.filled_of_quiet h _ hq hband, if_neg hne, hgen] at hrun
    exact next_of_reply hr _ hrun (by rw [hq.frame])
  · intro t
    obtain ⟨u, key, hq, hu⟩ := openAt_cases s h (namedKind a) (namedMode a) (namedSize a) a
    have hli : u.li = s.li := by rw [hq.frame]
    have hjt : u.jt = s.jt := by rw [hq.frame]
    have ht : t = u.filled h (opened key) := by rw [← hopened, ← hu, ← hrun]
    refine ⟨?_, key, ?_, ?_⟩
    · rw [ht, State.filled, hli, hw]
      by_cases hwh : w.band.job = h
      · simp [hwh]
      · simp [hwh]
    · rw [ht, State.filled, hjt]
    · simp [ht, State.filled, State.job, opened]

end Sys2Proof.Machine

/-! PROOFS. Row requests and the commit queue (O23), the start of a store operation (O24), key slots (O22). -/

namespace Sys2Proof.Machine

/-! ### A request meets the queue -/

theorem StoreEntry.sameRow_of_row {q : StoreRequest} {r : Row} (hq : q.row? = some r) (own : Bool) (w : StoreEntry) :
    w.sameRow ⟨q, own⟩ = (w.request.row? == some r) := by
  rw [StoreEntry.sameRow, hq]
  cases w.request.row? <;> rfl

section
variable {writing : Option Row} {queue : List StoreEntry} {q : StoreRequest} {r : Row} (own : Bool)

theorem enqueue_of_waiting (hq : q.row? = some r) (hw : ∃ e ∈ queue, (e.request.row? == some r) = true) :
    enqueue writing queue ⟨q, own⟩ =
      some (queue.map fun w => if w.request.row? == some r then ⟨q, w.own || own⟩ else w) := by
  have hany : queue.any (·.sameRow ⟨q, own⟩) = true := by
    simpa only [List.any_eq_true, StoreEntry.sameRow_of_row hq] using hw
  rw [enqueue, if_pos hany]
  simp only [StoreEntry.sameRow_of_row hq, StoreEntry.merge]

theorem enqueue_of_room (hq : q.row? = some r) (hw : ∀ e ∈ queue, (e.request.row? == some r) = false)
    (hroom : queue.length < 16 ∨ writing = some r) : enqueue writing queue ⟨q, own⟩ = some (queue ++ [⟨q, own⟩]) := by
  have hany : ¬queue.any (·.sameRow ⟨q, own⟩) = true := by
    simpa [StoreEntry.sameRow_of_row hq] using hw
  rw [enqueue, if_neg hany]
  refine if_pos ?_
  obtain h | h := hroom
  · simp [queueLimit, h]
  · simp [hq, h]

theorem enqueue_of_full (hq : q.row? = some r) (hw : ∀ e ∈ queue, (e.request.row? == some r) = false)
    (hfull : 16 ≤ queue.length) (hwriting : writing ≠ some r) : enqueue writing queue ⟨q, own⟩ = none := by
  have hany : ¬queue.any (·.sameRow ⟨q, own⟩) = true := by
    simpa [StoreEntry.sameRow_of_row hq] using hw
  rw [enqueue, if_neg hany]
  refine if_neg ?_
  simp [queueLimit, hq, hwriting.symm, Nat.not_lt.mpr hfull]

end

theorem MeterStore.writing_iff (m : MeterStore) (r : Row) :
    m.writing = some r ↔ ∃ op ∈ m.op, op.request.row? = some r := by
  simp [MeterStore.writing, Option.bind_eq_some_iff]

section
variable {s : State} {q : StoreRequest} {l : List StoreEntry}

theorem request_of_queued (h : enqueue s.ms.writing s.ms.queue ⟨q, false⟩ = some l) :
    request s q = (startIfReady { s with ms := { s.ms with queue := l } }, true) := by
  rw [request, h]

theorem request_of_refused (h : enqueue s.ms.writing s.ms.queue ⟨q, false⟩ = none) : request s q = (s, false) := by
  rw [request, h]

theorem requestOwn_of_queued (h : enqueue s.ms.writing s.ms.queue ⟨q, true⟩ = some l) :
    requestOwn s q = startIfReady { s with ms := { s.ms with queue := l } } := by
  rw [requestOwn, h]

theorem requestOwn_of_refused (h : enqueue s.ms.writing s.ms.queue ⟨q, true⟩ = none) :
    requestOwn s q = { s with ms := { s.ms with held := s.ms.held ++ [⟨q, true⟩] } } := by
  rw [requestOwn, h]

end

/-! ### Held requests -/

/-- A queue passes 16 only by an entry for the row being written. -/
abbrev PassesForWriting (writing : Option Row) (queue : List StoreEntry) : Prop :=
  queue.length ≤ 17 ∧ (queue.length = 17 → ∃ w ∈ queue, w.request.row? ≠ none ∧ w.request.row? = writing)

theorem PassesForWriting.enqueue {writing : Option Row} {queue l : List StoreEntry} {e : StoreEntry}
    (hq : PassesForWriting writing queue) (h : enqueue writing queue e = some l) : PassesForWriting writing l := by
  have hlen := (enqueue_holds ⟨hq.1, fun r hr h17 => ?_⟩ h).1
  · refine ⟨hlen, fun h17 => ?_⟩
    obtain ⟨-, he⟩ | ⟨-, hroom, he⟩ | ⟨-, -, -, he⟩ := enqueue_cases writing queue e
    · cases he.symm.trans h
      obtain ⟨w, hw, hrow⟩ := hq.2 (by simpa using h17)
      refine ⟨_, List.mem_map_of_mem hw, ?_⟩
      split
      next hs => rw [StoreEntry.row_merge hs]; exact hrow
      next => exact hrow
    · cases he.symm.trans h
      obtain hlt | hrow := hroom
      · simp at h17; omega
      · exact ⟨e, by simp, hrow⟩
    · rw [he] at h; cases h
  · obtain ⟨w, hw, -, hrow⟩ := hq.2 h17
    exact ⟨w, hw, hrow.trans hr⟩

theorem admitHeld_cons_of_queued {writing : Option Row} {queue q : List StoreEntry} {e : StoreEntry}
    (rest : List StoreEntry) (h : enqueue writing queue e = some q) :
    admitHeld writing queue (e :: rest) = admitHeld writing q rest := by
  rw [admitHeld, h]

theorem admitHeld_cons_of_refused {writing : Option Row} {queue : List StoreEntry} {e : StoreEntry}
    (rest : List StoreEntry) (h : enqueue writing queue e = none) :
    admitHeld writing queue (e :: rest) = (queue, e :: rest) := by
  rw [admitHeld, h]

theorem admitHeld_passes {writing : Option Row} (held : List StoreEntry) {queue : List StoreEntry}
    (hq : PassesForWriting writing queue) : PassesForWriting writing (admitHeld writing queue held).1 := by
  induction held generalizing queue with
  | nil => exact hq
  | cons e rest ih =>
    cases h : enqueue writing queue e with
    | some l => rw [admitHeld_cons_of_queued rest h]; exact ih (hq.enqueue h)
    | none => rw [admitHeld_cons_of_refused rest h]; exact hq

theorem admitHeld_taken (writing : Option Row) (held queue : List StoreEntry) :
    ∃ taken, held = taken ++ (admitHeld writing queue held).2 := by
  induction held generalizing queue with
  | nil => exact ⟨[], rfl⟩
  | cons e rest ih =>
    cases h : enqueue writing queue e with
    | some l =>
      obtain ⟨taken, ht⟩ := ih l
      exact ⟨e :: taken, by rw [admitHeld_cons_of_queued rest h, List.cons_append, ← ht]⟩
    | none => exact ⟨[], by rw [admitHeld_cons_of_refused rest h]; rfl⟩

/-- What stays held starts with a request that the queue refuses. -/
theorem enqueue_of_admitHeld {writing : Option Row} {held queue rest : List StoreEntry} {e : StoreEntry}
    (h : (admitHeld writing queue held).2 = e :: rest) : enqueue writing (admitHeld writing queue held).1 e = none := by
  induction held generalizing queue with
  | nil => cases h
  | cons d held ih =>
    cases hd : enqueue writing queue d with
    | some l => rw [admitHeld_cons_of_queued held hd] at h ⊢; exact ih h
    | none =>
      rw [admitHeld_cons_of_refused held hd] at h ⊢
      cases h
      exact hd

/-- Settles O23: the three ways a row request meets the queue, then the held requests by induction. -/
theorem requestsMeetTheQueue : Obligations.RequestsMeetTheQueue := by
  constructor
  · intro s q r hq same withQueue
    refine ⟨fun hw => ⟨?_, ?_⟩, ?_⟩
    · rw [request_of_queued (enqueue_of_waiting false hq hw)]
      simp only [Bool.or_false, withQueue, same]
    · rw [requestOwn_of_queued (enqueue_of_waiting true hq hw)]
      simp only [Bool.or_true, withQueue, same]
    · intro writing
      have hwr : s.ms.writing = some r ↔ writing := MeterStore.writing_iff s.ms r
      refine ⟨fun hnew hroom => ?_, fun hnew hfull hnot => ?_⟩
      · rw [← hwr] at hroom
        exact ⟨request_of_queued (enqueue_of_room false hq hnew hroom), requestOwn_of_queued (enqueue_of_room true hq hnew hroom)⟩
      · rw [← hwr] at hnot
        exact ⟨request_of_refused (enqueue_of_full false hq hnew hfull hnot),
          requestOwn_of_refused (enqueue_of_full true hq hnew hfull hnot)⟩
  · intro writing queue held hlen r
    refine ⟨?_, ?_, ?_, ?_, ?_, ?_, ?_⟩
    · exact (admitHeld_passes held ⟨by omega, fun h => by omega⟩).1
    · exact (admitHeld_passes held ⟨by omega, fun h => by omega⟩).2
    · exact admitHeld_taken writing held queue
    · intro e rest he
      obtain ⟨-, h⟩ | ⟨-, -, h⟩ | ⟨hnew, hfull, hrow, -⟩ := enqueue_cases writing r.1 e
      · rw [enqueue_of_admitHeld he] at h; cases h
      · rw [enqueue_of_admitHeld he] at h; cases h
      · refine ⟨hfull, fun row hr => ⟨fun hwr => ?_, fun w hw hwrow => ?_⟩⟩
        · rw [hr, hwr] at hrow
          simp at hrow
        · have := List.any_eq_false.mp hnew w hw
          simp [StoreEntry.sameRow, hwrow, hr] at this
    · rintro rfl; rfl
    · rintro e rest rfl h
      exact admitHeld_cons_of_refused rest h
    · rintro e rest l rfl h
      exact admitHeld_cons_of_queued rest h

end Sys2Proof.Machine

/-! PROOFS. The start of a store operation (O24) and the rows of key slots (O22). -/

namespace Sys2Proof.Machine

/-! ### The owner of a row -/

@[simp] theorem rowOwner_accountRow (i : Fin 256) : rowOwner (accountRow i) = .account i := by
  simp [rowOwner, accountRow, show ¬24 + i.val < 2 by omega, show ¬24 + i.val < 8 by omega, show 24 + i.val < 280 by omega]

@[simp] theorem rowOwner_keyRow (k : Fin 64) : rowOwner (keyRow k) = .key k := by
  simp [rowOwner, keyRow, show ¬280 + k.val < 2 by omega, show ¬280 + k.val < 8 by omega, show ¬280 + k.val < 24 by omega,
    show 280 + k.val < 344 by omega]

@[simp] theorem rowOwner_historyRow (p : Fin 16) : rowOwner (historyRow p) = .history p := by
  simp [rowOwner, historyRow, show ¬344 + p.val < 2 by omega, show ¬344 + p.val < 8 by omega,
    show ¬344 + p.val < 24 by omega, show ¬344 + p.val < 280 by omega]

@[simp] theorem rowOwner_settingsRow (k : Fin 6) : rowOwner (settingsRow k) = .settings k := by
  simp [rowOwner, settingsRow, show ¬2 + k.val < 2 by omega, show 2 + k.val < 8 by omega]

@[simp] theorem rowOwner_egressRow (k : Fin 16) : rowOwner (egressRow k) = .egress k := by
  simp [rowOwner, egressRow, show ¬8 + k.val < 2 by omega, show 8 + k.val < 24 by omega]

/-! ### Snapshots -/

section
variable (s : State) (g : Half)

theorem snapshot_accountRow (i : Fin 256) : snapshot s (accountRow i) g =
    (some (encodeAccount (s.account i)), s.setAccount i { s.account i with dirty := false }) := by
  rw [snapshot, rowOwner_accountRow]
  rfl

theorem snapshot_historyRow (p : Fin 16) : snapshot s (historyRow p) g =
    (some (encodeHistory s.tu.ring[p]), { s with tu := { s.tu with ringDirty := s.tu.ringDirty.set p false } }) := by
  rw [snapshot, rowOwner_historyRow]

theorem snapshot_settingsRow (k : Fin 6) : snapshot s (settingsRow k) g =
    (some (encodeSettings k s), if k = 0 then { s with ms := { s.ms with lockUnsaved := false } } else s) := by
  have hk : k = 0 ↔ k.val = 0 := Fin.ext_iff
  rw [snapshot, rowOwner_settingsRow]
  simp only [hk]

theorem snapshot_egressRow (k : Fin 16) : snapshot s (egressRow k) g = (some (encodeEgress k s), s) := by
  rw [snapshot, rowOwner_egressRow]

theorem snapshot_keyRow (k : Fin 64) : snapshot s (keyRow k) g =
    if (s.key k).state = .retained ∧ (s.key k).generation = g then (some (encodeKeySlot (s.key k)), s) else (none, s) := by
  rw [snapshot, rowOwner_keyRow]

end

/-! ### The start of an operation -/

theorem startIfReady_of_idle {s : State} (h : s.ms.op ≠ none ∨ s.ms.queue = [] ∨ s.ms.warning = true) :
    startIfReady s = s := by
  refine if_neg fun hc => ?_
  simp only [Bool.and_eq_true, Option.isNone_iff_eq_none, Bool.not_eq_true', List.isEmpty_eq_false_iff] at hc
  obtain ⟨⟨hop, hq⟩, hw⟩ := hc
  obtain h | h | h := h
  · exact h hop
  · exact hq h
  · rw [h] at hw; cases hw

/-- The state once the head entry flies: the latches filled and the queue refilled from the held requests (R154). -/
def State.flying (t : State) (q : StoreRequest) (own : Bool) (row : Row) (image : List Byte)
    (refill : List StoreEntry × List StoreEntry) : State :=
  { t with ms := { t.ms with op := some ⟨q, own, row, 1, 0⟩, latches := image, queue := refill.1, held := refill.2 } }

section
variable {s t : State} {e : StoreEntry} {rest : List StoreEntry} (hq : s.ms.queue = e :: rest) (hop : s.ms.op = none)
  (hw : s.ms.warning = false)
include hq hop hw

/-- What the start comes to, given the operation the head entry becomes. -/
theorem startIfReady_of_head {q : StoreRequest} {row : Row} {image : List Byte}
    (hstart : startEntry { s with ms := { s.ms with queue := rest } } e =
      { t with ms := { t.ms with queue := rest, held := s.ms.held, op := some ⟨q, e.own, row, 1, 0⟩, latches := image } })
    (hrow : q.row? = e.request.row?) :
    startIfReady s = t.flying q e.own row image (admitHeld e.request.row? rest s.ms.held) := by
  have hgo : (s.ms.op.isNone && !s.ms.queue.isEmpty && !s.ms.warning) = true := by rw [hq, hop, hw]; rfl
  rw [startIfReady, if_pos hgo, startHead, hq]
  dsimp only
  rw [hstart, ← hrow]
  rfl

/-- A commit starts with the image of its owner's snapshot. -/
theorem startIfReady_of_commit {r : Row} {g : Half} {image : List Byte} (he : e.request = .commit r g)
    (hsnap : snapshot { s with ms := { s.ms with queue := rest } } r g =
      (some image, { t with ms := { t.ms with queue := rest, held := s.ms.held } })) :
    startIfReady s = t.flying e.request e.own r image (admitHeld e.request.row? rest s.ms.held) := by
  refine startIfReady_of_head hq hop hw ?_ rfl
  rw [startEntry, he]
  dsimp only
  rw [hsnap]

/-- A commit whose owner gives no image starts as an erase. -/
theorem startIfReady_of_commit_as_erase {r : Row} {g : Half} (he : e.request = .commit r g)
    (hsnap : snapshot { s with ms := { s.ms with queue := rest } } r g =
      (none, { t with ms := { t.ms with queue := rest, held := s.ms.held } })) :
    startIfReady s = t.flying (.erase r g) e.own r (List.replicate 64 0xFF) (admitHeld e.request.row? rest s.ms.held) := by
  refine startIfReady_of_head hq hop hw ?_ (congrArg StoreRequest.row? he).symm
  rw [startEntry, he]
  dsimp only
  rw [hsnap]
  rfl

theorem startIfReady_of_erase {r : Row} {g : Half} (he : e.request = .erase r g) :
    startIfReady s = s.flying e.request e.own r (List.replicate 64 0xFF) (admitHeld e.request.row? rest s.ms.held) := by
  refine startIfReady_of_head hq hop hw ?_ rfl
  rw [startEntry, he]
  rfl

theorem startIfReady_of_region {g : Region} (he : e.request = .region g) :
    startIfReady s = s.flying e.request e.own g.first (List.replicate 64 0xFF) (admitHeld e.request.row? rest s.ms.held) := by
  refine startIfReady_of_head hq hop hw ?_ rfl
  rw [startEntry, he]
  rfl

end

/-- Settles O24: by the request of the head entry. -/
theorem storeOperationStarts : Obligations.StoreOperationStarts := by
  intro s
  refine ⟨fun h => congrArg Host.Outcome.next (startIfReady_of_idle h), rfl, rfl, fun e rest hq hop hw => ?_⟩
  intro refill flying
  refine ⟨fun i g he => ?_, fun p g he => ?_, fun k g he => ?_, fun k g he => ?_, fun k g he => ?_,
    fun r g he => congrArg Host.Outcome.next (startIfReady_of_erase hq hop hw he),
    fun g he => congrArg Host.Outcome.next (startIfReady_of_region hq hop hw he)⟩
  · exact congrArg Host.Outcome.next (startIfReady_of_commit hq hop hw he (snapshot_accountRow _ g i))
  · exact congrArg Host.Outcome.next (startIfReady_of_commit hq hop hw he (snapshot_historyRow _ g p))
  · refine congrArg Host.Outcome.next (startIfReady_of_commit hq hop hw he ((snapshot_settingsRow _ g k).trans ?_))
    by_cases hk : k = 0
    · rw [if_pos hk, if_pos hk]; rfl
    · rw [if_neg hk, if_neg hk]; rfl
  · exact congrArg Host.Outcome.next (startIfReady_of_commit hq hop hw he (snapshot_egressRow _ g k))
  · by_cases hk : (s.key k).state = .retained ∧ (s.key k).generation = g
    · rw [if_pos hk]
      exact congrArg Host.Outcome.next
        (startIfReady_of_commit hq hop hw he ((snapshot_keyRow _ g k).trans (if_pos hk)))
    · rw [if_neg hk]
      exact congrArg Host.Outcome.next
        (startIfReady_of_commit_as_erase hq hop hw he ((snapshot_keyRow _ g k).trans (if_neg hk)))

/-! ### The row of a key slot -/

theorem State.setKey_setKey (s : State) (k : Fin 64) (x y : KeySlot) : (s.setKey k x).setKey k y = s.setKey k y := by
  simp [State.setKey]

theorem KeySlot.freed_eq (g : Half) : KeySlot.freed g =
    { state := .free, generation := g, owner := 0, cipherKey := 0, checkKey := 0, created := 0, expiry := none,
      releases := 0, persisted := false, naming := none, cause := none, rowRequest := .none } := rfl

/-- The request the Key Table makes for a slot's row (R146). -/
def keyRequest (s : State) (k : Fin 64) (erase : Prop) [Decidable erase] : StoreRequest :=
  if erase then .erase (keyRow k) (s.key k).generation else .commit (keyRow k) (s.key k).generation

@[simp] theorem row?_keyRequest (s : State) (k : Fin 64) (erase : Prop) [Decidable erase] :
    (keyRequest s k erase).row? = some (keyRow k) := by
  rw [keyRequest]
  split <;> rfl

theorem startIfReady_key (s : State) (k : Fin 64) : (startIfReady s).key k = s.key k := by
  rw [State.key, (startIfReady_step s).frame]
  rfl

section
variable {s : State} {k : Fin 64} {kind : RowRequest}

theorem requestKeyRow_of_queued {l : List StoreEntry}
    (h : enqueue s.ms.writing s.ms.queue ⟨keyRequest s k (kind = .erase ∨ (s.key k).state = .free), false⟩ = some l) :
    requestKeyRow s k kind =
      (startIfReady { s with ms := { s.ms with queue := l } }).setKey k { s.key k with rowRequest := .none } := by
  have hq : (if (kind == .erase || (s.key k).state == .free) = true then StoreRequest.erase (keyRow k) (s.key k).generation
      else .commit (keyRow k) (s.key k).generation) = keyRequest s k (kind = .erase ∨ (s.key k).state = .free) := by
    simp [keyRequest]
  have hk := startIfReady_key { s with ms := { s.ms with queue := l } } k
  rw [requestKeyRow]
  dsimp only
  rw [hq, request_of_queued h]
  simp only [State.modKey, hk]
  rfl

theorem requestKeyRow_of_refused
    (h : enqueue s.ms.writing s.ms.queue ⟨keyRequest s k (kind = .erase ∨ (s.key k).state = .free), false⟩ = none) :
    requestKeyRow s k kind = s.setKey k { s.key k with
      rowRequest := if kind = .erase ∨ (s.key k).state = .free then .erase else .commit } := by
  have hq : (if (kind == .erase || (s.key k).state == .free) = true then StoreRequest.erase (keyRow k) (s.key k).generation
      else .commit (keyRow k) (s.key k).generation) = keyRequest s k (kind = .erase ∨ (s.key k).state = .free) := by
    simp [keyRequest]
  rw [requestKeyRow]
  dsimp only
  rw [hq, request_of_refused h]
  simp [State.modKey]

/-- A row request changes the slot in its row request alone. -/
theorem key_requestKeyRow (s : State) (k : Fin 64) (kind : RowRequest) :
    ∃ r, (requestKeyRow s k kind).key k = { s.key k with rowRequest := r } := by
  cases h : enqueue s.ms.writing s.ms.queue ⟨keyRequest s k (kind = .erase ∨ (s.key k).state = .free), false⟩ with
  | some l => exact ⟨.none, by rw [requestKeyRow_of_queued h, State.key_setKey_self]⟩
  | none => exact ⟨_, by rw [requestKeyRow_of_refused h, State.key_setKey_self]⟩

end

/-- The queue refuses a row request only where 16 wait, none for the row, and the row is not being written. -/
theorem enqueue_eq_none_iff {m : MeterStore} {q : StoreRequest} {r : Row} (hq : q.row? = some r) (own : Bool) :
    enqueue m.writing m.queue ⟨q, own⟩ = none ↔
      16 ≤ m.queue.length ∧ (∀ e ∈ m.queue, e.request.row? ≠ some r) ∧ ∀ op ∈ m.op, op.request.row? ≠ some r := by
  have hwr : (∀ op ∈ m.op, op.request.row? ≠ some r) ↔ m.writing ≠ some r := by
    rw [Ne, m.writing_iff]
    simp
  rw [hwr]
  constructor
  · intro h
    by_cases hwait : ∃ e ∈ m.queue, (e.request.row? == some r) = true
    · rw [enqueue_of_waiting own hq hwait] at h; cases h
    · have hnew : ∀ e ∈ m.queue, (e.request.row? == some r) = false := fun e he =>
        Bool.eq_false_iff.mpr fun hs => hwait ⟨e, he, hs⟩
      by_cases hroom : m.queue.length < 16 ∨ m.writing = some r
      · rw [enqueue_of_room own hq hnew hroom] at h; cases h
      · obtain ⟨hfull, hnot⟩ := not_or.mp hroom
        exact ⟨Nat.not_lt.mp hfull, fun e he => beq_eq_false_iff_ne.mp (hnew e he), hnot⟩
  · rintro ⟨hfull, hnew, hnot⟩
    exact enqueue_of_full own hq (fun e he => beq_eq_false_iff_ne.mpr (hnew e he)) hfull hnot

/-- A slot that enters ERASING: FREE at once where it is not persisted (R145). -/
theorem enterErasing_eq (s : State) (k : Fin 64) (cause : EraseCause) :
    let x := s.key k
    let t := requestKeyRow
      (s.setKey k { x with state := .erasing, cipherKey := 0, checkKey := 0, releases := 0, cause := some cause }) k .erase
    enterErasing s k cause =
      if x.persisted then t
      else (t.setKey k (KeySlot.freed x.generation)).raise .keyErased
        [.u8 k.val, .u16 x.generation.toNat, .u32 x.owner, .u8 cause.code] := by
  intro x t
  obtain ⟨r, hr⟩ := key_requestKeyRow
    (s.setKey k { x with state := .erasing, cipherKey := 0, checkKey := 0, releases := 0, cause := some cause }) k .erase
  have ht : t.key k = { x with
      state := .erasing, cipherKey := 0, checkKey := 0, releases := 0, cause := some cause, rowRequest := r } := by
    rw [hr, State.key_setKey_self]
  change (if (t.key k).persisted = true then t else freeErased t k) = _
  rw [freeErased, ht]
  rfl

theorem cmdDiscardKey_of_index {s : State} {slot : Byte} {generation : Half} {k : Fin 64} (hi : indexOf 64 slot = some k) :
    cmdDiscardKey slot generation s =
      if (s.key k).generation ≠ generation then s.refuse .noEntry
      else if (s.key k).state = .free then s.refuse .noEntry
      else if (s.key k).state = .erasing then s.ok []
      else if (s.key k).state = .active ∨ (s.key k).naming ≠ none then s.refuse .busy
      else (enterErasing s k .discarded).ok [] := by
  rw [cmdDiscardKey, hi]
  dsimp only
  cases hs : (s.key k).state with
  | free => rfl
  | erasing => rfl
  | active => rfl
  | retained =>
    cases hn : (s.key k).naming with
    | none => rfl
    | some h => rfl

/-- Settles O22: the queue's three ways, the entry to ERASING, then DISCARD KEY by the slot. -/
theorem keySlotsErased : Obligations.KeySlotsErased := by
  refine ⟨?_, fun s k cause => enterErasing_eq s k cause, ?_⟩
  · intro s k kind hkind x erase q
    exact ⟨fun l h => requestKeyRow_of_queued h, fun h => requestKeyRow_of_refused h,
      enqueue_eq_none_iff (row?_keyRequest s k erase) false⟩
  · intro s tag slot generation hr
    refine ⟨fun h => next_of_reply hr (.discardKey slot generation) ?_ rfl, fun k hk => ?_⟩
    · change cmdDiscardKey slot generation s = _
      rw [cmdDiscardKey, indexOf_eq_none h]
      rfl
    · intro x
      have hi : indexOf 64 slot = some k := indexOf_eq_some hk
      have hcmd := cmdDiscardKey_of_index (s := s) (generation := generation) hi
      by_cases hgen : x.generation ≠ generation
      · rw [if_pos hgen] at hcmd ⊢
        exact next_of_reply hr (.discardKey slot generation) hcmd rfl
      rw [if_neg hgen] at hcmd ⊢
      by_cases hfree : x.state = .free
      · rw [if_pos hfree] at hcmd ⊢
        exact next_of_reply hr (.discardKey slot generation) hcmd rfl
      rw [if_neg hfree] at hcmd ⊢
      by_cases herasing : x.state = .erasing
      · rw [if_pos herasing] at hcmd ⊢
        exact next_of_reply hr (.discardKey slot generation) hcmd rfl
      rw [if_neg herasing] at hcmd ⊢
      by_cases hbusy : x.state = .active ∨ x.naming ≠ none
      · rw [if_pos hbusy] at hcmd ⊢
        exact next_of_reply hr (.discardKey slot generation) hcmd rfl
      · rw [if_neg hbusy] at hcmd ⊢
        exact next_of_reply hr (.discardKey slot generation) hcmd (by rw [(enterErasing_quiet s k .discarded).frame])

end Sys2Proof.Machine

/-! PROOFS. The end of a store operation: owners told (O26), row writes (O25), region erases (O27). -/

namespace Sys2Proof.Machine

/-! ### Owners are told -/

theorem freeErased_eq (s : State) (k : Fin 64) : freeErased s k =
    (s.setKey k (KeySlot.freed (s.key k).generation)).raise .keyErased
      [.u8 k.val, .u16 (s.key k).generation.toNat, .u32 (s.key k).owner,
       .u8 (match (s.key k).cause with | some c => c.code | none => 0)] := by
  rw [freeErased]
  cases (s.key k).cause <;> rfl

theorem reportRow_commit_keyRow (s : State) (k : Fin 64) (g : Half) (completed : Bool) :
    reportRow s (.commit (keyRow k) g) completed = keyReport s k g false completed := by
  rw [reportRow]
  simp only [rowOwner_keyRow]

theorem reportRow_erase_keyRow (s : State) (k : Fin 64) (g : Half) (completed : Bool) :
    reportRow s (.erase (keyRow k) g) completed = keyReport s k g true completed := by
  rw [reportRow]
  simp only [rowOwner_keyRow]

theorem keyReport_of_other {s : State} {k : Fin 64} {g : Half}
    (h : ¬(((s.key k).state = .retained ∨ (s.key k).state = .erasing) ∧ (s.key k).generation = g)) (erase completed : Bool) :
    keyReport s k g erase completed = s := if_neg h

section
variable {s : State} {k : Fin 64} {g : Half}
  (h : ((s.key k).state = .retained ∨ (s.key k).state = .erasing) ∧ (s.key k).generation = g)
include h

theorem keyReport_of_commit (completed : Bool) :
    keyReport s k g false completed = s.setKey k { s.key k with persisted := completed } := by
  cases completed <;> exact if_pos h

theorem keyReport_of_dropped_erase :
    keyReport s k g true false = if (s.key k).state = .erasing then s.setKey k { s.key k with rowRequest := .erase } else s :=
  if_pos h

theorem keyReport_of_erase : keyReport s k g true true =
    if (s.key k).state = .erasing then freeErased (s.setKey k { s.key k with persisted := false }) k
    else s.setKey k { s.key k with persisted := false } := if_pos h

end

/-- Settles O26: by the owner of the row. -/
theorem ownersAreTold : Obligations.OwnersAreTold := by
  intro s
  refine ⟨fun i g => ?_, fun p g => ?_, fun k g => ?_, fun k g completed => ?_, fun k g => ?_⟩
  · simp only [reportRow, rowOwner_accountRow]
    exact ⟨rfl, rfl⟩
  · simp only [reportRow, rowOwner_historyRow]
    exact ⟨rfl, rfl⟩
  · simp only [reportRow, rowOwner_settingsRow]
    by_cases hk : k = 0
    · rw [hk]; exact ⟨rfl, rfl⟩
    · simp [hk]
  · simp only [reportRow, rowOwner_egressRow]
  · intro x current
    refine ⟨fun hn completed => ⟨?_, ?_⟩, fun hc => ⟨fun completed => ?_, fun hret => ⟨?_, ?_⟩, fun her => ⟨?_, ?_⟩⟩⟩
    · rw [reportRow_commit_keyRow, keyReport_of_other hn]
    · rw [reportRow_erase_keyRow, keyReport_of_other hn]
    · rw [reportRow_commit_keyRow, keyReport_of_commit hc]
    · rw [reportRow_erase_keyRow, keyReport_of_erase hc, if_neg (by rw [hret]; decide)]
    · rw [reportRow_erase_keyRow, keyReport_of_dropped_erase hc, if_neg (by rw [hret]; decide)]
    · rw [reportRow_erase_keyRow, keyReport_of_dropped_erase hc, if_pos her]
    · rw [reportRow_erase_keyRow, keyReport_of_erase hc, if_pos her, freeErased_eq, State.key_setKey_self, State.setKey_setKey]
      dsimp only
      rw [hc.2]
      rfl

/-! ### A write completes -/

/-- The state with the contents of the array replaced. -/
def State.withMemory (s : State) (m : Memory) : State := { s with ms := { s.ms with memory := m } }

/-- The array once the write of the latches has completed with what it retained (R155, R156). -/
def writtenMemory (s : State) (op : StoreOp) (retained : Option (List Byte)) : Memory :=
  s.ms.memory.writeRow op.row (retained.getD s.ms.latches)

theorem writeComplete_of_idle {s : State} (h : s.ms.op = none) (retained : Option (List Byte)) :
    writeComplete s retained = s := by
  rw [writeComplete, h]

/-- The completion of a write, by the image and the attempt. -/
theorem writeComplete_of_op {s : State} {op : StoreOp} (hop : s.ms.op = some op) (retained : Option (List Byte)) :
    writeComplete s retained =
      if retained.getD s.ms.latches = s.ms.latches then
        match op.request with
        | .region g => nextRegionRow (s.withMemory (writtenMemory s op retained)) op g op.failed
        | _ => endRowOp (s.withMemory (writtenMemory s op retained)) op true
      else if op.attempt = 1 then
        { s with ms := { s.ms with memory := writtenMemory s op retained, op := some { op with attempt := 2 } } }
      else
        match op.request with
        | .region g => nextRegionRow (storeFault (s.withMemory (writtenMemory s op retained)) op) op g (op.failed + 1)
        | _ => endRowOp (storeFault (s.withMemory (writtenMemory s op retained)) op) op false := by
  rw [writeComplete, hop, writtenMemory]
  dsimp only
  generalize s.ms.memory.writeRow op.row (retained.getD s.ms.latches) = m
  cases op.request <;> rfl

section
variable {s : State} {retained : Option (List Byte)} {op : StoreOp} (hop : s.ms.op = some op)
include hop

theorem writeComplete_of_first_mismatch (hi : retained.getD s.ms.latches ≠ s.ms.latches) (ha : op.attempt = 1) :
    writeComplete s retained =
      { s with ms := { s.ms with memory := writtenMemory s op retained, op := some { op with attempt := 2 } } } := by
  rw [writeComplete_of_op hop, if_neg hi, if_pos ha]

section
variable (hr : ∀ g, op.request ≠ .region g)
include hr

theorem writeComplete_of_match (hi : retained.getD s.ms.latches = s.ms.latches) :
    writeComplete s retained = endRowOp (s.withMemory (writtenMemory s op retained)) op true := by
  rw [writeComplete_of_op hop, if_pos hi]
  cases hq : op.request with
  | region g => exact absurd hq (hr g)
  | commit r g => rfl
  | erase r g => rfl

theorem writeComplete_of_second_mismatch (hi : retained.getD s.ms.latches ≠ s.ms.latches) (ha : op.attempt ≠ 1) :
    writeComplete s retained = endRowOp (storeFault (s.withMemory (writtenMemory s op retained)) op) op false := by
  rw [writeComplete_of_op hop, if_neg hi, if_neg ha]
  cases hq : op.request with
  | region g => exact absurd hq (hr g)
  | commit r g => rfl
  | erase r g => rfl

end

section
variable {g : Region} (hr : op.request = .region g)
include hr

theorem writeComplete_of_region_match (hi : retained.getD s.ms.latches = s.ms.latches) :
    writeComplete s retained = nextRegionRow (s.withMemory (writtenMemory s op retained)) op g op.failed := by
  rw [writeComplete_of_op hop, if_pos hi, hr]

theorem writeComplete_of_region_failure (hi : retained.getD s.ms.latches ≠ s.ms.latches) (ha : op.attempt ≠ 1) :
    writeComplete s retained =
      nextRegionRow (storeFault (s.withMemory (writtenMemory s op retained)) op) op g (op.failed + 1) := by
  rw [writeComplete_of_op hop, if_neg hi, if_neg ha, hr]

end

end

/-- Settles O25: by whether the array retained the image, and the attempt. -/
theorem rowWriteCompletes : Obligations.RowWriteCompletes := by
  intro s retained
  refine ⟨fun h => congrArg Host.Outcome.next (writeComplete_of_idle h retained), fun op hop hr => ?_⟩
  intro image written ended
  obtain ⟨m, hm⟩ : ∃ m, writtenMemory s op retained = m := ⟨_, rfl⟩
  have hm' : s.ms.memory.writeRow op.row image = m := hm
  simp only [written, hm']
  refine ⟨fun hi => ?_, fun hi ha => ?_, fun hi ha => ?_⟩
  · have h := writeComplete_of_match hop hr hi
    rw [hm] at h
    exact congrArg Host.Outcome.next h
  · have h := writeComplete_of_first_mismatch hop hi ha
    rw [hm] at h
    exact congrArg Host.Outcome.next h
  · have h := writeComplete_of_second_mismatch hop hr hi (by rw [ha]; decide)
    rw [hm] at h
    exact congrArg Host.Outcome.next h

/-! ### Region erases -/

theorem regionErasedSlot_eq (s : State) (k : Fin 64) : regionErasedSlot s k =
    if (s.key k).state = .erasing then
      (s.setKey k (KeySlot.freed (s.key k).generation)).raise .keyErased
        [.u8 k.val, .u16 (s.key k).generation.toNat, .u32 (s.key k).owner,
         .u8 (match (s.key k).cause with | some c => c.code | none => 0)]
    else s.setKey k { s.key k with persisted := false } := by
  have hkey : (s.modKey k fun x => { x with persisted := false }).key k = { s.key k with persisted := false } :=
    State.key_setKey_self ..
  rw [regionErasedSlot]
  dsimp only
  rw [hkey]
  by_cases he : (s.key k).state = .erasing
  · rw [if_pos he, if_pos he, freeErased_eq, hkey, State.modKey, State.setKey_setKey]
  · rw [if_neg he, if_neg he]
    rfl

/-- The report of an erased key region, slot by slot. -/
theorem keyRegionErased_eq (s : State) : keyRegionErased s =
    (List.finRange 64).foldl (fun t k =>
      if (t.key k).state = .erasing then
        (t.setKey k (KeySlot.freed (t.key k).generation)).raise .keyErased
          [.u8 k.val, .u16 (t.key k).generation.toNat, .u32 (t.key k).owner,
           .u8 (match (t.key k).cause with | some c => c.code | none => 0)]
      else t.setKey k { t.key k with persisted := false }) s := by
  rw [keyRegionErased, keySlots]
  generalize List.finRange 64 = l
  induction l generalizing s with
  | nil => rfl
  | cons k l ih => rw [List.foldl_cons, List.foldl_cons, regionErasedSlot_eq, ih]

theorem keyRegionErased_cu (s : State) : (keyRegionErased s).cu = s.cu := by
  rw [(keyRegionErased_quiet s).frame]

/-- The key slots at the end of a region erase: those of its range are told (R147, R156). -/
def regionTold (s : State) (g : Region) : State := if g = .accounts then s else keyRegionErased s

theorem regionTold_cu (s : State) (g : Region) : (regionTold s g).cu = s.cu := by
  rw [regionTold]
  split
  · rfl
  · exact keyRegionErased_cu s

theorem endRegion_eq (s : State) (g : Region) (failed : Nat) : endRegion s g failed =
    startIfReady (replyLong (regionTold { s with ms := { s.ms with op := none } } g) [.u16 failed]) := by
  obtain ⟨u, hu⟩ : ∃ u : State, u = { s with ms := { s.ms with op := none } } := ⟨_, rfl⟩
  unfold endRegion regionTold
  simp only [← hu]
  generalize keyRegionErased u = v
  cases g with
  | accounts => rw [if_pos rfl]
  | keys => rw [if_neg (by decide)]
  | all => rw [if_neg (by decide)]

theorem nextRegionRow_of_lt {s : State} {op : StoreOp} {g : Region} {failed : Nat} {next : Row} (h : op.row.val < g.last.val)
    (hn : next.val = op.row.val + 1) :
    nextRegionRow s op g failed = { s with ms := { s.ms with
      op := some { op with row := next, attempt := 1, failed := failed }, latches := List.replicate 64 0xFF } } := by
  have hnext : (⟨op.row.val + 1, by omega⟩ : Row) = next := Fin.ext hn.symm
  rw [← hnext]
  exact dif_pos h

theorem nextRegionRow_of_last {s : State} {op : StoreOp} {g : Region} {failed : Nat} (h : g.last.val ≤ op.row.val) :
    nextRegionRow s op g failed = endRegion s g failed := dif_neg (Nat.not_lt.mpr h)

/-- Settles O27: by whether a row of the range is left. -/
theorem regionErases : Obligations.RegionErases := by
  intro s retained op g hop hr image written failed report
  obtain ⟨m, hm⟩ : ∃ m, writtenMemory s op retained = m := ⟨_, rfl⟩
  have hm' : s.ms.memory.writeRow op.row image = m := hm
  have hwritten (o : Option StoreOp) (l : List Byte) :
      written o l = { s with ms := { s.ms with memory := m, op := o, latches := l } } := by simp only [written, hm']
  refine ⟨fun hi ha => ?_, fun hd => ?_⟩
  · have h := writeComplete_of_first_mismatch hop hi ha
    rw [hm] at h
    rw [hwritten]
    exact congrArg Host.Outcome.next h
  have hdone : writeComplete s retained = nextRegionRow (report (s.withMemory m)) op g failed := by
    simp only [report, failed]
    by_cases hi : image = s.ms.latches
    · rw [if_pos hi, if_pos hi, writeComplete_of_region_match hop hr hi, hm]
    · rw [if_neg hi, if_neg hi, writeComplete_of_region_failure hop hr hi (by rw [hd.resolve_left hi]; decide), hm,
        storeFault, hr]
      rfl
  have hreport (o : Option StoreOp) (l : List Byte) :
      ({ report (s.withMemory m) with ms := { (report (s.withMemory m)).ms with op := o, latches := l } } : State) =
        report (written o l) := by
    rw [hwritten]
    simp only [report]
    split <;> rfl
  have hlatches : (report (s.withMemory m)).ms.latches = s.ms.latches := by
    simp only [report]
    split <;> rfl
  constructor
  · intro next hlt hn
    refine congrArg Host.Outcome.next (hdone.trans ?_)
    rw [nextRegionRow_of_lt hlt hn, hreport]
  · intro hlast freed t
    have hfreed (u : State) : freed u = regionTold u g := by
      simp only [freed, regionTold, keyRegionErased_eq, KeySlot.freed_eq] <;> rfl
    have ht : t = regionTold (report (written none s.ms.latches)) g := hfreed _
    have hcu : s.cu.state = t.cu.state := by
      rw [ht, regionTold_cu, hwritten]
      simp only [report]
      split <;> rfl
    refine congrArg Host.Outcome.next (hdone.trans ?_)
    rw [nextRegionRow_of_last hlast, endRegion_eq, hcu]
    refine congrArg startIfReady ?_
    have hsame : ({ report (s.withMemory m) with ms := { (report (s.withMemory m)).ms with op := none } } : State) =
        report (written none s.ms.latches) := by
      rw [← hreport, ← hlatches]
    rw [hsame, ← ht]
    clear_value t
    rw [replyLong]
    cases t.cu.state <;> rfl

end Sys2Proof.Machine

/-! PROOFS. The commands of the store (O28) and the rows of the array (O30). -/

namespace Sys2Proof.Machine

/-! ### Long commands -/

/-- A command that waits for the store is the row's whole effect where its owner leaves the Link Interface alone. -/
theorem next_of_long {s t : State} {tag : Byte} {p : Progress} (h : Ready s) (c : Command)
    (hrun : runCommand c s = (t, .long p)) (hli : t.li = s.li) :
    (Host.Outcome.next (deliverCommand tag c s) : Host.Outcome State Fault Refusal) =
      .next (t.setUnit (.working c.kind tag p)) := by
  obtain ⟨-, -, hband, -⟩ := id h
  rw [deliverCommand_answered h tag c (by rw [hrun, hli]; exact hband), hrun]
  rfl

theorem Quiet.li {s t : State} (h : Quiet s t) : t.li = s.li := by rw [h.frame]

theorem requestOwn_quiet (s : State) (q : StoreRequest) : Quiet s (requestOwn s q) := (requestOwn_step s q).quiet

theorem flushAccount_li (s : State) (i : Fin 256) : (flushAccount s i).li = s.li := (requestOwn_quiet _ _).li

theorem foldl_li {α : Type} (f : State → α → State) (h : ∀ s a, (f s a).li = s.li) (l : List α) (s : State) :
    (l.foldl f s).li = s.li := by
  induction l generalizing s with
  | nil => rfl
  | cons a l ih => rw [List.foldl_cons, ih, h]

theorem cmdFlushMeters_of_clean {s : State} (h : dirtyAccounts s = []) :
    cmdFlushMeters s = s.ok [.u16 0, .u16 0] := by
  rw [cmdFlushMeters, h]

theorem cmdFlushMeters_of_dirty {s : State} (h : dirtyAccounts s ≠ []) :
    cmdFlushMeters s =
      ((dirtyAccounts s).foldl flushAccount s, .long (.rows (dirtyAccounts s).length 0 0)) := by
  rw [cmdFlushMeters]
  split
  · exact absurd (by assumption) h
  · rfl

theorem flushMeters_eq {s : State} (h : Ready s) (tag : Byte) :
    exec (.flushMeters tag) s = .next (
      if dirtyAccounts s = [] then s.answered 33 tag .ok [.u16 0, .u16 0]
      else ((dirtyAccounts s).foldl flushAccount s).setUnit (.working 33 tag (.rows (dirtyAccounts s).length 0 0))) := by
  by_cases hd : dirtyAccounts s = []
  · rw [if_pos hd]
    exact next_of_reply h .flushMeters (cmdFlushMeters_of_clean hd) rfl
  · rw [if_neg hd]
    exact next_of_long h .flushMeters (cmdFlushMeters_of_dirty hd) (foldl_li _ flushAccount_li _ s)

theorem settingsRows_val : settingsRows.map Fin.val = (List.range 22).map (· + 2) := by decide

theorem saveSettings_eq {s : State} (h : Ready s) (tag : Byte) :
    exec (.saveSettings tag) s = .next ((settingsRows.foldl (fun t r => requestOwn t (.commit r 0)) s).setUnit
      (.working 34 tag (.rows 22 0 0))) :=
  next_of_long h .saveSettings rfl (foldl_li _ (fun t _ => (requestOwn_quiet t _).li) _ s)

theorem lockMeters_eq {s : State} (h : Ready s) (tag : Byte) :
    exec (.lockMeters tag) s = .next (
      if s.ms.lock then s.answered 35 tag .ok []
      else (request { s with ms := { s.ms with lock := true, lockUnsaved := true } } (.commit (settingsRow 0) 0)).1.answered
        35 tag .ok []) := by
  by_cases hl : s.ms.lock = true
  · rw [if_pos hl]
    exact next_of_reply h .lockMeters (if_pos hl) rfl
  · rw [if_neg hl]
    exact next_of_reply h .lockMeters (if_neg hl) (request_quiet _ _).li

theorem countRow_of_rows {s : State} {kind tag : Byte} {n c d : Nat} (completed : Bool)
    (h : s.cu.state = .working kind tag (.rows n c d)) :
    countRow s completed =
      let c' := if completed then c + 1 else c
      let d' := if completed then d else d + 1
      s.setUnit (if n ≤ 1 then .replying ⟨kind, tag, .ok, [.u16 c', .u16 d']⟩ else .working kind tag (.rows (n - 1) c' d')) := by
  rw [countRow, h]
  dsimp only
  by_cases hn : n ≤ 1
  · rw [if_pos hn, if_pos hn, replyLong, h]
    rfl
  · rw [if_neg hn, if_neg hn]
    rfl

/-- Settles O28. -/
theorem storeCommandsRequest : Obligations.StoreCommandsRequest := by
  refine ⟨fun s tag h => ⟨?_, ⟨settingsRows, settingsRows_val, saveSettings_eq h tag⟩, lockMeters_eq h tag⟩,
    fun s kind tag n c d completed h hn => ?_⟩
  · intro dirty
    exact flushMeters_eq h tag
  · intro c' d'
    have hone : n ≤ 1 ↔ n = 1 := by omega
    rw [countRow_of_rows completed h]
    simp only [hone]
    rfl

/-! ### The array -/

namespace Memory

/-- Of a run of stores at different addresses, each is read back. -/
theorem read_foldl_write_same {f : Nat → Nat} (hf : Function.Injective f) (g : Nat → Byte) {o : Nat} :
    ∀ (l : List Nat) {m : Memory}, l.Nodup → o ∈ l → m.wf = true →
      read (l.foldl (fun m o => write m (f o) (g o)) m) (f o) = g o
  | [], _, _, ho, _ => by cases ho
  | x :: l, m, hl, ho, hm => by
    obtain ⟨hx, hl⟩ := List.nodup_cons.mp hl
    rw [List.foldl_cons]
    obtain rfl | ho := List.mem_cons.mp ho
    · have hother : ∀ p ∈ l, f p ≠ f o := fun p hp hfp => hx ((hf hfp : p = o) ▸ hp)
      rw [read_foldl_write_other l f g hother, read_write_same hm]
    · exact read_foldl_write_same hf g l hl ho (write_wf hm _ _)

theorem row_writeRow_same {m : Memory} (hm : m.wf = true) (r : Row) {image : List Byte} (hl : image.length = 64) :
    (m.writeRow r image).row r = image := by
  refine List.ext_getElem (by simp [row, hl]) fun o h1 h2 => ?_
  have ho : o < 64 := by omega
  simp only [row, List.getElem_map, List.getElem_range, writeRow]
  rw [read_foldl_write_same (fun a b h => by simpa using h) _ _ List.nodup_range (List.mem_range.mpr ho) hm]
  simp [h2]

theorem row_writeRow_other (m : Memory) {q r : Row} (hq : q ≠ r) (image : List Byte) :
    (m.writeRow r image).row q = m.row q := by
  refine List.map_congr_left fun o ho => ?_
  have ho : o < 64 := List.mem_range.mp ho
  refine read_foldl_write_other _ _ _ fun p hp he => hq (Fin.ext ?_)
  have hp : p < 64 := List.mem_range.mp hp
  omega

end Memory

/-- Settles O30. -/
theorem rowsReadBack : Obligations.RowsReadBack :=
  fun m r image hm => ⟨Memory.writeRow_wf hm r image, Memory.row_writeRow_same hm r,
    fun _ hq => Memory.row_writeRow_other m hq image⟩

end Sys2Proof.Machine

/-! PROOFS. The void of the open page (O42), the engine line and the stall limit (O43), holds (O21). -/

namespace Sys2Proof.Machine

/-! ### The void of the open page -/

/-- The state with the PAGE VOID mark sent, or pending while the engine line is low (R17, R20). -/
def State.voidMarked (s : State) (t : Tag) : State :=
  if s.pp.engineReady then { s with engineOut := s.engineOut ++ [markPageVoid t] }
  else { s with pp := { s.pp with pendingVoid := some t } }

/-- The state in which the open page has been voided, but for PAGE VOID itself (R17). -/
def State.openPageVoided (s : State) (p : OpenPage) : State :=
  { s.voidMarked p.tag with
    st := { s.st with entries := s.st.entries.map fun e =>
      if e.tag = p.tag ∧ e.status = .forwarding then { e with status := .void } else e }
    dm := { s.dm with accum := none }
    jt := s.jt.set p.tag.job { s.job p.tag.job with counters := { (s.job p.tag.job).counters with
      voided := min 4294967295 ((s.job p.tag.job).counters.voided + 1) } }
    pp := { (s.voidMarked p.tag).pp with openPage := none }
    li := { s.li with bandPosition := s.li.bandPosition.map fun w => { w with reason := .due } } }

theorem voidOpenPage_of_page {s : State} {p : OpenPage} (hp : s.pp.openPage = some p) :
    voidOpenPage s = (s.openPageVoided p).raise .pageVoid [.u8 p.tag.job.val, .u16 p.tag.page, .u8 0] := by
  have hentries : (s.st.entries.map fun e => if (e.tag == p.tag && e.status == .forwarding) = true then
        { e with status := .void } else e) =
      s.st.entries.map fun e => if e.tag = p.tag ∧ e.status = .forwarding then { e with status := .void } else e := by
    simp only [Bool.and_eq_true, beq_iff_eq]
  simp only [voidOpenPage, hp, markDue, sendVoid, State.openPageVoided, State.voidMarked, ← hentries]
  split <;> rfl

/-- Settles O42. -/
theorem openPageVoided : Obligations.OpenPageVoided := by
  intro s
  refine ⟨voidOpenPage_of_none s, fun p hp => ?_⟩
  rw [voidOpenPage_of_page hp]
  rfl

/-! ### The engine line -/

theorem sendPendingVoid_eq (s : State) : sendPendingVoid s =
    match s.pp.pendingVoid with
    | some t =>
      if s.pp.engineReady then
        { s with pp := { s.pp with pendingVoid := none }, engineOut := s.engineOut ++ [markPageVoid t] }
      else s
    | none => s := by
  rw [sendPendingVoid]
  rfl

theorem sendPendingVoid_ready (s : State) : (sendPendingVoid s).pp.engineReady = s.pp.engineReady := by
  rw [sendPendingVoid]
  split
  · split <;> rfl
  · rfl

theorem sendPendingVoid_st (s : State) : (sendPendingVoid s).st = s.st := by
  rw [sendPendingVoid]
  split
  · split <;> rfl
  · rfl

theorem sendPathClear_eq (s : State) : sendPathClear s =
    if s.st.pathClear = true ∧ s.pp.engineReady = true then
      { sendPendingVoid s with
        st := { s.st with pathClear := false }, engineOut := (sendPendingVoid s).engineOut ++ [markPathClear] }
    else sendPendingVoid s := by
  have hst := sendPendingVoid_st s
  have hready := sendPendingVoid_ready s
  simp only [sendPathClear, hst, hready, Bool.and_eq_true]
  rfl

theorem stallRuns_iff (s : State) : stallRuns s = true ↔
    s.pp.engineReady = true ∧ s.li.commandQueue.length < 4 ∧ ∀ w ∈ s.li.bandPosition, w.reason = .interleave := by
  simp only [stallRuns, Bool.and_eq_true, decide_eq_true_eq, and_assoc]
  cases s.li.bandPosition <;> simp

theorem setReadyLine_of_high {s : State} (h : s.pp.engineReady = true) : setReadyLine s true = s := by
  have hsame : ({ s with pp := { s.pp with engineReady := true } } : State) = s := by rw [← h]
  rw [setReadyLine, h, hsame]
  rfl

theorem setReadyLine_of_rise {s : State} (h : s.pp.engineReady = false) :
    setReadyLine s true = settleBand (sendPathClear { s with pp := { s.pp with engineReady := true } }) := by
  rw [setReadyLine, h]
  rfl

theorem stallExpiry_of_none {s : State} (h : s.pp.openPage = none) : stallExpiry s = s := by
  rw [stallExpiry, h]

theorem stallExpiry_of_page {s : State} {p : OpenPage} (h : s.pp.openPage = some p) : stallExpiry s =
    if stallRuns s = true then
      settleBand (voidOpenPage (s.setJob p.tag.job { s.job p.tag.job with stallCount := (s.job p.tag.job).stallLimit }))
    else s := by
  rw [stallExpiry, h]
  rfl

/-- Settles O43. -/
theorem engineLineServed : Obligations.EngineLineServed := by
  intro s voidSent clearSent
  have hvoid : sendPendingVoid s = voidSent := sendPendingVoid_eq s
  have hclear : sendPathClear s = clearSent := by
    rw [sendPathClear_eq, hvoid]
    rfl
  refine ⟨congrArg Host.Outcome.next hvoid, congrArg Host.Outcome.next hclear, rfl, fun hready => ?_, fun hlow => ?_,
    fun hp => ?_, fun p hp => ?_⟩
  · exact congrArg Host.Outcome.next (setReadyLine_of_high hready)
  · intro high
    exact ⟨sendPathClear high, rfl, congrArg Host.Outcome.next (setReadyLine_of_rise hlow)⟩
  · exact congrArg Host.Outcome.next (stallExpiry_of_none hp)
  · simp only [← stallRuns_iff]
    exact congrArg Host.Outcome.next (stallExpiry_of_page hp)

/-! ### Holds -/

/-- Counting a void leaves every job as it is but for its counters. -/
theorem countVoided_job (s : State) (g h : Fin 16) : ∃ c, (s.countVoided g).job h = { s.job h with counters := c } := by
  by_cases hj : h = g
  · subst hj
    exact ⟨_, State.job_setJob_self ..⟩
  · exact ⟨_, State.job_setJob_of_ne _ _ hj⟩

theorem voidOpenPage_job (s : State) (h : Fin 16) :
    ∃ c, (voidOpenPage s).job h = { s.job h with counters := c } := by
  cases hp : s.pp.openPage with
  | none => exact ⟨(s.job h).counters, by rw [voidOpenPage_of_none s hp]⟩
  | some p =>
    have hjt : (voidOpenPage s).jt = (s.countVoided p.tag.job).jt := by rw [voidOpenPage_of_page hp]; rfl
    rw [State.job, hjt]
    exact countVoided_job s p.tag.job h

theorem scanPageVoided_job (s : State) (p : ScanPage) (h : Fin 16) :
    ∃ c, (s.scanPageVoided p).job h = { s.job h with counters := c } :=
  countVoided_job s p.tag.job h

/-- A job that is not DRAINING has no drain to complete. -/
theorem drainTest_of_not_draining {s : State} {h : Fin 16} (hs : (s.job h).state ≠ .draining) : drainTest s h = s :=
  drainTest_of_not_drained fun hd => hs ((drained_iff s h).mp hd).1

section
variable {s : State} {h : Fin 16}

/-- The state with the open page of a job voided. -/
def openPageVoidedOf (s : State) (h : Fin 16) : State := if s.hasOpenPage h then voidOpenPage s else s

theorem hasScanPage_iff (s : State) (h : Fin 16) : s.hasScanPage h = true ↔ ∃ p ∈ s.sp.page, p.tag.job = h := by
  simp [State.hasScanPage, Option.any_eq_true]

theorem hasOpenPage_iff (s : State) (h : Fin 16) : s.hasOpenPage h = true ↔ ∃ p ∈ s.pp.openPage, p.tag.job = h := by
  simp [State.hasOpenPage, Option.any_eq_true]

theorem openPageVoidedOf_sp (s : State) (h : Fin 16) : (openPageVoidedOf s h).sp = s.sp := by
  rw [openPageVoidedOf]
  split
  · exact voidOpenPage_sp s
  · rfl

theorem openPageVoidedOf_job (s : State) (h g : Fin 16) :
    ∃ c, (openPageVoidedOf s h).job g = { s.job g with counters := c } := by
  rw [openPageVoidedOf]
  split
  · exact voidOpenPage_job s g
  · exact ⟨_, rfl⟩

/-- The pages of a job that is not DRAINING are voided: its scan page without completing a drain. -/
theorem voidPagesOf_eq (hs : (s.job h).state ≠ .draining) : voidPagesOf s h =
    match s.sp.page with
    | some p => if p.tag.job = h then (openPageVoidedOf s h).scanPageVoided p else openPageVoidedOf s h
    | none => openPageVoidedOf s h := by
  have hsp := openPageVoidedOf_sp s h
  obtain ⟨c, hc⟩ := openPageVoidedOf_job s h h
  have hu : voidPagesOf s h =
      if (openPageVoidedOf s h).hasScanPage h then voidScanPage (openPageVoidedOf s h) else openPageVoidedOf s h := rfl
  rw [hu]
  generalize openPageVoidedOf s h = u at hsp hc
  cases hp : s.sp.page with
  | none =>
    have hno : ¬u.hasScanPage h = true := by rw [hasScanPage_iff, hsp, hp]; simp
    rw [if_neg hno]
  | some p =>
    dsimp only
    by_cases hj : p.tag.job = h
    · have hyes : u.hasScanPage h = true := by rw [hasScanPage_iff, hsp, hp]; exact ⟨p, rfl, hj⟩
      obtain ⟨d, hd⟩ := scanPageVoided_job u p h
      rw [if_pos hyes, if_pos hj, voidScanPage_of_page (hsp ▸ hp), hj,
        drainTest_of_not_draining (by rw [hd, hc]; exact hs)]
    · have hno : ¬u.hasScanPage h = true := by rw [hasScanPage_iff, hsp, hp]; simpa using hj
      rw [if_neg hno, if_neg hj]

theorem voidPagesOf_job (hs : (s.job h).state ≠ .draining) :
    ∃ c, (voidPagesOf s h).job h = { s.job h with counters := c } := by
  obtain ⟨c, hc⟩ := openPageVoidedOf_job s h h
  rw [voidPagesOf_eq hs]
  split
  next p _ =>
    split
    · obtain ⟨d, hd⟩ := scanPageVoided_job (openPageVoidedOf s h) p h
      exact ⟨d, by rw [hd, hc]⟩
    · exact ⟨c, hc⟩
  · exact ⟨c, hc⟩

theorem voidPagesOf_announced (hs : (s.job h).state ≠ .draining) :
    (voidPagesOf s h).sp.announced = if ∃ p ∈ s.sp.page, p.tag.job = h then none else s.sp.announced := by
  rw [voidPagesOf_eq hs]
  cases hp : s.sp.page with
  | none => simp [openPageVoidedOf_sp]
  | some p =>
    by_cases hj : p.tag.job = h
    · simp [hj, State.scanPageVoided]
    · simp [hj, openPageVoidedOf_sp]

theorem holdJob_of_stopped (hs : (s.job h).state = .free ∨ (s.job h).state = .draining) (r : Reason) :
    holdJob s h r = s := by
  rw [holdJob]
  obtain h | h := hs <;> rw [h]

theorem holdJob_of_running (hs : (s.job h).state = .active ∨ (s.job h).state = .held) (r : Reason) :
    holdJob s h r = ((dropAnnounced (voidPagesOf s h) h).modJob h fun j =>
      { j with state := .held, reason := some r }).raise .jobHeld [.u8 h, .u8 r.code] := by
  rw [holdJob]
  obtain h | h := hs <;> rw [h]

end

/-- The announced page is dropped from the scan path alone. -/
theorem dropAnnounced_eq (s : State) (h : Fin 16) : dropAnnounced s h = { s with sp := { s.sp with
    announced := if (s.job h).kind = .scan ∧ (s.job h).state = .active then none else s.sp.announced } } := by
  rw [dropAnnounced]
  split <;> rfl

/-- Settles O21. -/
theorem holdSteps : Obligations.HoldSteps := by
  refine fun s h r => ⟨fun hs => holdJob_of_stopped hs r, fun hs => ?_⟩
  intro v
  have hne : (s.job h).state ≠ .draining := by obtain h | h := hs <;> rw [h] <;> decide
  obtain ⟨c, hc⟩ := voidPagesOf_job hne
  have hann := voidPagesOf_announced hne
  have hkind : ((voidPagesOf s h).job h).kind = (s.job h).kind := by rw [hc]
  have hstate : ((voidPagesOf s h).job h).state = (s.job h).state := by rw [hc]
  rw [holdJob_of_running hs, dropAnnounced_eq]
  refine ⟨?_, rfl, rfl, rfl, rfl, rfl, ?_, voidPagesOf_openPage s h, voidPagesOf_scanPage s h⟩
  · rfl
  · simp only [State.raise_sp, State.modJob, State.setJob_sp, hann, hkind, hstate]
    by_cases h1 : (s.job h).kind = .scan ∧ (s.job h).state = .active
    · rw [if_pos h1, if_pos (.inl h1)]
    · rw [if_neg h1]
      exact if_congr (or_iff_right h1).symm rfl rfl

end Sys2Proof.Machine

/-! PROOFS. CLOSE JOB and CANCEL JOB (O19). -/

namespace Sys2Proof.Machine

/-! ### The band position through voids and drains -/

theorem drainTest_li (s : State) (h : Fin 16) : (drainTest s h).li = s.li := by
  rw [drainTest]
  split
  · rw [completeDrain_eq]
    exact (disposeKey_quiet s h).li
  · rfl

theorem voidOpenPage_band {s : State} (h : s.li.bandPosition = none) : (voidOpenPage s).li.bandPosition = none := by
  cases hp : s.pp.openPage with
  | none => rw [voidOpenPage_of_none s hp]; exact h
  | some p =>
    rw [voidOpenPage_of_page hp, State.raise_li]
    simp [State.openPageVoided, h]

theorem voidScanPage_li (s : State) : (voidScanPage s).li = s.li := by
  cases hp : s.sp.page with
  | none => rw [voidScanPage_of_idle hp]
  | some p => rw [voidScanPage_of_page hp, drainTest_li]; rfl

theorem voidPagesOf_band {s : State} (hb : s.li.bandPosition = none) (h : Fin 16) :
    (voidPagesOf s h).li.bandPosition = none := by
  have hopen : (openPageVoidedOf s h).li.bandPosition = none := by
    rw [openPageVoidedOf]
    split
    · exact voidOpenPage_band hb
    · exact hb
  have hu : voidPagesOf s h =
      if (openPageVoidedOf s h).hasScanPage h then voidScanPage (openPageVoidedOf s h) else openPageVoidedOf s h := rfl
  rw [hu]
  split
  · rw [voidScanPage_li]; exact hopen
  · exact hopen

theorem beginDrain_band {s : State} (hb : s.li.bandPosition = none) (h : Fin 16) (cancel : Bool) :
    (beginDrain s h cancel).li.bandPosition = none := by
  have hd : (dropAnnounced (voidPagesOf s h) h).li.bandPosition = none := by
    rw [dropAnnounced_eq]
    exact voidPagesOf_band hb h
  cases cancel <;> exact hd

/-- A command answered at once is the row's whole effect where its owner leaves no band waiting. -/
theorem next_of_reply_of_band {s t : State} {tag : Byte} {code : ReplyCode} {results : List Val} (h : Ready s) (c : Command)
    (hrun : runCommand c s = (t, .reply code results)) (hband : t.li.bandPosition = none) :
    (Host.Outcome.next (deliverCommand tag c s) : Host.Outcome State Fault Refusal) =
      .next (t.answered c.kind tag code results) :=
  congrArg Host.Outcome.next (deliverCommand_of_reply h hrun hband)

/-! ### The commands by the state of the context -/

section
variable {s : State} {handle : Byte} {h : Fin 16} (hh : h.val = handle.toNat)
include hh

theorem cmdCloseJob_of_handle : cmdCloseJob handle s =
    match (s.job h).state with
    | .free => s.refuse .noEntry
    | .draining => s.ok []
    | _ => (drainTest (beginDrain s h false) h).ok [] := by
  rw [cmdCloseJob, indexOf_eq_some hh] <;> rfl

theorem cmdCancelJob_of_handle : cmdCancelJob handle s =
    match (s.job h).state with
    | .free => s.refuse .noEntry
    | .draining => if (s.job h).cancel then s.ok [] else (drainTest (cancelDraining s h) h).ok []
    | _ => (drainTest (beginDrain s h true) h).ok [] := by
  rw [cmdCancelJob, indexOf_eq_some hh] <;> rfl

end

theorem cmdCloseJob_of_no_handle {s : State} {handle : Byte} (hh : 16 ≤ handle.toNat) :
    cmdCloseJob handle s = s.refuse .noEntry := by
  rw [cmdCloseJob, indexOf_eq_none hh]

theorem cmdCancelJob_of_no_handle {s : State} {handle : Byte} (hh : 16 ≤ handle.toNat) :
    cmdCancelJob handle s = s.refuse .noEntry := by
  rw [cmdCancelJob, indexOf_eq_none hh]

theorem drainTest_band {s : State} (hb : s.li.bandPosition = none) (h : Fin 16) :
    (drainTest s h).li.bandPosition = none := by
  rw [drainTest_li]; exact hb

section
variable {s : State} (hr : Ready s) {tag handle : Byte} {h : Fin 16} (hh : h.val = handle.toNat)
include hr hh

theorem closeJob_eq : exec (.closeJob tag handle) s = .next (
    match (s.job h).state with
    | .free => s.answered 3 tag .noEntry []
    | .draining => s.answered 3 tag .ok []
    | _ => (drainTest (beginDrain s h false) h).answered 3 tag .ok []) := by
  obtain ⟨-, -, hb, -⟩ := id hr
  have hcmd := cmdCloseJob_of_handle (s := s) hh
  have hdrain : (drainTest (beginDrain s h false) h).li.bandPosition = none := drainTest_band (beginDrain_band hb h false) h
  cases hs : (s.job h).state <;> rw [hs] at hcmd
  case free => exact next_of_reply hr (.closeJob handle) hcmd rfl
  case draining => exact next_of_reply hr (.closeJob handle) hcmd rfl
  case active => exact next_of_reply_of_band hr (.closeJob handle) hcmd hdrain
  case held => exact next_of_reply_of_band hr (.closeJob handle) hcmd hdrain

theorem cancelJob_eq : exec (.cancelJob tag handle) s = .next (
    match (s.job h).state with
    | .free => s.answered 4 tag .noEntry []
    | .draining =>
      if (s.job h).cancel then s.answered 4 tag .ok []
      else (drainTest (cancelDraining s h) h).answered 4 tag .ok []
    | _ => (drainTest (beginDrain s h true) h).answered 4 tag .ok []) := by
  obtain ⟨-, -, hb, -⟩ := id hr
  have hcmd := cmdCancelJob_of_handle (s := s) hh
  have hdrain : (drainTest (beginDrain s h true) h).li.bandPosition = none := drainTest_band (beginDrain_band hb h true) h
  cases hs : (s.job h).state <;> rw [hs] at hcmd
  case free => exact next_of_reply hr (.cancelJob handle) hcmd rfl
  case draining =>
    cases hc : (s.job h).cancel <;> rw [hc] at hcmd
    · exact next_of_reply_of_band hr (.cancelJob handle) hcmd (drainTest_band (by exact hb) h)
    · exact next_of_reply hr (.cancelJob handle) hcmd rfl
  case active => exact next_of_reply_of_band hr (.cancelJob handle) hcmd hdrain
  case held => exact next_of_reply_of_band hr (.cancelJob handle) hcmd hdrain

end

/-! ### Discarded frames -/

/-- With the head frame on the link, the frames behind it are discarded. -/
theorem discardFrames_of_head {s : State} {f g : ScanFrame} {rest : List ScanFrame} (h : Fin 16)
    (hs : s.li.sending = some (.scan f true)) (hb : s.sp.buffer = g :: rest) :
    (discardFrames s h).sp.buffer = g :: rest.filter fun f => f.tag.job != h := by
  rw [discardFrames, hs, hb]

theorem discardFrames_of_no_head {s : State} (h : Fin 16) (hs : ∀ f, s.li.sending ≠ some (.scan f true)) :
    (discardFrames s h).sp.buffer = s.sp.buffer.filter fun f => f.tag.job != h := by
  rw [discardFrames]
  dsimp only
  split
  next f _ _ hf _ => exact absurd hf (hs f)
  · rfl

/-- Settles O19. -/
theorem closeAndCancelDrain : Obligations.CloseAndCancelDrain := by
  refine ⟨fun s tag handle hr => ⟨fun hh => ⟨?_, ?_⟩, fun h hh => ?_⟩, fun s h => ?_⟩
  · exact next_of_reply hr (.closeJob handle) (cmdCloseJob_of_no_handle hh) rfl
  · exact next_of_reply hr (.cancelJob handle) (cmdCancelJob_of_no_handle hh) rfl
  · intro unannounced voided draining cancelled
    refine ⟨(closeJob_eq hr hh).trans ?_, (cancelJob_eq hr hh).trans ?_⟩
    · cases (s.job h).state <;> rfl
    · cases (s.job h).state <;> rfl
  · intro t
    exact ⟨rfl, discardFrames_of_no_head h, fun f g rest hs hb => discardFrames_of_head h hs hb⟩

end Sys2Proof.Machine

/-! PROOFS. SANITIZE by its scope (O29). -/

namespace Sys2Proof.Machine

/-! ### What the void of a job's pages leaves of the other tables -/

theorem openPageVoidedOf_job_of_ne (s : State) {g h : Fin 16} (ne : h ≠ g) :
    (openPageVoidedOf s g).job h = s.job h := by
  rw [openPageVoidedOf]
  by_cases hg : s.hasOpenPage g = true
  · obtain ⟨p, hp, hj⟩ := (hasOpenPage_iff s g).mp hg
    have hjt : (voidOpenPage s).jt = (s.countVoided p.tag.job).jt := by rw [voidOpenPage_of_page hp]; rfl
    rw [if_pos hg, State.job, hjt, hj]
    exact State.job_setJob_of_ne _ _ ne
  · rw [if_neg hg]

theorem voidOpenPage_kt (s : State) : (voidOpenPage s).kt = s.kt := by
  cases hp : s.pp.openPage with
  | none => rw [voidOpenPage_of_none s hp]
  | some p =>
    rw [voidOpenPage_of_page hp, State.raise_kt, State.openPageVoided, State.voidMarked]
    dsimp only
    split <;> rfl

theorem openPageVoidedOf_kt (s : State) (g : Fin 16) : (openPageVoidedOf s g).kt = s.kt := by
  rw [openPageVoidedOf]
  split
  · exact voidOpenPage_kt s
  · rfl

section
variable {s : State} {g h : Fin 16} (hs : (s.job g).state ≠ .draining)
include hs

theorem voidPagesOf_job_of_ne (ne : h ≠ g) : (voidPagesOf s g).job h = s.job h := by
  rw [voidPagesOf_eq hs]
  have hopen := openPageVoidedOf_job_of_ne s ne
  split
  next p _ =>
    split
    next hj =>
      have hjt : ((openPageVoidedOf s g).scanPageVoided p).job h = ((openPageVoidedOf s g).countVoided g).job h := by
        rw [← hj]; rfl
      rw [hjt, ← hopen]
      exact State.job_setJob_of_ne _ _ ne
    · exact hopen
  · exact hopen

theorem voidPagesOf_kt : (voidPagesOf s g).kt = s.kt := by
  rw [voidPagesOf_eq hs]
  have hopen := openPageVoidedOf_kt s g
  split
  · split <;> exact hopen
  · exact hopen

end

/-! ### The jobs SANITIZE cancels -/

theorem voidPagesOf_eq_ite (s : State) (h : Fin 16) : voidPagesOf s h =
    if ∃ p ∈ (if ∃ p ∈ s.pp.openPage, p.tag.job = h then voidOpenPage s else s).sp.page, p.tag.job = h then
      voidScanPage (if ∃ p ∈ s.pp.openPage, p.tag.job = h then voidOpenPage s else s)
    else if ∃ p ∈ s.pp.openPage, p.tag.job = h then voidOpenPage s else s := by
  simp only [voidPagesOf, hasOpenPage_iff, hasScanPage_iff]

/-- A job is cancelled by SANITIZE: its drain has begun. -/
def sanitizedJob (j : Job) : Job := { j with state := .draining, cancel := true, reason := some .sanitize }

section
variable {s : State} {h : Fin 16} (hk : (s.job h).kind ≠ .print)
include hk

theorem sanitizeJob_of_draining (hs : (s.job h).state = .draining) :
    sanitizeJob s h = (discardFrames s h).setJob h (sanitizedJob (s.job h)) := by
  have hj : sanitizedJob (s.job h) = { s.job h with cancel := true, reason := some .sanitize } := by
    rw [sanitizedJob, ← hs]
  have hcancel : (cancelDraining s h).job h = { s.job h with cancel := true } := State.job_setJob_self ..
  rw [sanitizeJob]
  rw [if_neg hk, hs, State.modJob, hcancel, hj]
  exact State.setJob_setJob (discardFrames s h) h _ _

theorem sanitizeJob_of_running (hd : (s.job h).state ≠ .draining) (hf : (s.job h).state ≠ .free) :
    sanitizeJob s h = (discardFrames (dropAnnounced (voidPagesOf s h) h) h).setJob h
      (sanitizedJob ((discardFrames (dropAnnounced (voidPagesOf s h) h) h).job h)) := by
  have hgo : sanitizeJob s h = (beginDrain s h true).modJob h fun j => { j with reason := some .sanitize } := by
    rw [sanitizeJob]
    rw [if_neg hk]
    cases hs : (s.job h).state with
    | free => exact absurd hs hf
    | draining => exact absurd hs hd
    | active => rfl
    | held => rfl
  rw [hgo, beginDrain]
  rw [if_pos rfl, State.modJob, State.modJob, State.job_setJob_self, State.setJob_setJob]
  rfl

variable (hf : (s.job h).state ≠ .free)
include hf

theorem sanitizeJob_job_self : ∃ c, (sanitizeJob s h).job h = sanitizedJob { s.job h with counters := c } := by
  by_cases hd : (s.job h).state = .draining
  · exact ⟨(s.job h).counters, by rw [sanitizeJob_of_draining hk hd, State.job_setJob_self]⟩
  · obtain ⟨c, hc⟩ := voidPagesOf_job hd
    refine ⟨c, ?_⟩
    rw [sanitizeJob_of_running hk hd hf, State.job_setJob_self, ← hc, dropAnnounced_eq]
    rfl

theorem sanitizeJob_job_of_ne {g : Fin 16} (ne : g ≠ h) : (sanitizeJob s h).job g = s.job g := by
  by_cases hd : (s.job h).state = .draining
  · rw [sanitizeJob_of_draining hk hd, State.job_setJob_of_ne _ _ ne]
    rfl
  · rw [sanitizeJob_of_running hk hd hf, State.job_setJob_of_ne _ _ ne, dropAnnounced_eq, ← voidPagesOf_job_of_ne hd ne]
    rfl

theorem sanitizeJob_kt : (sanitizeJob s h).kt = s.kt := by
  by_cases hd : (s.job h).state = .draining
  · rw [sanitizeJob_of_draining hk hd, State.setJob_kt]
    rfl
  · rw [sanitizeJob_of_running hk hd hf, State.setJob_kt, dropAnnounced_eq, ← voidPagesOf_kt hd]
    rfl

end

/-- The jobs that SANITIZE cancels: every one that is not PRINT and not FREE (R37). -/
def sanitizedHandles (s : State) : List (Fin 16) :=
  State.handles.filter fun h => (s.job h).kind != .print && (s.job h).state != .free

theorem mem_sanitizedHandles (s : State) (h : Fin 16) :
    h ∈ sanitizedHandles s ↔ (s.job h).kind ≠ .print ∧ (s.job h).state ≠ .free := by
  simp [sanitizedHandles, State.handles]

theorem sanitizedHandles_pairwise (s : State) : (sanitizedHandles s).Pairwise (· < ·) :=
  (List.pairwise_lt_finRange 16).filter _

/-- The jobs of a list are cancelled one after another, none disturbing another. -/
theorem foldl_sanitizeJob {l : List (Fin 16)} (hl : l.Nodup) {s : State}
    (hrun : ∀ h ∈ l, (s.job h).kind ≠ .print ∧ (s.job h).state ≠ .free) :
    (∀ f : State → Fin 16 → State,
      (∀ u h, (u.job h).kind ≠ .print → (u.job h).state ≠ .free → f u h = sanitizeJob u h) →
      l.foldl f s = l.foldl sanitizeJob s) ∧
    (l.foldl sanitizeJob s).kt = s.kt ∧
    (∀ h ∈ l, ∃ c, (l.foldl sanitizeJob s).job h = sanitizedJob { s.job h with counters := c }) ∧
    ∀ h ∉ l, (l.foldl sanitizeJob s).job h = s.job h := by
  induction l generalizing s with
  | nil => exact ⟨fun f _ => rfl, rfl, fun h hh => by (cases hh), fun h _ => rfl⟩
  | cons g l ih =>
    obtain ⟨hg, hl⟩ := List.nodup_cons.mp hl
    obtain ⟨hk, hf⟩ := hrun g List.mem_cons_self
    have hother {h : Fin 16} (ne : h ≠ g) := sanitizeJob_job_of_ne hk hf ne
    have hne {h : Fin 16} (hh : h ∈ l) : h ≠ g := fun he => hg (he ▸ hh)
    obtain ⟨hfold, hkt, hin, hout⟩ := ih (s := sanitizeJob s g) hl fun h hh => by
      rw [hother (hne hh)]
      exact hrun h (List.mem_cons_of_mem _ hh)
    refine ⟨fun f hfeq => ?_, ?_, fun h hh => ?_, fun h hh => ?_⟩
    · rw [List.foldl_cons, List.foldl_cons, hfeq s g hk hf, hfold f hfeq]
    · rw [List.foldl_cons, hkt, sanitizeJob_kt hk hf]
    · rw [List.foldl_cons]
      obtain rfl | hh := List.mem_cons.mp hh
      · obtain ⟨c, hc⟩ := sanitizeJob_job_self hk hf
        exact ⟨c, by rw [hout _ hg, hc]⟩
      · obtain ⟨c, hc⟩ := hin h hh
        exact ⟨c, by rw [hc, hother (hne hh)]⟩
    · obtain ⟨hhg, hhl⟩ := not_or.mp (mt List.mem_cons.mpr hh)
      rw [List.foldl_cons, hout h hhl, hother hhg]

/-! ### The drain tests that follow -/

theorem drainTest_job_of_ne (s : State) {g h : Fin 16} (ne : h ≠ g) : (drainTest s g).job h = s.job h := by
  rw [drainTest]
  split
  · rw [completeDrain_eq, State.jobDone, State.job_setJob_of_ne _ _ ne, State.job_raise, State.job, disposeKey_jt]
    rfl
  · rfl

theorem drainTest_job_self (s : State) (h : Fin 16) :
    (drainTest s h).job h = s.job h ∨ (drainTest s h).job h = { s.job h with state := .free } := by
  rw [drainTest]
  split
  · refine .inr ?_
    rw [completeDrain_eq, State.jobDone, State.job_setJob_self]
  · exact .inl rfl

theorem foldl_drainTest_job (l : List (Fin 16)) (s : State) (h : Fin 16) :
    (h ∉ l → (l.foldl drainTest s).job h = s.job h) ∧
    ((l.foldl drainTest s).job h = s.job h ∨ (l.foldl drainTest s).job h = { s.job h with state := .free }) := by
  induction l generalizing s with
  | nil => exact ⟨fun _ => rfl, .inl rfl⟩
  | cons g l ih =>
    obtain ⟨hout, hin⟩ := ih (drainTest s g)
    rw [List.foldl_cons]
    by_cases ne : h = g
    · subst ne
      refine ⟨fun hh => absurd List.mem_cons_self hh, ?_⟩
      obtain h1 | h1 := drainTest_job_self s h <;> rw [h1] at hin
      · exact hin
      · exact .inr (hin.elim id id)
    · rw [drainTest_job_of_ne s ne] at hout hin
      exact ⟨fun hh => hout fun hl => hh (List.mem_cons_of_mem _ hl), hin⟩

/-! ### The keys that are left -/

/-- A slot holds no key once it is neither ACTIVE nor RETAINED. -/
abbrev KeySlot.KeysHeld (x : KeySlot) : Prop :=
  x.state = .active ∨ x.state = .retained ∨ (x.cipherKey = 0 ∧ x.checkKey = 0)

section
variable {s : State} {k l : Fin 64}

theorem requestKeyRow_key_of_ne (ne : k ≠ l) (kind : RowRequest) : (requestKeyRow s l kind).key k = s.key k := by
  have hkey (q : StoreRequest) : (request s q).1.key k = s.key k := by
    rw [State.key, (request_step s q).frame]
    rfl
  simp only [requestKeyRow, State.modKey, State.key_setKey_of_ne _ _ ne, hkey]

theorem enterErasing_key_of_ne (ne : k ≠ l) (cause : EraseCause) : (enterErasing s l cause).key k = s.key k := by
  have ht : (requestKeyRow (s.setKey l { s.key l with
      state := .erasing, cipherKey := 0, checkKey := 0, releases := 0, cause := some cause }) l .erase).key k = s.key k := by
    rw [requestKeyRow_key_of_ne ne, State.key_setKey_of_ne _ _ ne]
  have he := enterErasing_eq s l cause
  dsimp only at he
  rw [he]
  split
  · exact ht
  · rw [State.key_raise, State.key_setKey_of_ne _ _ ne, ht]

theorem enterErasing_keys (s : State) (l : Fin 64) (cause : EraseCause) :
    ((enterErasing s l cause).key l).cipherKey = 0 ∧ ((enterErasing s l cause).key l).checkKey = 0 := by
  have he := enterErasing_eq s l cause
  dsimp only at he
  rw [he]
  split
  · obtain ⟨r, hr⟩ := key_requestKeyRow (s.setKey l { s.key l with
      state := .erasing, cipherKey := 0, checkKey := 0, releases := 0, cause := some cause }) l .erase
    rw [hr, State.key_setKey_self]
    exact ⟨rfl, rfl⟩
  · rw [State.key_raise, State.key_setKey_self]
    exact ⟨rfl, rfl⟩

theorem retainScan_held (e : EgressEntry) (h : (s.key k).KeysHeld) : ((retainScan s l e).key k).KeysHeld := by
  rw [retainScan]
  by_cases ne : k = l
  · subst ne
    obtain ⟨r, hr⟩ := key_requestKeyRow (s.modKey k fun x =>
      { x with state := .retained, naming := none, expiry := some (min max32 (s.now + 60 * e.retention)),
               releases := e.releases }) k .commit
    rw [hr, State.modKey, State.key_setKey_self]
    exact .inr (.inl rfl)
  · rw [requestKeyRow_key_of_ne ne, State.modKey, State.key_setKey_of_ne _ _ ne]
    exact h

theorem enterErasing_held (cause : EraseCause) (h : (s.key k).KeysHeld) : ((enterErasing s l cause).key k).KeysHeld := by
  by_cases ne : k = l
  · subst ne
    exact .inr (.inr (enterErasing_keys s k cause))
  · rw [enterErasing_key_of_ne ne]
    exact h

theorem disposeRelease_held (h : (s.key k).KeysHeld) : ((disposeRelease s l).key k).KeysHeld := by
  have h1 : ((s.modKey l fun x => { x with naming := none }).key k).KeysHeld := by
    by_cases ne : k = l
    · subst ne
      rw [State.modKey, State.key_setKey_self]
      exact h
    · rw [State.modKey, State.key_setKey_of_ne _ _ ne]
      exact h
  rw [disposeRelease]
  split
  · exact enterErasing_held _ h1
  · split
    · exact enterErasing_held _ h1
    · exact h1

theorem zeroiseActive_held (h : (s.key k).KeysHeld) : ((zeroiseActive s l).key k).KeysHeld := by
  rw [zeroiseActive, State.modKey]
  by_cases ne : k = l
  · subst ne
    rw [State.key_setKey_self]
    exact .inr (.inr ⟨rfl, rfl⟩)
  · rw [State.key_setKey_of_ne _ _ ne]
    exact h

theorem disposeKey_held (j : Fin 16) (h : (s.key k).KeysHeld) : ((disposeKey s j).key k).KeysHeld := by
  rw [disposeKey]
  split
  · exact h
  · split
    · exact disposeRelease_held h
    · split
      · exact zeroiseActive_held h
      · exact retainScan_held _ h

theorem drainTest_held (j : Fin 16) (h : (s.key k).KeysHeld) : ((drainTest s j).key k).KeysHeld := by
  rw [drainTest]
  split
  · rw [completeDrain_eq]
    exact disposeKey_held j h
  · exact h

theorem foldl_drainTest_held (js : List (Fin 16)) (h : (s.key k).KeysHeld) :
    ((js.foldl drainTest s).key k).KeysHeld := by
  induction js generalizing s with
  | nil => exact h
  | cons j js ih => exact ih (drainTest_held j h)

theorem sanitizeSlot_key_of_ne (ne : k ≠ l) : (sanitizeSlot s l).key k = s.key k := by
  rw [sanitizeSlot]
  split
  · rfl
  · exact State.key_setKey_of_ne _ _ ne
  · split
    · exact State.key_setKey_of_ne _ _ ne
    · exact enterErasing_key_of_ne ne _
  · rfl

theorem sanitizeSlot_keys (h : (s.key l).KeysHeld) :
    ((sanitizeSlot s l).key l).cipherKey = 0 ∧ ((sanitizeSlot s l).key l).checkKey = 0 := by
  rw [sanitizeSlot]
  cases hs : (s.key l).state with
  | free => simpa [KeySlot.KeysHeld, hs] using h
  | erasing => simpa [KeySlot.KeysHeld, hs] using h
  | active => dsimp only; rw [State.key_setKey_self]; exact ⟨rfl, rfl⟩
  | retained =>
    dsimp only
    split
    · rw [State.key_setKey_self]; exact ⟨rfl, rfl⟩
    · exact enterErasing_keys s l _

/-- SANITIZE at the Key Table leaves no key in a slot it passes. -/
theorem foldl_sanitizeSlot_keys (ls : List (Fin 64)) (hk : k ∈ ls) (h : (s.key k).KeysHeld) :
    ((ls.foldl sanitizeSlot s).key k).cipherKey = 0 ∧ ((ls.foldl sanitizeSlot s).key k).checkKey = 0 := by
  have hstays (ls : List (Fin 64)) (s : State) (h : (s.key k).cipherKey = 0 ∧ (s.key k).checkKey = 0) :
      ((ls.foldl sanitizeSlot s).key k).cipherKey = 0 ∧ ((ls.foldl sanitizeSlot s).key k).checkKey = 0 := by
    induction ls generalizing s with
    | nil => exact h
    | cons l ls ih =>
      refine ih _ ?_
      by_cases ne : k = l
      · exact ne ▸ sanitizeSlot_keys (.inr (.inr h))
      · rw [sanitizeSlot_key_of_ne ne]
        exact h
  induction ls generalizing s with
  | nil => cases hk
  | cons l ls ih =>
    by_cases ne : k = l
    · subst ne
      exact hstays ls _ (sanitizeSlot_keys h)
    · exact ih ((List.mem_cons.mp hk).resolve_left ne) (by rw [sanitizeSlot_key_of_ne ne]; exact h)

end

/-! ### The scopes -/

theorem SanitizeScope.ofByte_of_ge {b : Byte} (h : 3 ≤ b.toNat) : SanitizeScope.ofByte b = none := by
  obtain ⟨n, hn⟩ := Nat.exists_eq_add_of_le' h
  rw [SanitizeScope.ofByte, hn]
  rfl

theorem State.allFree_iff (s : State) : s.allFree = true ↔ ¬∃ h, (s.job h).state ≠ .free := by
  simp [State.allFree, State.handles]

theorem requestRegion_eq (s : State) (g : Region) : requestRegion s g = requestOwn { s with ms := { s.ms with
    queue := s.ms.queue.filter fun e => match e.request.row? with
      | some r => !(g.first.val ≤ r.val && r.val ≤ g.last.val)
      | none => true } } (.region g) := by
  have hkeep (e : StoreEntry) : (!(e.request.row?.any fun r => g.contains r)) =
      match e.request.row? with
      | some r => !(g.first.val ≤ r.val && r.val ≤ g.last.val)
      | none => true := by
    cases e.request.row? <;> rfl
  rw [requestRegion]
  simp only [hkeep]

theorem requestRegion_quiet (s : State) (g : Region) : Quiet s (requestRegion s g) := (requestRegion_step s g).quiet

theorem wipeAccounts_eq (s : State) : wipeAccounts s = { s with
    acct := { s.acct with records := Vector.replicate 256 Account.blank, session := none }
    tb := { s.tb with channels := s.tb.channels.set 0 s.tb.channels[0].requestStop } } := rfl

theorem sanitizeKeys_eq (s : State) : sanitizeKeys s = (List.finRange 64).foldl sanitizeSlot s := rfl

theorem sanitizeJobs_eq (s : State) :
    sanitizeJobs s = (sanitizedHandles s).foldl drainTest ((sanitizedHandles s).foldl sanitizeJob s) := rfl

theorem sanitizeJob_band {s : State} (hb : s.li.bandPosition = none) (h : Fin 16) :
    (sanitizeJob s h).li.bandPosition = none := by
  rw [sanitizeJob]
  split
  · exact hb
  · split
    · exact hb
    · exact hb
    · exact beginDrain_band hb h true

theorem foldl_band {α : Type} (f : State → α → State)
    (h : ∀ s a, s.li.bandPosition = none → (f s a).li.bandPosition = none) (l : List α) {s : State}
    (hb : s.li.bandPosition = none) : (l.foldl f s).li.bandPosition = none := by
  induction l generalizing s with
  | nil => exact hb
  | cons a l ih => exact ih (h s a hb)

theorem sanitizeJobs_band {s : State} (hb : s.li.bandPosition = none) : (sanitizeJobs s).li.bandPosition = none := by
  rw [sanitizeJobs_eq]
  exact foldl_band _ (fun _ h hb => drainTest_band hb h) _ (foldl_band _ (fun _ h hb => sanitizeJob_band hb h) _ hb)

/-- A command that waits for the store is the row's whole effect where its owner leaves no band waiting. -/
theorem next_of_long_of_band {s t : State} {tag : Byte} {p : Progress} (h : Ready s) (c : Command)
    (hrun : runCommand c s = (t, .long p)) (hband : t.li.bandPosition = none) :
    (Host.Outcome.next (deliverCommand tag c s) : Host.Outcome State Fault Refusal) =
      .next (t.setUnit (.working c.kind tag p)) := by
  rw [deliverCommand_answered h tag c (by rw [hrun]; exact hband), hrun]
  rfl

/-- What SANITIZE does at one key slot, by its state (R147). -/
theorem sanitizeSlot_eq (s : State) (k : Fin 64) : sanitizeSlot s k =
    match (s.key k).state with
    | .free | .erasing => s
    | .active => s.setKey k { s.key k with cipherKey := 0, checkKey := 0 }
    | .retained =>
      if (s.key k).naming = none then enterErasing s k .sanitized
      else s.setKey k { s.key k with cipherKey := 0, checkKey := 0, releases := 0 } := by
  rw [sanitizeSlot]
  generalize s.key k = x
  obtain ⟨state, _, _, _, _, _, _, _, _, naming, _, _⟩ := x
  cases state with
  | retained => cases naming <;> rfl
  | _ => rfl

section
variable {s : State}

/-- The Job Table once SANITIZE KEYS has cancelled its jobs and tested their drains (R37). -/
theorem sanitizeJobs_job (h : Fin 16) :
    ((s.job h).kind = .print → (sanitizeJobs s).job h = s.job h) ∧
    (h ∈ sanitizedHandles s → ((sanitizeJobs s).job h).cancel = true ∧
      ((sanitizeJobs s).job h).reason = some .sanitize ∧
      (((sanitizeJobs s).job h).state = .free ∨
        ((sanitizeJobs s).job h).state = .draining ∧ ((sanitizeJobs s).job h).kind = (s.job h).kind)) := by
  have hnodup : (sanitizedHandles s).Nodup := (sanitizedHandles_pairwise s).imp fun h => (Fin.ne_of_lt h)
  obtain ⟨-, -, hin, hout⟩ := foldl_sanitizeJob hnodup fun h hh => (mem_sanitizedHandles s h).mp hh
  obtain ⟨hpass, htest⟩ := foldl_drainTest_job (sanitizedHandles s) ((sanitizedHandles s).foldl sanitizeJob s) h
  rw [sanitizeJobs_eq]
  refine ⟨fun hk => ?_, fun hh => ?_⟩
  · have hno : h ∉ sanitizedHandles s := fun hh => ((mem_sanitizedHandles s h).mp hh).1 hk
    rw [hpass hno, hout h hno]
  · obtain ⟨c, hc⟩ := hin h hh
    rw [hc] at htest
    obtain ht | ht := htest <;> rw [ht]
    · exact ⟨rfl, rfl, .inr ⟨rfl, rfl⟩⟩
    · exact ⟨rfl, rfl, .inl rfl⟩

/-- SANITIZE KEYS leaves no key of an ACTIVE or RETAINED slot. -/
theorem sanitizeJobs_keys {k : Fin 64} (hk : (s.key k).state = .active ∨ (s.key k).state = .retained) :
    ((sanitizeKeys (sanitizeJobs s)).key k).cipherKey = 0 ∧ ((sanitizeKeys (sanitizeJobs s)).key k).checkKey = 0 := by
  have hnodup : (sanitizedHandles s).Nodup := (sanitizedHandles_pairwise s).imp fun h => (Fin.ne_of_lt h)
  obtain ⟨-, hkt, -, -⟩ := foldl_sanitizeJob hnodup fun h hh => (mem_sanitizedHandles s h).mp hh
  have hheld : (((sanitizedHandles s).foldl sanitizeJob s).key k).KeysHeld := by
    rw [State.key, hkt]
    exact hk.elim .inl fun h => .inr (.inl h)
  rw [sanitizeKeys_eq, sanitizeJobs_eq]
  exact foldl_sanitizeSlot_keys _ (List.mem_finRange k) (foldl_drainTest_held _ hheld)

variable (hr : Ready s) (tag : Byte)
include hr

theorem sanitize_keys_eq :
    exec (.sanitize tag 0) s = .next ((requestRegion (sanitizeKeys (sanitizeJobs s)) .keys).setUnit (.working 36 tag .region)) := by
  obtain ⟨-, -, hb, -⟩ := id hr
  refine next_of_long_of_band hr (.sanitize 0) rfl ?_
  rw [(requestRegion_quiet _ _).li, (sanitizeKeys_quiet _).li]
  exact sanitizeJobs_band hb

theorem sanitize_accounts_eq : exec (.sanitize tag 1) s = .next (
    if s.ms.lock then s.answered 36 tag .locked []
    else if ¬s.allFree = true then s.answered 36 tag .busy []
    else (requestRegion (wipeAccounts s) .accounts).setUnit (.working 36 tag .region)) := by
  by_cases hl : s.ms.lock = true
  · rw [if_pos hl]
    exact next_of_reply hr (.sanitize 1) (if_pos hl) rfl
  rw [if_neg hl]
  by_cases hf : s.allFree = true
  · rw [if_neg (not_not.mpr hf)]
    refine next_of_long hr (.sanitize 1) ((if_neg hl).trans (if_neg (by simp [hf]))) ?_
    rw [(requestRegion_quiet _ _).li, wipeAccounts_eq]
  · rw [if_pos hf]
    exact next_of_reply hr (.sanitize 1) ((if_neg hl).trans (if_pos (by simp [hf]))) rfl

theorem sanitize_all_busy (hf : ¬s.allFree = true) : exec (.sanitize tag 2) s = .next (s.answered 36 tag .busy []) :=
  next_of_reply hr (.sanitize 2) (if_pos (by simp [hf])) rfl

theorem sanitize_all_eq (hf : s.allFree = true) : exec (.sanitize tag 2) s = .next (
    (requestRegion (unlock (defaultSettings (emptyRing (wipeAccounts (sanitizeKeys s))))) .all).setUnit
      (.working 36 tag .region)) := by
  refine next_of_long hr (.sanitize 2) (if_neg (by simp [hf])) ?_
  have hli (v : State) : (unlock (defaultSettings (emptyRing (wipeAccounts v)))).li = v.li := rfl
  rw [(requestRegion_quiet _ _).li, hli]
  exact (sanitizeKeys_quiet s).li

end

/-- Every setting at its default, the accounts blank, the ring empty and the lock cleared (R160). -/
theorem sanitizedAll_eq (v : State) : unlock (defaultSettings (emptyRing (wipeAccounts v))) = { v with
    acct := { records := Vector.replicate 256 Account.blank, prices := Vector.replicate 7 0, postscale := 8, session := none }
    dm := { v.dm with tables := Vector.replicate 4 ToneTable.default, threshold := 50 }
    tu := { v.tu with policy := .strict, lowMark := 100, step := 1048576, ring := Vector.replicate 16 none,
                      ringDirty := Vector.replicate 16 false, ringNext := 0 }
    sp := { v.sp with egress := Vector.replicate 256 EgressEntry.default }
    ms := { v.ms with lock := false, lockUnsaved := false }
    tb := { v.tb with
      trim := 0
      channels := Vector.ofFn fun c =>
        let x := (v.tb.channels.set 0 v.tb.channels[0].requestStop)[c]
        if x.running ∨ x.stopPending then { x with staged := some defaultChannelSettings[c] }
        else { x with tap := defaultChannelSettings[c].1, period := defaultChannelSettings[c].2, staged := none } } } := by
  have hch (x : Channel) (d : Tap × Nat) : x.settings d.1 d.2 =
      if x.running ∨ x.stopPending then { x with staged := some d } else { x with tap := d.1, period := d.2, staged := none } := by
    simp only [Channel.settings, Bool.or_eq_true]
  simp only [← hch]
  rfl

/-- Settles O29: by the scope. -/
theorem sanitizeScopes : Obligations.SanitizeScopes := by
  intro s tag scope hr busy stopped blank long
  refine ⟨fun h => ?_, ?_⟩
  · refine next_of_reply hr (.sanitize scope) ?_ rfl
    change cmdSanitize scope s = _
    rw [cmdSanitize, SanitizeScope.ofByte_of_ge h]
    rfl
  intro cancelled slotDone
  have hslots : slotDone = sanitizeSlot := funext₂ fun u k => (sanitizeSlot_eq u k).symm
  have hbusy : s.allFree = true ↔ ¬busy := s.allFree_iff
  refine ⟨fun h => ?_, fun h => ?_, fun h => ?_, fun g => requestRegion_eq s g⟩
  · subst h
    refine ⟨sanitizedHandles s, sanitizedHandles_pairwise s, mem_sanitizedHandles s, ?_⟩
    intro u t
    have hnodup : (sanitizedHandles s).Nodup := (sanitizedHandles_pairwise s).imp fun h => (Fin.ne_of_lt h)
    obtain ⟨hfold, -, -, -⟩ := foldl_sanitizeJob hnodup fun h hh => (mem_sanitizedHandles s h).mp hh
    have hu : u = sanitizeJobs s := by
      rw [sanitizeJobs_eq, ← hfold cancelled fun v h hk hf => ?_]
      by_cases hd : (v.job h).state = .draining
      · rw [sanitizeJob_of_draining hk hd]
        simp only [cancelled, if_pos hd]
        rfl
      · rw [sanitizeJob_of_running hk hd hf, voidPagesOf_eq_ite]
        simp only [cancelled, if_neg hd]
        rfl
    have ht : t = sanitizeKeys (sanitizeJobs s) := by rw [sanitizeKeys_eq, ← hu, ← hslots]
    have hjob (h : Fin 16) : (sanitizeKeys (sanitizeJobs s)).job h = (sanitizeJobs s).job h := by
      rw [State.job, (sanitizeKeys_quiet _).frame]
      rfl
    rw [ht]
    refine ⟨sanitize_keys_eq hr tag, fun k => sanitizeJobs_keys, fun h => ?_⟩
    rw [hjob]
    exact sanitizeJobs_job h
  · subst h
    rw [sanitize_accounts_eq hr tag]
    simp only [hbusy, not_not]
    rfl
  · subst h
    refine ⟨fun hb => sanitize_all_busy hr tag fun hf => hbusy.mp hf hb, fun hb => ?_⟩
    intro t
    have hf := hbusy.mpr hb
    have ht : t = sanitizeKeys s := by rw [sanitizeKeys_eq, ← hslots]
    have hheld {k : Fin 64} (hk : (s.key k).state = .active ∨ (s.key k).state = .retained) : (s.key k).KeysHeld :=
      hk.elim .inl fun h => .inr (.inl h)
    refine ⟨?_, fun k hk => ?_⟩
    · rw [sanitize_all_eq hr tag hf, ht]
      have hq := sanitizeKeys_quiet s
      generalize sanitizeKeys s = v at hq
      have htb : v.tb = s.tb := hq.tb
      rw [sanitizedAll_eq, htb]
      rfl
    · rw [ht, sanitizeKeys_eq]
      exact foldl_sanitizeSlot_keys _ (List.mem_finRange k) (hheld hk)

end Sys2Proof.Machine

/-! PROOFS. One cartridge line at a time: a state as another state but for one slot, the status block, the draws and what
has left on the cartridge lines. The operations of the Cartridge Unit are computed in this form. -/

namespace Sys2Proof.Machine

/-! ### The form -/

/-- A state but for the record of slot `c`, the status block, the draws and the requests sent. -/
def State.lined (u : State) (c : Fin 4) (y : Cartridge) (st : Status) (d : Nat) (o : List (Fin 4 × List Byte)) : State :=
  { u with tu := { u.tu with slots := u.tu.slots.set c y }, status := st, draws := d, tagOut := o }

/-- The status block once a condition has been raised. -/
def Status.raised (st : Status) (f : Flag) (time : Nat) (fields : List Val) : Status :=
  if (st.set f).enabled f then (st.set f).formNotice f time fields else st.set f

theorem lined_self (s : State) (c : Fin 4) : s.lined c (s.slot c) s.status s.draws s.tagOut = s := by
  have hset : s.tu.slots.set c (s.slot c) = s.tu.slots := Vector.set_getElem_self _
  rw [State.lined, hset]

theorem setSlot_eq_lined (s : State) (c : Fin 4) (x : Cartridge) :
    s.setSlot c x = s.lined c x s.status s.draws s.tagOut := rfl

section
variable (u : State) (c : Fin 4) (y : Cartridge) (st : Status) (d : Nat) (o : List (Fin 4 × List Byte))

@[simp] theorem slot_lined : (u.lined c y st d o).slot c = y := by
  simp [State.lined, State.slot]

theorem slot_lined_of_ne {b : Fin 4} (ne : b ≠ c) : (u.lined c y st d o).slot b = u.slot b :=
  State.slot_setSlot_of_ne u y ne

@[simp] theorem setSlot_lined (x : Cartridge) : (u.lined c y st d o).setSlot c x = u.lined c x st d o := by
  simp [State.lined, State.setSlot]

@[simp] theorem raise_lined (f : Flag) (v : List Val) :
    (u.lined c y st d o).raise f v = u.lined c y (st.raised f u.tb.seconds v) d o := rfl

@[simp] theorem lined_tu : (u.lined c y st d o).tu = { u.tu with slots := u.tu.slots.set c y } := rfl

@[simp] theorem lined_status : (u.lined c y st d o).status = st := rfl

end

/-! ### The start of the head entry, in two steps -/

/-- The state with the queue refilled from the held requests (R153). -/
def State.refilled (s : State) : State :=
  { s with ms := { s.ms with
      queue := (admitHeld s.ms.writing s.ms.queue s.ms.held).1, held := (admitHeld s.ms.writing s.ms.queue s.ms.held).2 } }

theorem startHead_of_empty {s : State} (hq : s.ms.queue = []) : startHead s = s := by
  rw [startHead, hq]

theorem startHead_of_head {s : State} {e : StoreEntry} {rest : List StoreEntry} (hq : s.ms.queue = e :: rest) :
    startHead s = (startEntry { s with ms := { s.ms with queue := rest } } e).refilled := by
  rw [startHead, hq]
  rfl

/-! ### Taking a store request reads and changes no slot -/

section
variable (s : State) (c : Fin 4) (y : Cartridge) (st : Status) (d : Nat) (o : List (Fin 4 × List Byte))

theorem snapshot_lined (r : Row) (g : Half) : snapshot (s.lined c y st d o) r g =
    ((snapshot s r g).1, (snapshot s r g).2.lined c y st d o) := by
  rw [snapshot, snapshot]
  cases rowOwner r with
  | settings k => dsimp only; split <;> rfl
  | key k =>
    have hk : (s.lined c y st d o).key k = s.key k := rfl
    dsimp only
    rw [hk]
    split <;> rfl
  | _ => rfl

theorem startEntry_lined (e : StoreEntry) :
    startEntry (s.lined c y st d o) e = (startEntry s e).lined c y st d o := by
  rw [startEntry, startEntry]
  cases e.request with
  | commit r g =>
    dsimp only
    rw [snapshot_lined]
    generalize snapshot s r g = p
    obtain ⟨_ | image, s'⟩ := p <;> rfl
  | erase r g => rfl
  | region g => rfl

theorem startHead_lined : startHead (s.lined c y st d o) = (startHead s).lined c y st d o := by
  cases hq : s.ms.queue with
  | nil => rw [startHead_of_empty hq, startHead_of_empty (s := s.lined c y st d o) hq]
  | cons e rest =>
    rw [startHead_of_head hq, startHead_of_head (s := s.lined c y st d o) hq]
    have hstart := startEntry_lined { s with ms := { s.ms with queue := rest } } c y st d o e
    exact (congrArg State.refilled hstart).trans rfl

theorem startIfReady_lined : startIfReady (s.lined c y st d o) = (startIfReady s).lined c y st d o := by
  have hm : (s.lined c y st d o).ms = s.ms := rfl
  rw [startIfReady, startIfReady, hm, startHead_lined]
  split <;> rfl

theorem request_lined (q : StoreRequest) :
    (request (s.lined c y st d o) q).1 = (request s q).1.lined c y st d o := by
  have hm : (s.lined c y st d o).ms = s.ms := rfl
  rw [request, request, hm]
  cases enqueue s.ms.writing s.ms.queue ⟨q, false⟩ with
  | none => rfl
  | some l => exact startIfReady_lined { s with ms := { s.ms with queue := l } } c y st d o

theorem recorded_lined (row : HistoryRow) : (s.lined c y st d o).recorded row = (s.recorded row).lined c y st d o :=
  request_lined { s with tu := { s.tu with
    ring := s.tu.ring.set s.tu.ringNext (some row), ringDirty := s.tu.ringDirty.set s.tu.ringNext true,
    ringNext := s.tu.ringNext + 1 } } c y st d o (.commit (historyRow s.tu.ringNext) 0)

end

end Sys2Proof.Machine

/-! PROOFS. The operations of the Cartridge Unit on one line: checks begin (O31), presence edges (O32), the answers to
IDENTIFY and CHALLENGE (O33), lines without an answer and waiting work (O36). -/

namespace Sys2Proof.Machine

/-! ### The operations in the form of one line -/

section
variable (u : State) (c : Fin 4) (y : Cartridge) (st : Status) (d : Nat) (o : List (Fin 4 × List Byte))

theorem modSlot_lined (f : Cartridge → Cartridge) :
    (u.lined c y st d o).modSlot c f = u.lined c (f y) st d o := by
  rw [State.modSlot, slot_lined, setSlot_lined]

theorem sendRequest_lined (q : TagRequest) (seq : Sequence) : sendRequest (u.lined c y st d o) c q seq =
    u.lined c { y with exchange := some ⟨q, seq, 0⟩ } st d (o ++ [(c, encodeTagRequest q)]) := by
  rw [sendRequest, State.modSlot, slot_lined, setSlot_lined]
  rfl

theorem sendChallenge_lined (seq : Sequence) : sendChallenge (u.lined c y st d o) c seq =
    u.lined c { y with exchange := some ⟨.challenge (Config.randomNonce d), seq, 0⟩ } st (d + 1)
      (o ++ [(c, encodeTagRequest (.challenge (Config.randomNonce d)))]) :=
  sendRequest_lined u c y st (d + 1) o _ seq

theorem sendWrite_lined : sendWrite (u.lined c y st d o) c =
    u.lined c { y with exchange := some ⟨.writeRation y.mirror, .writeBack, 0⟩ } st d
      (o ++ [(c, encodeTagRequest (.writeRation y.mirror))]) := by
  rw [sendWrite, slot_lined, sendRequest_lined]

theorem raiseCartridgeState_lined : raiseCartridgeState (u.lined c y st d o) c =
    u.lined c y (st.raised .cartridgeState u.tb.seconds
      [.u8 c.val, .u8 y.state.code, .opt 1 (y.state.reason?.map RejectReason.code), .opt 8 (y.serial.map BitVec.toNat)]) d o := by
  rw [raiseCartridgeState, slot_lined, raise_lined]

theorem rationLowTest_lined : rationLowTest (u.lined c y st d o) c =
    if y.isLow u.tu.lowMark then
      u.lined c { y with lowReported := true }
        (st.raised .rationLow u.tb.seconds [.u8 c.val, .u64 (y.serial.getD 0), .u32 y.mirror]) d o
    else u.lined c y st d o := by
  have hm : (u.lined c y st d o).tu.lowMark = u.tu.lowMark := rfl
  rw [rationLowTest, slot_lined, hm, setSlot_lined, raise_lined]

/-- The history row of an event at a slot (R116). -/
def historyRowOf (u : State) (c : Fin 4) (y : Cartridge) (event : HistoryEvent) : HistoryRow :=
  { event := event, slot := c, serial := y.serial.getD 0, mirror := y.mirror, insertionTime := y.insertionTime,
    eventTime := u.tb.seconds, developed := y.developed, overdraw := y.overdraw }

theorem appendHistory_lined (event : HistoryEvent) : appendHistory (u.lined c y st d o) c event =
    (u.recorded (historyRowOf u c y event)).lined c y st d o := by
  rw [appendHistory_recorded, slot_lined]
  exact recorded_lined u c y st d o _

theorem recorded_now (row : HistoryRow) : (u.recorded row).tb = u.tb := by
  rw [(u.recorded_step row).frame]

theorem becomeSpent_lined : becomeSpent (u.lined c y st d o) c =
    (u.recorded (historyRowOf u c y .spent)).lined c { y with state := .spent }
      (st.raised .cartridgeState u.tb.seconds [.u8 c.val, .u8 4, .opt 1 none, .opt 8 (y.serial.map BitVec.toNat)]) d o := by
  rw [becomeSpent, modSlot_lined, appendHistory_lined, raiseCartridgeState_lined, recorded_now]
  rfl

/-- The waiting work of a line that is free, by what waits (R105). -/
theorem serveLine_lined : serveLine (u.lined c y st d o) c =
    if y.exchange.isSome then u.lined c y st d o
    else if y.state.verified = false then u.lined c { y with writePending := false, recheckPending := false } st d o
    else if y.writePending then
      u.lined c { y with writePending := false, exchange := some ⟨.writeRation y.mirror, .writeBack, 0⟩ } st d
        (o ++ [(c, encodeTagRequest (.writeRation y.mirror))])
    else if y.recheckPending then
      u.lined c { y with recheckPending := false, exchange := some ⟨.challenge (Config.randomNonce d), .recheck, 0⟩ } st
        (d + 1) (o ++ [(c, encodeTagRequest (.challenge (Config.randomNonce d)))])
    else u.lined c y st d o := by
  simp only [serveLine, slot_lined, setSlot_lined, sendWrite_lined, sendChallenge_lined, Bool.not_eq_true']

end

theorem CartridgeState.verified_iff (x : CartridgeState) : x.verified = true ↔ x = .genuine ∨ x = .spent := by
  cases x <;> simp [CartridgeState.verified]

/-- On a slot that is not GENUINE or SPENT, the waiting work of a free line is cleared unsent. -/
theorem serveLine_of_unverified {u : State} {c : Fin 4} {y : Cartridge} {st : Status} {d : Nat}
    {o : List (Fin 4 × List Byte)} (he : y.exchange = none) (hv : y.state.verified = false) :
    serveLine (u.lined c y st d o) c = u.lined c { y with writePending := false, recheckPending := false } st d o := by
  rw [serveLine_lined, if_neg (by rw [he]; decide), if_pos hv]

/-- A slot whose check ends with the cartridge refused, on a free line. -/
theorem rejectSlot_lined (u : State) (c : Fin 4) {y : Cartridge} (st : Status) (d : Nat) (o : List (Fin 4 × List Byte))
    (r : RejectReason) (he : y.exchange = none) : rejectSlot (u.lined c y st d o) c r =
      u.lined c { y with state := .rejected r, writePending := false, recheckPending := false }
        (st.raised .cartridgeState u.tb.seconds
          [.u8 c.val, .u8 5, .opt 1 (some r.code), .opt 8 (y.serial.map BitVec.toNat)]) d o := by
  rw [rejectSlot, modSlot_lined, raiseCartridgeState_lined, serveLine_of_unverified (y := { y with state := .rejected r }) he rfl]
  rfl

/-! ### RECHECK CARTRIDGE and the start of the full check -/

section
variable {s : State} {c : Fin 4}

theorem requestRecheck_of_free (he : (s.slot c).exchange = none) (hw : (s.slot c).writePending = false) :
    requestRecheck s c = s.lined c { s.slot c with exchange := some ⟨.challenge (Config.randomNonce s.draws), .recheck, 0⟩ }
      s.status (s.draws + 1) (s.tagOut ++ [(c, encodeTagRequest (.challenge (Config.randomNonce s.draws)))]) := by
  have hchallenge := sendChallenge_lined s c (s.slot c) s.status s.draws s.tagOut .recheck
  rw [lined_self] at hchallenge
  rw [requestRecheck, he, hw]
  exact hchallenge

theorem requestRecheck_of_recheck (hbusy : ¬((s.slot c).exchange = none ∧ (s.slot c).writePending = false))
    (hr : ∃ e ∈ (s.slot c).exchange, e.sequence = .recheck) : requestRecheck s c = s := by
  have hfree : ¬((s.slot c).exchange.isNone && !(s.slot c).writePending) = true := by simpa using hbusy
  rw [requestRecheck, if_neg hfree, if_pos (by simpa [Option.any_eq_true] using hr)]

theorem requestRecheck_of_busy (hbusy : ¬((s.slot c).exchange = none ∧ (s.slot c).writePending = false))
    (hr : ¬∃ e ∈ (s.slot c).exchange, e.sequence = .recheck) :
    requestRecheck s c = s.setSlot c { s.slot c with recheckPending := true } := by
  have hfree : ¬((s.slot c).exchange.isNone && !(s.slot c).writePending) = true := by simpa using hbusy
  rw [requestRecheck, if_neg hfree, if_neg (by simpa [Option.any_eq_true] using hr)]

theorem beginCheck_eq : beginCheck s c =
    if (s.slot c).state = .sensed ∧ (s.slot c).exchange = none then
      s.lined c { s.slot c with state := .checking, exchange := some ⟨.identify, .check, 0⟩ } s.status s.draws
        (s.tagOut ++ [(c, encodeTagRequest .identify)])
    else s := by
  rw [beginCheck, State.modSlot, setSlot_eq_lined, sendRequest_lined]

end

/-- Settles O31: by the state of the slot. -/
theorem checksBegin : Obligations.ChecksBegin := by
  refine ⟨fun s tag slot hr => ⟨fun h => ?_, fun c hc => ?_⟩, fun s c => congrArg Host.Outcome.next beginCheck_eq⟩
  · refine next_of_reply hr (.recheckCartridge slot) ?_ rfl
    change cmdRecheckCartridge slot s = _
    rw [cmdRecheckCartridge, indexOf_eq_none h] <;> rfl
  · intro x challenge begun
    have hrecheck : requestRecheck s c =
        if x.exchange = none ∧ x.writePending = false then begun
        else if ∃ e ∈ x.exchange, e.sequence = .recheck then s
        else s.setSlot c { x with recheckPending := true } := by
      by_cases hfree : x.exchange = none ∧ x.writePending = false
      · rw [if_pos hfree]
        exact requestRecheck_of_free hfree.1 hfree.2
      · rw [if_neg hfree]
        by_cases hr : ∃ e ∈ x.exchange, e.sequence = .recheck
        · rw [if_pos hr]; exact requestRecheck_of_recheck hfree hr
        · rw [if_neg hr]; exact requestRecheck_of_busy hfree hr
    have hcmd : cmdRecheckCartridge slot s =
        match x.state with
        | .genuine | .spent => (requestRecheck s c).ok []
        | .rejected _ | .mute =>
          if x.exchange.isNone then (s.modSlot c fun x => { x with state := .sensed }).ok [] else s.refuse .busy
        | .sensed | .checking => s.refuse .busy
        | .empty => s.refuse .noEntry := by
      rw [cmdRecheckCartridge, indexOf_eq_some hc] <;> rfl
    have hli : (requestRecheck s c).li = s.li := (requestRecheck_step s c).quiet.li
    rw [← hrecheck]
    have hrefused (hcmd : cmdRecheckCartridge slot s =
        if x.exchange.isNone then (s.setSlot c { x with state := .sensed }).ok [] else s.refuse .busy) :
        exec (.recheckCartridge tag slot) s = .next (
          if x.exchange = none then (s.setSlot c { x with state := .sensed }).answered 25 tag .ok []
          else s.answered 25 tag .busy []) := by
      by_cases he : x.exchange = none
      · rw [if_pos he]
        rw [if_pos (Option.isNone_iff_eq_none.2 he)] at hcmd
        exact next_of_reply hr (.recheckCartridge slot) hcmd rfl
      · rw [if_neg he]
        rw [if_neg (mt Option.isNone_iff_eq_none.1 he)] at hcmd
        exact next_of_reply hr (.recheckCartridge slot) hcmd rfl
    cases hx : x.state with
    | genuine => rw [hx] at hcmd; exact next_of_reply hr (.recheckCartridge slot) hcmd hli
    | spent => rw [hx] at hcmd; exact next_of_reply hr (.recheckCartridge slot) hcmd hli
    | rejected r => rw [hx] at hcmd; exact hrefused hcmd
    | mute => rw [hx] at hcmd; exact hrefused hcmd
    | sensed => rw [hx] at hcmd; exact next_of_reply hr (.recheckCartridge slot) hcmd rfl
    | checking => rw [hx] at hcmd; exact next_of_reply hr (.recheckCartridge slot) hcmd rfl
    | empty => rw [hx] at hcmd; exact next_of_reply hr (.recheckCartridge slot) hcmd rfl

/-! ### The presence edges -/

theorem raiseChange_lined (u : State) (c : Fin 4) (y : Cartridge) (st : Status) (d : Nat) (o : List (Fin 4 × List Byte)) :
    raiseChange (u.lined c y st d o) c = u.lined c { y with changed := y.level != y.latch }
      (st.raised .cartridgeChange u.tb.seconds [.u8 c.val, .flag y.level]) d o := by
  rw [raiseChange, slot_lined, setSlot_lined, raise_lined]

/-- The record of a slot into which a cartridge has been put (R100). -/
def Cartridge.inserted (x : Cartridge) (time : Nat) : Cartridge :=
  { x.cleared with level := true, debounce := 0, insertions := satAdd max16 x.insertions 1, insertionTime := time,
                   residue := 0, state := .sensed }

theorem debouncedRise_lined (u : State) (c : Fin 4) (y : Cartridge) (st : Status) (d : Nat) (o : List (Fin 4 × List Byte)) :
    debouncedRise (u.lined c y st d o) c = u.lined c { y.inserted u.tb.seconds with changed := !y.latch }
      (st.raised .cartridgeChange u.tb.seconds [.u8 c.val, .flag true]) d o := by
  rw [debouncedRise, modSlot_lined, raiseChange_lined]
  have hchanged : (true != y.latch) = !y.latch := Bool.true_bne _
  exact congrArg (fun b => u.lined c { y.inserted u.tb.seconds with changed := b } _ d o) hchanged

/-- The record of a slot that has been emptied (R101). -/
def Cartridge.emptied (x : Cartridge) : Cartridge :=
  { x with level := false, debounce := 0, exchange := none, writePending := false, recheckPending := false, state := .empty }

theorem debouncedFall_lined (u : State) (c : Fin 4) (y : Cartridge) (st : Status) (d : Nat) (o : List (Fin 4 × List Byte)) :
    debouncedFall (u.lined c y st d o) c =
      (if y.state = .genuine ∨ y.state = .spent then u.recorded (historyRowOf u c y .removed) else u).lined c
        { y.emptied with changed := y.latch } (st.raised .cartridgeChange u.tb.seconds [.u8 c.val, .flag false]) d o := by
  have hchanged : (false != y.latch) = y.latch := Bool.false_bne _
  have hrow : historyRowOf u c { y with level := false, debounce := 0 } .removed = historyRowOf u c y .removed := rfl
  rw [debouncedFall, slot_lined, modSlot_lined, appendHistory_lined, hrow]
  by_cases hv : y.state = .genuine ∨ y.state = .spent
  · rw [if_pos hv, if_pos ((CartridgeState.verified_iff _).2 hv), modSlot_lined, raiseChange_lined, recorded_now]
    exact congrArg (fun b => (u.recorded _).lined c { y.emptied with changed := b } _ d o) hchanged
  · rw [if_neg hv, if_neg (mt (CartridgeState.verified_iff _).1 hv), modSlot_lined, raiseChange_lined]
    exact congrArg (fun b => u.lined c { y.emptied with changed := b } _ d o) hchanged

/-- A history row appended or not, then a slot written and a condition raised, in the form of one line. -/
theorem emptied_raise (s : State) (c : Fin 4) (x low z : Cartridge) (row : HistoryRow) (v : List Val) :
    ((if x.state = .genuine ∨ x.state = .spent then (s.setSlot c low).recorded row else s.setSlot c low).setSlot c z).raise
      .cartridgeChange v = (if x.state = .genuine ∨ x.state = .spent then s.recorded row else s).lined c z
        (s.status.raised .cartridgeChange s.tb.seconds v) s.draws s.tagOut := by
  rw [setSlot_eq_lined s c low, recorded_lined]
  by_cases hv : x.state = .genuine ∨ x.state = .spent
  · rw [if_pos hv, if_pos hv, setSlot_lined, raise_lined, recorded_now]
  · rw [if_neg hv, if_neg hv, setSlot_lined, raise_lined]

/-- Settles O32: both edges in the form of one line. -/
theorem presenceEdges : Obligations.PresenceEdges := by
  intro s c x
  constructor
  · refine congrArg Host.Outcome.next ?_
    rw [riseEvent]
    by_cases hlevel : (s.slot c).level = true
    · rw [if_pos hlevel]; exact (if_pos hlevel).symm
    · rw [if_neg hlevel]
      refine Eq.trans ?_ (if_neg hlevel).symm
      rw [State.modSlot, setSlot_eq_lined, debouncedRise_lined]
      rfl
  · refine congrArg Host.Outcome.next ?_
    rw [fallEvent]
    by_cases hlevel : (s.slot c).level = true
    · rw [if_pos hlevel]
      refine Eq.trans ?_ (if_pos hlevel).symm
      rw [State.modSlot, setSlot_eq_lined, debouncedFall_lined]
      exact (emptied_raise s c _ _ _ _ _).symm
    · rw [if_neg hlevel]; exact (if_neg hlevel).symm

/-! ### The answers to IDENTIFY and CHALLENGE -/

section
variable {s : State} {c : Fin 4}

theorem takeAnswer_identify {serial : Dword} {colorant : Byte} {model : Half} {rated : Word} {e : Exchange}
    (he : (s.slot c).exchange = some e) (hq : e.request = .identify) :
    takeAnswer s c (.identify serial colorant model rated) = takeIdentify s c serial ⟨colorant, model⟩ rated.toNat := by
  obtain ⟨q, seq, n⟩ := e
  subst hq
  simp only [takeAnswer, he]

theorem takeAnswer_challenge {response nonce : Dword} {e : Exchange}
    (he : (s.slot c).exchange = some e) (hq : e.request = .challenge nonce) :
    takeAnswer s c (.challenge response) = takeChallenge s c nonce response e.sequence := by
  obtain ⟨q, seq, n⟩ := e
  subst hq
  simp only [takeAnswer, he]

/-- An answer to IDENTIFY that no exchange waits for is discarded. -/
theorem takeAnswer_identify_of_none {serial : Dword} {colorant : Byte} {model : Half} {rated : Word}
    (h : ∀ e ∈ (s.slot c).exchange, e.request ≠ .identify) :
    takeAnswer s c (.identify serial colorant model rated) = s := by
  unfold takeAnswer
  split
  · next he _ => exact absurd rfl (h _ he)
  · next hanswer => cases hanswer
  · next hanswer => cases hanswer
  · next hanswer => cases hanswer
  · next hanswer => cases hanswer
  · rfl

/-- An answer to CHALLENGE that no exchange waits for is discarded. -/
theorem takeAnswer_challenge_of_none {response : Dword}
    (h : ∀ e ∈ (s.slot c).exchange, ∀ n, e.request ≠ .challenge n) : takeAnswer s c (.challenge response) = s := by
  unfold takeAnswer
  split
  · next hanswer => cases hanswer
  · next he _ => exact absurd rfl (h _ he _)
  · next hanswer => cases hanswer
  · next hanswer => cases hanswer
  · next hanswer => cases hanswer
  · rfl

/-- The record of a slot whose cartridge has told its identity. -/
def Cartridge.identified (x : Cartridge) (serial : Dword) (model : ModelCode) (rated : Nat) : Cartridge :=
  { x with serial := some serial, model := some model, ratedYield := rated, exchange := none }

theorem goodResponse_iff {nonce response : Dword} : goodResponse s c nonce response = true ↔
    ∃ secret, s.tu.masterSecret = some secret ∧
      response = Config.tagHash (Config.tagKey secret ((s.slot c).serial.getD 0)) nonce ((s.slot c).serial.getD 0) := by
  rw [goodResponse]
  cases s.tu.masterSecret <;> simp

end

/-- Settles O33: the identity recorded over the cleared fields where the continuity test fails, then the colorant; the
response compared under the tag key. -/
theorem identifyAndChallengeAnswered : Obligations.IdentifyAndChallengeAnswered := by
  constructor
  · intro s c serial colorant model rated x answered
    refine ⟨fun h => congrArg Host.Outcome.next (takeAnswer_identify_of_none h), fun e he hq => ?_⟩
    intro same kept y challenge
    have hanswered : answered = .next (takeIdentify s c serial ⟨colorant, model⟩ rated.toNat) :=
      congrArg Host.Outcome.next (takeAnswer_identify he hq)
    have hy : { (if x.rationKnown && x.serial == some serial then x else x.cleared) with
        serial := some serial, model := some ⟨colorant, model⟩, ratedYield := rated.toNat, exchange := none } = y := by
      by_cases hsame : same
      · have hkept : (if x.rationKnown && x.serial == some serial then x else x.cleared) = kept :=
          (if_pos (by simpa using hsame)).trans (if_pos hsame).symm
        exact congrArg (Cartridge.identified · serial ⟨colorant, model⟩ rated.toNat) hkept
      · have hcleared : (if x.rationKnown && x.serial == some serial then x else x.cleared) = x.cleared :=
          if_neg (by simpa [same] using hsame)
        have hkept : kept = _ := if_neg hsame
        exact (congrArg (Cartridge.identified · serial ⟨colorant, model⟩ rated.toNat) hcleared).trans
          (congrArg (Cartridge.identified · serial ⟨colorant, model⟩ rated.toNat) hkept).symm
    have htake : takeIdentify s c serial ⟨colorant, model⟩ rated.toNat =
        if colorant.toNat = c.val then sendChallenge (s.lined c y s.status s.draws s.tagOut) c .check
        else rejectSlot (s.lined c y s.status s.draws s.tagOut) c .wrongSlot := by
      rw [← hy]; rfl
    rw [hanswered, htake]
    constructor
    · intro hcolor
      rw [if_pos hcolor, sendChallenge_lined]
      rfl
    · intro hcolor
      rw [if_neg hcolor, rejectSlot_lined s c s.status s.draws s.tagOut .wrongSlot rfl]
      rfl
  · intro s c response x answered
    refine ⟨fun h => congrArg Host.Outcome.next (takeAnswer_challenge_of_none h), fun e nonce he hq => ?_⟩
    intro good
    have htake : answered = .next (if goodResponse s c nonce response = true
        then sendRequest (s.lined c { x with exchange := none } s.status s.draws s.tagOut) c .readRation e.sequence
        else rejectSlot (s.lined c { x with exchange := none } s.status s.draws s.tagOut) c .badResponse) :=
      congrArg Host.Outcome.next (takeAnswer_challenge he hq)
    rw [htake]
    constructor
    · intro hgood
      rw [if_pos (goodResponse_iff.2 hgood), sendRequest_lined]
      rfl
    · intro hbad
      rw [if_neg (mt goodResponse_iff.1 hbad), rejectSlot_lined s c s.status s.draws s.tagOut .badResponse rfl]
      rfl

/-! ### A line without an answer, and waiting work -/

theorem exchangeLimit_lined (u : State) (c : Fin 4) (y : Cartridge) (st : Status) (d : Nat) (o : List (Fin 4 × List Byte)) :
    exchangeLimit (u.lined c y st d o) c =
      if y.exchange = none then u.lined c y st d o
      else u.lined c { y with state := .mute, exchange := none, writePending := false, recheckPending := false }
        (st.raised .cartridgeState u.tb.seconds [.u8 c.val, .u8 6, .opt 1 none, .opt 8 (y.serial.map BitVec.toNat)]) d o := by
  rw [exchangeLimit, slot_lined]
  cases he : y.exchange with
  | none => rfl
  | some e =>
    rw [if_pos Option.isSome_some, if_neg (Option.some_ne_none e), modSlot_lined, raiseCartridgeState_lined,
      serveLine_of_unverified (y := { y with state := .mute, exchange := none }) rfl rfl]
    rfl

/-- Settles O36: both rows in the form of one line. -/
theorem linesServed : Obligations.LinesServed := by
  intro s c x
  have hself : s = s.lined c x s.status s.draws s.tagOut := (lined_self s c).symm
  constructor
  · have h := exchangeLimit_lined s c x s.status s.draws s.tagOut
    rw [← hself] at h
    exact congrArg Host.Outcome.next h
  · have h := serveLine_lined s c x s.status s.draws s.tagOut
    rw [← hself] at h
    refine congrArg Host.Outcome.next (h.trans ?_)
    by_cases he : x.exchange = none
    · have hnone : ¬x.exchange.isSome = true := by rw [he]; decide
      rw [if_neg hnone]
      refine Eq.trans ?_ (if_neg (fun hne => hne he)).symm
      by_cases hv : x.state ≠ .genuine ∧ x.state ≠ .spent
      · have hver : x.state.verified = false := by
          rw [← Bool.not_eq_true, CartridgeState.verified_iff]; exact fun hor => hor.elim hv.1 hv.2
        rw [if_pos hver, if_pos hv]
        rfl
      · have hver : ¬x.state.verified = false := by
          rw [Bool.not_eq_false, CartridgeState.verified_iff]
          exact (Decidable.not_and_iff_not_or_not.1 hv).imp Decidable.not_not.1 Decidable.not_not.1
        rw [if_neg hver, if_neg hv]
        rfl
    · have hsome : x.exchange.isSome = true := Option.isSome_iff_ne_none.2 he
      rw [if_pos hsome]
      exact (if_pos he).symm

end Sys2Proof.Machine

/-! PROOFS. The answers that carry a ration: the end of a full check (O34), of a recheck, and of a write (O35). -/

namespace Sys2Proof.Machine

section
variable (u : State) (c : Fin 4) (y : Cartridge) (st : Status) (d : Nat) (o : List (Fin 4 × List Byte))

/-! ### The write-back test and the waiting work after it -/

theorem writeBackTest_of_not_due (h : ¬u.tu.step ≤ y.confirmed - y.mirror) :
    writeBackTest (u.lined c y st d o) c = u.lined c y st d o := by
  have hdue : ¬(y.state.verified && (u.tu.step ≤ y.confirmed - y.mirror)) = true := by simp [h]
  rw [writeBackTest, slot_lined]
  exact if_neg hdue

theorem writeBackTest_of_due (hv : y.state.verified = true) (h : u.tu.step ≤ y.confirmed - y.mirror) :
    writeBackTest (u.lined c y st d o) c =
      match y.exchange with
      | none => sendWrite (u.lined c y st d o) c
      | some ⟨.writeRation _, _, _⟩ => u.lined c y st d o
      | some _ => u.lined c { y with writePending := true } st d o := by
  have hdue : (y.state.verified && (u.tu.step ≤ y.confirmed - y.mirror)) = true := by simp [hv, h]
  rw [writeBackTest, slot_lined]
  refine (if_pos hdue).trans ?_
  rw [setSlot_lined] <;> rfl

theorem writeBackTest_of_free (hv : y.state.verified = true) (h : u.tu.step ≤ y.confirmed - y.mirror)
    (he : y.exchange = none) : writeBackTest (u.lined c y st d o) c =
      u.lined c { y with exchange := some ⟨.writeRation y.mirror, .writeBack, 0⟩ } st d
        (o ++ [(c, encodeTagRequest (.writeRation y.mirror))]) := by
  rw [writeBackTest_of_due u c y st d o hv h, he]
  exact sendWrite_lined u c y st d o

theorem serveLine_of_busy (he : y.exchange ≠ none) : serveLine (u.lined c y st d o) c = u.lined c y st d o := by
  rw [serveLine_lined, if_pos (Option.isSome_iff_ne_none.2 he)]

/-- What a line freed by an answer does next on a verified slot: the write-back test where `test` says it is made, then the
waiting work, a write before a recheck (R105, R111). -/
theorem serveLine_after_test (test : Prop) [Decidable test] (he : y.exchange = none) (hv : y.state.verified = true) :
    ∃ ex w r d' o', serveLine (if test then writeBackTest (u.lined c y st d o) c else u.lined c y st d o) c =
        u.lined c { y with exchange := ex, writePending := w, recheckPending := r } st d' o' ∧
      (test ∧ u.tu.step ≤ y.confirmed - y.mirror ∨ y.writePending = true →
        ex = some ⟨.writeRation y.mirror, .writeBack, 0⟩) ∧
      (¬(test ∧ u.tu.step ≤ y.confirmed - y.mirror) →
        (y.writePending = true → w = false) ∧
        (y.writePending = false → y.recheckPending = true →
          ex = some ⟨.challenge (Config.randomNonce d), .recheck, 0⟩ ∧ r = false) ∧
        (y.writePending = false → y.recheckPending = false → ex = none)) := by
  by_cases hdue : test ∧ u.tu.step ≤ y.confirmed - y.mirror
  · refine ⟨_, y.writePending, y.recheckPending, d, o ++ [(c, encodeTagRequest (.writeRation y.mirror))], ?_,
      fun _ => rfl, fun h => absurd hdue h⟩
    rw [if_pos hdue.1, writeBackTest_of_free u c y st d o hv hdue.2 he, serveLine_of_busy _ _ _ _ _ _ (Option.some_ne_none _)]
  · have htest : (if test then writeBackTest (u.lined c y st d o) c else u.lined c y st d o) = u.lined c y st d o := by
      by_cases ht : test
      · rw [if_pos ht, writeBackTest_of_not_due u c y st d o fun h => hdue ⟨ht, h⟩]
      · rw [if_neg ht]
    have hnone : ¬y.exchange.isSome = true := by rw [he]; decide
    rw [htest, serveLine_lined, if_neg hnone, if_neg (by rw [hv]; decide)]
    by_cases hw : y.writePending = true
    · rw [if_pos hw]
      exact ⟨_, false, y.recheckPending, d, _, rfl, fun _ => rfl,
        fun _ => ⟨fun _ => rfl, fun h => absurd (hw.symm.trans h) (by decide), fun h => absurd (hw.symm.trans h) (by decide)⟩⟩
    · rw [if_neg hw]
      by_cases hr : y.recheckPending = true
      · rw [if_pos hr]
        exact ⟨_, y.writePending, false, d + 1, _, rfl, fun h => absurd h (not_or.2 ⟨hdue, hw⟩),
          fun _ => ⟨fun h => absurd h hw, fun _ _ => ⟨rfl, rfl⟩, fun _ h => absurd (hr.symm.trans h) (by decide)⟩⟩
      · rw [if_neg hr]
        exact ⟨y.exchange, y.writePending, y.recheckPending, d, o, rfl, fun h => absurd h (not_or.2 ⟨hdue, hw⟩),
          fun _ => ⟨fun h => absurd h hw, fun _ h => absurd h hr, fun _ _ => he⟩⟩

end

/-! ### A mirror that falls -/

theorem Cartridge.isLow_iff (y : Cartridge) (mark : Nat) :
    y.isLow mark = true ↔ y.mirror * 1000 < mark * y.ratedYield ∧ y.lowReported = false := by
  simp [Cartridge.isLow]

/-- The status block once a slot has become SPENT, where it does. -/
def Status.toldSpent (st : Status) (spent : Prop) [Decidable spent] (time : Nat) (c : Fin 4) (y : Cartridge) : Status :=
  if spent then
    st.raised .cartridgeState time [.u8 c.val, .u8 4, .opt 1 none, .opt 8 (y.serial.map BitVec.toNat)]
  else st

/-- The status block once RATION LOW has been tested, where it passes. -/
def Status.toldLow (st : Status) (low : Prop) [Decidable low] (time : Nat) (c : Fin 4) (y : Cartridge) : Status :=
  if low then st.raised .rationLow time [.u8 c.val, .u64 (y.serial.getD 0), .u32 y.mirror] else st

theorem becomeSpentIf_lined (u : State) (c : Fin 4) (y : Cartridge) (st : Status) (d : Nat) (o : List (Fin 4 × List Byte))
    (spent : Prop) [Decidable spent] :
    (if spent then becomeSpent (u.lined c y st d o) c else u.lined c y st d o) =
      (if spent then u.recorded (historyRowOf u c y .spent) else u).lined c
        { y with state := if spent then .spent else y.state } (st.toldSpent spent u.tb.seconds c y) d o := by
  by_cases h : spent
  · rw [if_pos h, if_pos h, if_pos h, Status.toldSpent, if_pos h, becomeSpent_lined]
  · rw [if_neg h, if_neg h, if_neg h, Status.toldSpent, if_neg h]

theorem rationLowIf_lined (u : State) (c : Fin 4) (y : Cartridge) (st : Status) (d : Nat) (o : List (Fin 4 × List Byte))
    (tested : Prop) [Decidable tested] :
    (if tested then rationLowTest (u.lined c y st d o) c else u.lined c y st d o) =
      u.lined c { y with lowReported := decide (tested ∧ y.isLow u.tu.lowMark = true) || y.lowReported }
        (st.toldLow (tested ∧ y.isLow u.tu.lowMark = true) u.tb.seconds c y) d o := by
  rw [rationLowTest_lined]
  by_cases h : tested
  · by_cases hl : y.isLow u.tu.lowMark = true
    · rw [if_pos h, if_pos hl, Status.toldLow, if_pos (And.intro h hl), decide_eq_true (And.intro h hl), Bool.true_or]
    · have hn : ¬(tested ∧ y.isLow u.tu.lowMark = true) := fun hp => hl hp.2
      rw [if_pos h, if_neg hl, Status.toldLow, if_neg hn, decide_eq_false hn, Bool.false_or]
  · have hn : ¬(tested ∧ y.isLow u.tu.lowMark = true) := fun hp => h hp.1
    rw [if_neg h, Status.toldLow, if_neg hn, decide_eq_false hn, Bool.false_or]

/-! ### What the answers leave unchanged -/

section
variable (s : State) (c : Fin 4) (z : Cartridge) (st : Status) (d : Nat) (o : List (Fin 4 × List Byte)) (row : HistoryRow)

/-- The state in which a slot's event is told: with its history row where the slot became SPENT. -/
def State.recordedIf (spent : Prop) [Decidable spent] : State := if spent then s.recorded row else s

theorem recordedIf_frame (spent : Prop) [Decidable spent] : s.recordedIf row spent =
    { s with
      ms := (s.recordedIf row spent).ms
      acct := { s.acct with records := (s.recordedIf row spent).acct.records }
      tu := { s.tu with
        ring := (s.recordedIf row spent).tu.ring, ringDirty := (s.recordedIf row spent).tu.ringDirty
        ringNext := (s.recordedIf row spent).tu.ringNext } } := by
  rw [State.recordedIf]
  by_cases h : spent
  · rw [if_pos h]
    conv_lhs => rw [(s.recorded_step row).frame]
    rw [(s.recorded_step row).frame]
  · rw [if_neg h]

theorem recordedIf_money (spent : Prop) [Decidable spent] (i : Fin 256) :
    ((s.recordedIf row spent).account i).sameMoney (s.account i) := by
  rw [State.recordedIf]
  by_cases h : spent
  · rw [if_pos h]; exact (s.recorded_step row).money i
  · rw [if_neg h]

theorem recordedIf_memory (spent : Prop) [Decidable spent] : (s.recordedIf row spent).ms.memory = s.ms.memory := by
  rw [State.recordedIf]
  by_cases h : spent
  · rw [if_pos h]; exact (s.recorded_step row).memory
  · rw [if_neg h]

/-- Another slot, the money, and every table but the store and the status block keep their state. -/
theorem lined_recordedIf_kept (spent : Prop) [Decidable spent] :
    let t := (s.recordedIf row spent).lined c z st d o
    (∀ b, b ≠ c → t.slot b = s.slot b) ∧ (∀ i, (t.account i).sameMoney (s.account i)) ∧
      t.li = s.li ∧ t.cu = s.cu ∧ t.jt = s.jt ∧ t.pp = s.pp ∧ t.dm = s.dm ∧ t.st = s.st ∧ t.sp = s.sp ∧ t.kt = s.kt ∧
      t.tb = s.tb ∧ t.ms.memory = s.ms.memory ∧ t.pending = s.pending := by
  have hf := recordedIf_frame s row spent
  refine ⟨fun b ne => ?_, recordedIf_money s row spent, ?_, ?_, ?_, ?_, ?_, ?_, ?_, ?_, ?_,
    recordedIf_memory s row spent, ?_⟩
  · rw [slot_lined_of_ne _ _ _ _ _ _ ne, hf]
    rfl
  all_goals rw [hf]; rfl

end

theorem recordedIf_congr (s : State) {row row' : HistoryRow} {spent : Prop} [Decidable spent]
    (h : spent → row = row') : s.recordedIf row spent = s.recordedIf row' spent := by
  by_cases hs : spent
  · rw [h hs]
  · rw [State.recordedIf, State.recordedIf, if_neg hs, if_neg hs]

theorem recordedIf_step (s : State) (row : HistoryRow) (spent : Prop) [Decidable spent] :
    (s.recordedIf row spent).tu.step = s.tu.step := by
  rw [recordedIf_frame]

/-! ### The end of a full check -/

theorem takeAnswer_check {s : State} {c : Fin 4} {ration : Word} {count : Half} {e : Exchange}
    (he : (s.slot c).exchange = some e) (hq : e.request = .readRation) (hseq : e.sequence = .check) :
    takeAnswer s c (.readRation ration count) = finishCheck (recordWriteCount s c count) c ration.toNat := by
  obtain ⟨q, seq, n⟩ := e
  subst hq hseq
  simp only [takeAnswer, he]

theorem takeAnswer_recheck {s : State} {c : Fin 4} {ration : Word} {count : Half} {e : Exchange}
    (he : (s.slot c).exchange = some e) (hq : e.request = .readRation) (hseq : e.sequence ≠ .check) :
    takeAnswer s c (.readRation ration count) = finishRecheck (recordWriteCount s c count) c ration.toNat := by
  obtain ⟨q, seq, n⟩ := e
  subst hq
  cases seq with
  | check => exact absurd rfl hseq
  | recheck => simp only [takeAnswer, he]
  | writeBack => simp only [takeAnswer, he]

theorem takeAnswer_write {s : State} {c : Fin 4} {ration : Word} {count : Half} {e : Exchange} {v : Nat}
    (he : (s.slot c).exchange = some e) (hq : e.request = .writeRation v) :
    takeAnswer s c (.writeRation ration count) = takeWrite (recordWriteCount s c count) c ration.toNat := by
  obtain ⟨q, seq, n⟩ := e
  subst hq
  simp only [takeAnswer, he]

/-- The record of a slot whose ration has been read, before its state is set (R106). -/
def Cartridge.rationed (x : Cartridge) (count r m : Nat) : Cartridge :=
  { x with writeCount := count, mirror := m, confirmed := r, rationKnown := true, exchange := none }

/-- The end of a full check before the write-back test: SPENT at a mirror of 0, GENUINE and tested for RATION LOW
otherwise. -/
theorem checkEnded_lined (s : State) (c : Fin 4) (y : Cartridge) :
    (if y.mirror = 0 then becomeSpent (s.lined c y s.status s.draws s.tagOut) c
      else raiseCartridgeState (rationLowTest
        ((s.lined c y s.status s.draws s.tagOut).modSlot c fun y => { y with state := .genuine }) c) c) =
      (s.recordedIf (historyRowOf s c y .spent) (y.mirror = 0)).lined c
        { y with
          state := if y.mirror = 0 then .spent else .genuine
          lowReported := decide (y.mirror ≠ 0 ∧ y.isLow s.tu.lowMark = true) || y.lowReported }
        ((s.status.toldLow (y.mirror ≠ 0 ∧ y.isLow s.tu.lowMark = true) s.tb.seconds c y).raised .cartridgeState s.tb.seconds
          [.u8 c.val, .u8 (if y.mirror = 0 then 4 else 3), .opt 1 none, .opt 8 (y.serial.map BitVec.toNat)])
        s.draws s.tagOut := by
  by_cases hm : y.mirror = 0
  · have hlow : ¬(y.mirror ≠ 0 ∧ y.isLow s.tu.lowMark = true) := fun h => h.1 hm
    rw [if_pos hm, if_pos hm, if_pos hm, State.recordedIf, if_pos hm, Status.toldLow, if_neg hlow, decide_eq_false hlow,
      Bool.false_or, becomeSpent_lined]
  · have hlow := rationLowIf_lined s c { y with state := .genuine } s.status s.draws s.tagOut (y.mirror ≠ 0)
    rw [if_pos hm] at hlow
    rw [if_neg hm, if_neg hm, if_neg hm, State.recordedIf, if_neg hm, modSlot_lined, hlow, raiseCartridgeState_lined]
    rfl

/-- Settles O34: the slot after the answer, then the write-back test and the waiting work of the line it leaves. -/
theorem checkEnds : Obligations.CheckEnds := by
  intro s c ration count e he hq hseq x r m low row u told
  let y := x.rationed count.toNat r m
  have hy : y.mirror = m := rfl
  have hrow (hm : y.mirror = 0) : historyRowOf s c y .spent = row := by
    rw [historyRowOf, hm]; rfl
  have hu : s.recordedIf (historyRowOf s c y .spent) (y.mirror = 0) = u := recordedIf_congr s hrow
  have htake := checkEnded_lined s c y
  rw [hu] at htake
  obtain ⟨ex, w, r', d', o', hserve, hwrite, hrest⟩ := serveLine_after_test u c
    { y with
      state := if y.mirror = 0 then .spent else .genuine
      lowReported := decide (y.mirror ≠ 0 ∧ y.isLow s.tu.lowMark = true) || y.lowReported }
    ((s.status.toldLow (y.mirror ≠ 0 ∧ y.isLow s.tu.lowMark = true) s.tb.seconds c y).raised .cartridgeState s.tb.seconds
      [.u8 c.val, .u8 (if y.mirror = 0 then 4 else 3), .opt 1 none, .opt 8 (y.serial.map BitVec.toNat)])
    s.draws s.tagOut (x.rationKnown = true) rfl (by by_cases hm : y.mirror = 0 <;> simp [hm, CartridgeState.verified])
  have hstep : u.tu.step = s.tu.step := recordedIf_step s row (m = 0)
  have hlow : y.mirror ≠ 0 ∧ y.isLow s.tu.lowMark = true ↔ low := by
    rw [Cartridge.isLow_iff, Nat.pos_iff_ne_zero.symm]; exact Iff.rfl
  have hfinish : finishCheck (recordWriteCount s c count) c ration.toNat =
      serveLine (if x.rationKnown = true
        then writeBackTest (if y.mirror = 0 then becomeSpent (s.lined c y s.status s.draws s.tagOut) c
          else raiseCartridgeState (rationLowTest
            ((s.lined c y s.status s.draws s.tagOut).modSlot c fun y => { y with state := .genuine }) c) c) c
        else if y.mirror = 0 then becomeSpent (s.lined c y s.status s.draws s.tagOut) c
          else raiseCartridgeState (rationLowTest
            ((s.lined c y s.status s.draws s.tagOut).modSlot c fun y => { y with state := .genuine }) c) c) c := by
    rw [finishCheck, recordWriteCount, State.modSlot, setSlot_eq_lined, slot_lined, setSlot_lined]
    rfl
  rw [htake, hserve] at hfinish
  refine ⟨_, congrArg Host.Outcome.next ((takeAnswer_check he hq hseq).trans hfinish), ?_⟩
  rw [slot_lined]
  refine ⟨rfl, rfl, rfl, rfl, rfl, ?_, ?_, rfl, rfl, rfl, fun hk hd => ?_, fun hnot hw hr => ?_, rfl, rfl, rfl,
    lined_recordedIf_kept s c _ _ _ _ row (m = 0)⟩
  · rw [lined_status]
    by_cases hl : low
    · have htold : told = _ := congrArg (fun t => State.raise t .cartridgeState _) (if_pos hl)
      rw [htold, Status.toldLow, if_pos (hlow.2 hl)]
      rfl
    · have htold : told = _ := congrArg (fun t => State.raise t .cartridgeState _) (if_neg hl)
      rw [htold, Status.toldLow, if_neg (mt hlow.1 hl)]
      rfl
  · exact Bool.or_eq_true .. ▸ or_congr (decide_eq_true_iff.trans hlow) Iff.rfl
  · exact hwrite (Or.inl ⟨hk, hstep ▸ hd⟩)
  · refine (hrest fun hdue => ?_).2.2 hw hr
    rw [hstep] at hdue
    exact hnot.elim (fun hk => absurd (hdue.1.symm.trans hk) (by decide)) (fun hlt => absurd hdue.2 (Nat.not_le.2 hlt))

/-! ### The end of a recheck, and the answer to a write -/

section
variable {s : State} {c : Fin 4} {y : Cartridge} {lowered zero spent low : Prop} [Decidable lowered] [Decidable zero]
  [Decidable spent] [Decidable low] {row : HistoryRow}

/-- A mirror lowered by an answer: SPENT where it reaches 0 on a GENUINE slot, then the RATION LOW test. -/
theorem loweredMirror_lined (hspent : spent ↔ lowered ∧ zero) (hlow : low ↔ lowered ∧ y.isLow s.tu.lowMark = true)
    (hrow : spent → historyRowOf s c y .spent = row) :
    (if lowered then rationLowTest (if zero then becomeSpent (s.lined c y s.status s.draws s.tagOut) c
        else s.lined c y s.status s.draws s.tagOut) c
      else s.lined c y s.status s.draws s.tagOut) =
      (s.recordedIf row spent).lined c
        { y with state := if spent then .spent else y.state, lowReported := decide low || y.lowReported }
        ((s.status.toldSpent spent s.tb.seconds c y).toldLow low s.tb.seconds c y) s.draws s.tagOut := by
  have hbecome := becomeSpentIf_lined s c y s.status s.draws s.tagOut spent
  have htest := rationLowIf_lined (s.recordedIf row spent) c { y with state := if spent then .spent else y.state }
    (s.status.toldSpent spent s.tb.seconds c y) s.draws s.tagOut lowered
  have hmark : (s.recordedIf row spent).tu.lowMark = s.tu.lowMark := by rw [recordedIf_frame]
  have htime : (s.recordedIf row spent).tb = s.tb := by rw [recordedIf_frame]
  have hlow' : (lowered ∧ Cartridge.isLow { y with state := if spent then .spent else y.state } s.tu.lowMark = true) = low :=
    (propext hlow).symm
  have hafter : (if lowered then rationLowTest (if zero then becomeSpent (s.lined c y s.status s.draws s.tagOut) c
        else s.lined c y s.status s.draws s.tagOut) c
      else s.lined c y s.status s.draws s.tagOut) =
      if lowered then rationLowTest (if spent then becomeSpent (s.lined c y s.status s.draws s.tagOut) c
        else s.lined c y s.status s.draws s.tagOut) c
      else if spent then becomeSpent (s.lined c y s.status s.draws s.tagOut) c
        else s.lined c y s.status s.draws s.tagOut := by
    by_cases hl : lowered
    · simp only [hspent, hl, if_true, true_and]
    · simp only [hspent, hl, if_false, false_and]
  rw [hafter, hbecome, ← State.recordedIf, recordedIf_congr s hrow, htest, hmark, htime]
  simp only [hlow']
  rfl

/-- The status block a lowered mirror leaves, in the conditions raised. -/
theorem toldLow_toldSpent {mirror : Nat} (hm : low → y.mirror = mirror) :
    (s.status.toldSpent spent s.tb.seconds c y).toldLow low s.tb.seconds c y =
      (if low then
        (if spent then s.raise .cartridgeState [.u8 c.val, .u8 4, .opt 1 none, .opt 8 (y.serial.map BitVec.toNat)]
          else s).raise .rationLow [.u8 c.val, .u64 (y.serial.getD 0), .u32 mirror]
      else if spent then s.raise .cartridgeState [.u8 c.val, .u8 4, .opt 1 none, .opt 8 (y.serial.map BitVec.toNat)]
        else s).status := by
  rw [Status.toldLow, Status.toldSpent]
  by_cases hl : low
  · rw [if_pos hl, if_pos hl, hm hl]
    by_cases hs : spent
    · rw [if_pos hs, if_pos hs]; rfl
    · rw [if_neg hs, if_neg hs]; rfl
  · rw [if_neg hl, if_neg hl]
    by_cases hs : spent
    · rw [if_pos hs, if_pos hs]; rfl
    · rw [if_neg hs, if_neg hs]

end

/-- Settles O35: the mirror lowered, then the write-back test of a write, and the waiting work of the line. -/
theorem recheckAndWriteAnswered : Obligations.RecheckAndWriteAnswered := by
  constructor
  · intro s c ration count e he hq hseq hstate x r spent low row u told
    let y : Cartridge := { x with
      writeCount := count.toNat, confirmed := r, mirror := min x.mirror r, rationKnown := true, exchange := none
      writePending := x.writePending || decide (x.mirror < r) }
    have hspent : spent ↔ r < x.mirror ∧ r = 0 ∧ x.state = .genuine := by
      constructor
      · exact fun ⟨hg, h0, hp⟩ => ⟨h0 ▸ hp, h0, hg⟩
      · exact fun ⟨hp, h0, hg⟩ => ⟨hg, h0, h0 ▸ hp⟩
    have hmirror (h : r < x.mirror) : y.mirror = r := Nat.min_eq_right (Nat.le_of_lt h)
    have hlow : low ↔ r < x.mirror ∧ y.isLow s.tu.lowMark = true := by
      refine and_congr_right fun h => ?_
      rw [Cartridge.isLow_iff, hmirror h]
    have hrow (h : spent) : historyRowOf s c y .spent = row := by
      rw [historyRowOf, hmirror (hspent.1 h).1, h.2.1]
    have hverified : CartridgeState.verified (if spent then .spent else x.state) = true := by
      by_cases h : spent
      · rw [if_pos h]; rfl
      · rw [if_neg h]; exact (CartridgeState.verified_iff _).2 hstate
    obtain ⟨ex, w, p, d', o', hserve, hwrite, hrest⟩ := serveLine_after_test (s.recordedIf row spent) c
      { y with state := if spent then .spent else y.state, lowReported := decide low || y.lowReported }
      ((s.status.toldSpent spent s.tb.seconds c y).toldLow low s.tb.seconds c y) s.draws s.tagOut False rfl hverified
    have hfinish : finishRecheck (recordWriteCount s c count) c ration.toNat = serveLine
        (if r < x.mirror then rationLowTest (if r = 0 ∧ x.state = .genuine
            then becomeSpent (s.lined c y s.status s.draws s.tagOut) c else s.lined c y s.status s.draws s.tagOut) c
          else s.lined c y s.status s.draws s.tagOut) c := by
      rw [finishRecheck, recordWriteCount, State.modSlot, setSlot_eq_lined, slot_lined, setSlot_lined]
    rw [if_neg not_false] at hserve
    rw [loweredMirror_lined hspent hlow hrow, hserve] at hfinish
    obtain ⟨hsent, hchallenge, hquiet⟩ := hrest fun h => h.1
    refine ⟨_, congrArg Host.Outcome.next ((takeAnswer_recheck he hq hseq).trans hfinish), ?_⟩
    rw [slot_lined]
    have hpending (h : x.mirror < r ∨ x.writePending = true) : y.writePending = true := by
      rw [Bool.or_eq_true, decide_eq_true_iff]; exact h.symm
    have hfree (h : r ≤ x.mirror) (hw : x.writePending = false) : y.writePending = false := by
      rw [Bool.or_eq_false_iff, decide_eq_false_iff_not]; exact ⟨hw, Nat.not_lt.2 h⟩
    exact ⟨rfl, rfl, rfl, rfl, toldLow_toldSpent fun h => hmirror h.1,
      Bool.or_eq_true .. ▸ or_congr decide_eq_true_iff Iff.rfl, rfl, rfl, rfl,
      fun h => ⟨hwrite (Or.inr (hpending h)), hsent (hpending h)⟩, fun h hw hr => hchallenge (hfree h hw) hr,
      fun h hw hr => hquiet (hfree h hw) hr, lined_recordedIf_kept s c _ _ _ _ row spent⟩
  · intro s c ration count e v he hq hstate x a m spent low row u told
    let y : Cartridge := { x with writeCount := count.toNat, confirmed := a, mirror := m, exchange := none }
    have hspent : spent ↔ a < x.mirror ∧ a = 0 ∧ x.state = .genuine := by
      constructor
      · exact fun ⟨hg, h0, hp⟩ => ⟨h0 ▸ hp, h0, hg⟩
      · exact fun ⟨hp, h0, hg⟩ => ⟨hg, h0, h0 ▸ hp⟩
    have hmirror (h : a < x.mirror) : y.mirror = a := Nat.min_eq_right (Nat.le_of_lt h)
    have hlow : low ↔ a < x.mirror ∧ y.isLow s.tu.lowMark = true := by
      refine and_congr_right fun h => ?_
      rw [Cartridge.isLow_iff, hmirror h]
    have hrow (h : spent) : historyRowOf s c y .spent = row := by
      rw [historyRowOf, hmirror (hspent.1 h).1, h.2.1]
    have hverified : CartridgeState.verified (if spent then .spent else x.state) = true := by
      by_cases h : spent
      · rw [if_pos h]; rfl
      · rw [if_neg h]; exact (CartridgeState.verified_iff _).2 hstate
    obtain ⟨ex, w, p, d', o', hserve, hwrite, hrest⟩ := serveLine_after_test (s.recordedIf row spent) c
      { y with state := if spent then .spent else y.state, lowReported := decide low || y.lowReported }
      ((s.status.toldSpent spent s.tb.seconds c y).toldLow low s.tb.seconds c y) s.draws s.tagOut True rfl hverified
    have hfinish : takeWrite (recordWriteCount s c count) c ration.toNat = serveLine (writeBackTest
        (if a < x.mirror then rationLowTest (if a = 0 ∧ x.state = .genuine
            then becomeSpent (s.lined c y s.status s.draws s.tagOut) c else s.lined c y s.status s.draws s.tagOut) c
          else s.lined c y s.status s.draws s.tagOut) c) c := by
      rw [takeWrite, recordWriteCount, State.modSlot, setSlot_eq_lined, slot_lined, setSlot_lined]
    rw [if_pos trivial] at hserve
    rw [loweredMirror_lined hspent hlow hrow, hserve] at hfinish
    rw [recordedIf_step, true_and] at hwrite hrest
    refine ⟨_, congrArg Host.Outcome.next ((takeAnswer_write he hq).trans hfinish), ?_⟩
    rw [slot_lined]
    exact ⟨rfl, rfl, rfl, rfl, toldLow_toldSpent fun h => hmirror h.1,
      Bool.or_eq_true .. ▸ or_congr decide_eq_true_iff Iff.rfl, rfl, rfl, rfl, hwrite,
      fun h hw hr => ((hrest (Nat.not_le.2 h)).2.1 hw hr).1, fun h hw hr => (hrest (Nat.not_le.2 h)).2.2 hw hr,
      lined_recordedIf_kept s c _ _ _ _ row spent⟩

end Sys2Proof.Machine

/-! PROOFS. Bookings against a ration (O37). -/

namespace Sys2Proof.Machine

/-- The write-back test on a verified slot: the write is sent on a free line, waits behind another exchange, and is left to
the answer of a write in flight (R111). -/
theorem writeBackTest_lined (u : State) (c : Fin 4) (y : Cartridge) (st : Status) (d : Nat) (o : List (Fin 4 × List Byte))
    (hv : y.state.verified = true) :
    ∃ ex w o', writeBackTest (u.lined c y st d o) c = u.lined c { y with exchange := ex, writePending := w } st d o' ∧
      (u.tu.step ≤ y.confirmed - y.mirror → y.exchange = none →
        ex = some ⟨.writeRation y.mirror, .writeBack, 0⟩ ∧ w = y.writePending ∧
        o' = o ++ [(c, encodeTagRequest (.writeRation y.mirror))]) ∧
      (∀ e, u.tu.step ≤ y.confirmed - y.mirror → y.exchange = some e → ex = some e ∧ o' = o ∧
        ((∀ v, e.request ≠ .writeRation v) → w = true) ∧ ∀ v, e.request = .writeRation v → w = y.writePending) ∧
      (¬u.tu.step ≤ y.confirmed - y.mirror → ex = y.exchange ∧ w = y.writePending ∧ o' = o) := by
  by_cases hdue : u.tu.step ≤ y.confirmed - y.mirror
  · cases he : y.exchange with
    | none =>
      exact ⟨_, y.writePending, _, writeBackTest_of_free u c y st d o hv hdue he, fun _ _ => ⟨rfl, rfl, rfl⟩,
        fun _ _ h => absurd h (Option.some_ne_none _).symm, fun h => absurd hdue h⟩
    | some e =>
      have htest := writeBackTest_of_due u c y st d o hv hdue
      obtain ⟨q, seq, n⟩ := e
      have hkeep : y = { y with exchange := some ⟨q, seq, n⟩, writePending := y.writePending } := by rw [← he]
      rw [he] at htest
      cases q with
      | writeRation v =>
        refine ⟨some ⟨.writeRation v, seq, n⟩, y.writePending, o, htest.trans (congrArg (u.lined c · st d o) hkeep),
          fun _ h => absurd h (Option.some_ne_none _), fun e' _ h => ⟨h, rfl, fun hne => ?_, fun _ _ => rfl⟩,
          fun h => absurd hdue h⟩
        exact absurd (congrArg Exchange.request (Option.some.inj h)).symm (hne v)
      | identify | challenge | readRation =>
        refine ⟨some ⟨_, seq, n⟩, true, o, htest, fun _ h => absurd h (Option.some_ne_none _),
          fun e' _ h => ⟨h, rfl, fun _ => rfl, fun v hv => ?_⟩, fun h => absurd hdue h⟩
        rw [← Option.some.inj h] at hv
        cases hv
  · exact ⟨y.exchange, y.writePending, o, writeBackTest_of_not_due u c y st d o hdue, fun h => absurd h hdue,
      fun _ h => absurd h hdue, fun _ => ⟨rfl, rfl, rfl⟩⟩

theorem lined_of_draws {u : State} {d : Nat} (h : u.draws = d) (c : Fin 4) (y : Cartridge) (st : Status)
    (o : List (Fin 4 × List Byte)) : u.lined c y st d o =
      { u with tu := { u.tu with slots := (u.lined c y st d o).tu.slots }, status := st, tagOut := o } := by
  subst h; rfl

/-- The record of a slot once a deposit has been booked against its ration, before the tests (R110). -/
def Cartridge.booked (x : Cartridge) (deposit : Nat) : Cartridge :=
  { x with
    developed := satAdd max32 x.developed 1, mirror := x.mirror - deposit
    overdraw := satAdd max32 x.overdraw (deposit - x.mirror) }

theorem bookDeposit_of_other {s : State} {c : Fin 4} {deposit : Nat} {serial : Option Dword}
    (h : ¬(serial ≠ none ∧ (s.slot c).serial = serial ∧ ((s.slot c).state = .genuine ∨ (s.slot c).state = .spent))) :
    bookDeposit s c deposit serial =
      s.setSlot c { s.slot c with unmetered := satAdd max32 (s.slot c).unmetered deposit } := by
  have hheld : ¬(serial.isSome && (s.slot c).serial == serial && (s.slot c).state.verified) = true := by
    simpa [Option.isSome_iff_ne_none, CartridgeState.verified_iff, and_assoc] using h
  rw [bookDeposit, if_neg hheld]

theorem bookDeposit_of_held {s : State} {c : Fin 4} {deposit : Nat} {serial : Option Dword}
    (h : serial ≠ none ∧ (s.slot c).serial = serial ∧ ((s.slot c).state = .genuine ∨ (s.slot c).state = .spent)) :
    bookDeposit s c deposit serial =
      (let lowered := (s.slot c).mirror - deposit < (s.slot c).mirror
      let s1 := s.setSlot c ((s.slot c).booked deposit)
      if deposit = 0 then s1
      else
        let s3 := writeBackTest (if (s.slot c).mirror - deposit = 0 ∧ lowered ∧ (s.slot c).state = .genuine
          then becomeSpent s1 c else s1) c
        if lowered then rationLowTest s3 c else s3) := by
  have hheld : (serial.isSome && (s.slot c).serial == serial && (s.slot c).state.verified) = true := by
    simpa [Option.isSome_iff_ne_none, CartridgeState.verified_iff, and_assoc] using h
  rw [bookDeposit, if_pos hheld]
  rfl

section
variable {s : State} {c : Fin 4} {b : Cartridge} {before : Nat} {spent low : Prop} [Decidable spent] [Decidable low]
  {row : HistoryRow}

/-- The tests after a booking that is not 0: SPENT where the mirror is used up on a GENUINE slot, the write-back test, then
RATION LOW where the mirror fell. -/
theorem bookedTests_lined (hspent : spent ↔ b.mirror = 0 ∧ b.mirror < before ∧ b.state = .genuine)
    (hlow : low ↔ b.mirror < before ∧ b.isLow s.tu.lowMark = true) (hrow : spent → historyRowOf s c b .spent = row)
    (hv : b.state.verified = true) :
    ∃ ex w o', (let s3 := writeBackTest (if b.mirror = 0 ∧ b.mirror < before ∧ b.state = .genuine
          then becomeSpent (s.setSlot c b) c else s.setSlot c b) c
        if b.mirror < before then rationLowTest s3 c else s3) =
      (s.recordedIf row spent).lined c
        { b with
          state := if spent then .spent else b.state, lowReported := decide low || b.lowReported, exchange := ex
          writePending := w }
        ((s.status.toldSpent spent s.tb.seconds c b).toldLow low s.tb.seconds c b) s.draws o' ∧
      (s.tu.step ≤ b.confirmed - b.mirror → b.exchange = none →
        ex = some ⟨.writeRation b.mirror, .writeBack, 0⟩ ∧ w = b.writePending ∧
        o' = s.tagOut ++ [(c, encodeTagRequest (.writeRation b.mirror))]) ∧
      (∀ e, s.tu.step ≤ b.confirmed - b.mirror → b.exchange = some e → ex = some e ∧ o' = s.tagOut ∧
        ((∀ v, e.request ≠ .writeRation v) → w = true) ∧ ∀ v, e.request = .writeRation v → w = b.writePending) ∧
      (¬s.tu.step ≤ b.confirmed - b.mirror → ex = b.exchange ∧ w = b.writePending ∧ o' = s.tagOut) := by
  have hverified : CartridgeState.verified (if spent then .spent else b.state) = true := by
    by_cases h : spent
    · rw [if_pos h]; rfl
    · rw [if_neg h]; exact hv
  obtain ⟨ex, w, o', hwrite, hfree, hbusy, hquiet⟩ := writeBackTest_lined (s.recordedIf row spent) c
    { b with state := if spent then .spent else b.state } (s.status.toldSpent spent s.tb.seconds c b) s.draws s.tagOut
    hverified
  rw [recordedIf_step] at hfree hbusy hquiet
  refine ⟨ex, w, o', ?_, hfree, hbusy, hquiet⟩
  have hbecome := becomeSpentIf_lined s c b s.status s.draws s.tagOut spent
  rw [← State.recordedIf, recordedIf_congr s hrow] at hbecome
  have htest := rationLowIf_lined (s.recordedIf row spent) c
    { b with state := if spent then .spent else b.state, exchange := ex, writePending := w }
    (s.status.toldSpent spent s.tb.seconds c b) s.draws o' (b.mirror < before)
  have hmark : (s.recordedIf row spent).tu.lowMark = s.tu.lowMark := by rw [recordedIf_frame]
  have htime : (s.recordedIf row spent).tb = s.tb := by rw [recordedIf_frame]
  have hlow' : (b.mirror < before ∧ Cartridge.isLow { b with
      state := if spent then .spent else b.state, exchange := ex, writePending := w } s.tu.lowMark = true) = low :=
    (propext hlow).symm
  simp only [← hspent]
  rw [setSlot_eq_lined, hbecome, hwrite, htest, hmark, htime]
  simp only [hlow']
  rfl

end

/-- Settles O37: the record booked, SPENT where the mirror is used up, then the write-back and RATION LOW tests. -/
theorem depositBooked : Obligations.DepositBooked := by
  intro s c d serial x held m developed overdraw spent low due row u told t y
  have hexceeds : d - x.mirror = if d ≤ x.mirror then 0 else d - x.mirror := by split <;> omega
  have hm : x.mirror - d = m := by change _ = if d ≤ x.mirror then x.mirror - d else 0; split <;> omega
  let b : Cartridge := { x with developed := developed, mirror := m, overdraw := overdraw }
  have hbooked : x.booked d = b := by
    rw [Cartridge.booked, hm, hexceeds] <;> rfl
  refine ⟨fun hn => bookDeposit_of_other hn, fun hheld => ?_⟩
  have ht : t = _ := bookDeposit_of_held hheld
  have hform : ∃ ex w o', t = (s.recordedIf row spent).lined c
        { b with
          state := if spent then .spent else b.state, lowReported := decide low || b.lowReported, exchange := ex
          writePending := w }
        ((s.status.toldSpent spent s.tb.seconds c b).toldLow low s.tb.seconds c b) s.draws o' ∧
      (due → x.exchange = none → ex = some ⟨.writeRation m, .writeBack, 0⟩ ∧ w = x.writePending ∧
        o' = s.tagOut ++ [(c, encodeTagRequest (.writeRation m))]) ∧
      (∀ e, due → x.exchange = some e → ex = some e ∧ o' = s.tagOut ∧
        ((∀ v, e.request ≠ .writeRation v) → w = true) ∧ ∀ v, e.request = .writeRation v → w = x.writePending) ∧
      (¬due → ex = x.exchange ∧ w = x.writePending ∧ o' = s.tagOut) := by
    by_cases hd : d = 0
    · have hspent : ¬spent := fun h => Nat.lt_irrefl _ (Nat.lt_of_lt_of_le h.2.1 (hd ▸ h.2.2))
      have hlow : ¬low := fun h => Nat.ne_of_gt h.1 hd
      have hdue : ¬due := fun h => Nat.ne_of_gt h.1 hd
      refine ⟨x.exchange, x.writePending, s.tagOut, ?_, fun h => absurd h hdue, fun _ h => absurd h hdue,
        fun _ => ⟨rfl, rfl, rfl⟩⟩
      rw [ht]
      dsimp only
      rw [if_pos hd, hbooked, State.recordedIf, if_neg hspent, if_neg hspent, decide_eq_false hlow, Bool.false_or,
        Status.toldLow, if_neg hlow, Status.toldSpent, if_neg hspent]
      rfl
    · have hpos : 0 < d := Nat.pos_of_ne_zero hd
      have hspent : spent ↔ b.mirror = 0 ∧ b.mirror < x.mirror ∧ b.state = .genuine := by
        change x.state = .genuine ∧ 0 < x.mirror ∧ x.mirror ≤ d ↔ m = 0 ∧ m < x.mirror ∧ x.state = .genuine
        rw [← hm]
        constructor
        · exact fun ⟨hg, h0, hle⟩ => ⟨by omega, by omega, hg⟩
        · exact fun ⟨h0, hlt, hg⟩ => ⟨hg, by omega, by omega⟩
      have hlow : low ↔ b.mirror < x.mirror ∧ b.isLow s.tu.lowMark = true := by
        have hlt : b.mirror < x.mirror ↔ 0 < d ∧ 0 < x.mirror := by
          change m < x.mirror ↔ _
          rw [← hm]; omega
        rw [Cartridge.isLow_iff, hlt, and_assoc]
      have hrow (h : spent) : historyRowOf s c b .spent = row := by
        rw [historyRowOf, (hspent.1 h).1]
      obtain ⟨ex, w, o', hbook, hfree, hbusy, hquiet⟩ := bookedTests_lined hspent hlow hrow
        ((CartridgeState.verified_iff x.state).2 hheld.2.2)
      refine ⟨ex, w, o', ?_, fun h => hfree h.2, fun e h => hbusy e h.2, fun h => hquiet fun hdue => h ⟨hpos, hdue⟩⟩
      rw [ht, ← hbook]
      dsimp only
      rw [if_neg hd, hbooked, hm]
  obtain ⟨ex, w, o', hform, hfree, hbusy, hquiet⟩ := hform
  have hy : y = _ := (congrArg (State.slot · c) hform).trans (slot_lined _ _ _ _ _ _)
  refine ⟨?_, ?_, ?_, ?_, ?_, ?_, ?_, ?_, ?_⟩
  · rw [hy]
  · intro hd
    have hsame : m = x.mirror := by rw [← hm, hd]; rfl
    rw [ht]
    dsimp only
    rw [if_pos hd, hbooked]
    change s.setSlot c { x with developed := developed, mirror := m, overdraw := overdraw } = _
    rw [hsame]
  · rw [hform]
    exact toldLow_toldSpent fun _ => rfl
  · rw [hy]
    exact Bool.or_eq_true .. ▸ or_congr decide_eq_true_iff Iff.rfl
  · rw [hy, hform]; exact hfree
  · rw [hy, hform]; exact hbusy
  · rw [hy, hform]; exact hquiet
  · rw [hform]; exact (lined_recordedIf_kept s c _ _ _ _ row spent).1
  · have hdraws : (s.recordedIf row spent).draws = s.draws := by rw [recordedIf_frame]
    rw [hform]
    exact lined_of_draws hdraws c _ _ _

end Sys2Proof.Machine

/-! PROOFS. The page stream: bands turned away (O38), the bands of the open page (O40), the completion of a page (O41). -/

namespace Sys2Proof.Machine

/-! ### Bands turned away -/

theorem staleFor_iff (j : Job) (page : Nat) : staleFor j page = true ↔ ∃ n ∈ j.lastPage, page ≤ n := by
  simp [staleFor, Option.any_eq_true]

section
variable {s : State} {b : Band}

theorem examine_of_stopped (h : (s.job b.job).state ≠ .active ∨ (s.job b.job).kind = .scan) :
    examine s b = refuseBand s b.job b.page := if_pos h

theorem examine_of_no_plane (ha : (s.job b.job).state = .active) (hk : (s.job b.job).kind ≠ .scan)
    (hm : (s.job b.job).mode = .mono) (hp : b.plane ≠ 0) : examine s b = s.countRefused b.job := by
  rw [examine, if_neg (not_or.2 ⟨not_not.2 ha, hk⟩), if_pos ⟨hm, hp⟩]

section
variable (ha : (s.job b.job).state = .active) (hk : (s.job b.job).kind ≠ .scan)
  (hp : (s.job b.job).mode = .mono → b.plane = 0)
include ha hk hp

/-- The band of a job that takes it, by the open page (R6 to R8). -/
theorem examine_of_taken : examine s b =
    match s.pp.openPage with
    | some p =>
      if p.tag.job = b.job then
        if b.page < p.tag.page then s.countRefused b.job
        else if b.page = p.tag.page then bandOfPage s p b
        else openingBand (voidOpenPage s) b
      else if staleFor (s.job b.job) b.page then s.countRefused b.job
      else waitBand s b .interleave
    | none => if staleFor (s.job b.job) b.page then s.countRefused b.job else openingBand s b := by
  rw [examine, if_neg (not_or.2 ⟨not_not.2 ha, hk⟩), if_neg fun h => h.2 (hp h.1)] <;> rfl

theorem examine_of_page {p : OpenPage} (ho : s.pp.openPage = some p) (hj : p.tag = ⟨b.job, b.page⟩) :
    examine s b = bandOfPage s p b := by
  have hjob : p.tag.job = b.job := by rw [hj]
  have hpage : b.page = p.tag.page := by rw [hj]
  rw [examine_of_taken ha hk hp, ho]
  exact (if_pos hjob).trans ((if_neg hpage.not_lt).trans (if_pos hpage))

theorem examine_of_lower_page {p : OpenPage} (ho : s.pp.openPage = some p) (hj : p.tag.job = b.job)
    (hlt : b.page < p.tag.page) : examine s b = s.countRefused b.job := by
  rw [examine_of_taken ha hk hp, ho]
  exact (if_pos hj).trans (if_pos hlt)

theorem examine_of_other_job {p : OpenPage} (ho : s.pp.openPage = some p) (hj : p.tag.job ≠ b.job) :
    examine s b = if ∃ n ∈ (s.job b.job).lastPage, b.page ≤ n then s.countRefused b.job else waitBand s b .interleave := by
  rw [examine_of_taken ha hk hp, ho]
  exact (if_neg hj).trans (by simp only [staleFor_iff])

theorem examine_of_stale (ho : s.pp.openPage = none) (hn : ∃ n ∈ (s.job b.job).lastPage, b.page ≤ n) :
    examine s b = s.countRefused b.job := by
  rw [examine_of_taken ha hk hp, ho]
  exact if_pos ((staleFor_iff _ _).2 hn)

theorem examine_of_opening (ho : s.pp.openPage = none) (hn : ¬∃ n ∈ (s.job b.job).lastPage, b.page ≤ n) :
    examine s b = openingBand s b := by
  rw [examine_of_taken ha hk hp, ho]
  exact if_neg (mt (staleFor_iff _ _).1 hn)

end

theorem openingBand_of_index (h : b.index ≠ 0) : openingBand s b = refuseBand s b.job b.page := if_pos h

theorem openingBand_of_not_ready (h : b.index = 0) (he : s.pp.engineReady = false) :
    openingBand s b = waitBand s b .engine := by
  rw [openingBand, if_neg (not_not.2 h), if_pos (by rw [he]; rfl)]

theorem openingBand_of_full (h : b.index = 0) (he : s.pp.engineReady = true) (hr : 24 ≤ s.st.entries.length) :
    openingBand s b = waitBand s b .tracker := by
  rw [openingBand, if_neg (not_not.2 h), if_neg (by rw [he]; decide)]
  exact if_pos hr

end

theorem settleBand_of_waiting {s : State} {w : WaitingBand} (hw : s.li.bandPosition = some w)
    (he : waitEnded s w.reason = false) : settleBand s = s := by
  rw [settleBand, hw]
  exact if_neg (by rw [he]; decide)

theorem waitEnded_eq_false {s : State} {r : WaitReason} (h : (r = .interleave ∧ s.pp.openPage ≠ none) ∨
    (r = .engine ∧ s.pp.engineReady = false) ∨ (r = .tracker ∧ 24 ≤ s.st.entries.length)) : waitEnded s r = false := by
  obtain ⟨rfl, ho⟩ | ⟨rfl, he⟩ | ⟨rfl, hr⟩ := h
  · exact Option.isNone_eq_false_iff.2 (Option.isSome_iff_ne_none.2 ho)
  · exact he
  · exact decide_eq_false (Nat.not_lt.2 hr)

/-- A command that arrives while a band waits has no effect. -/
theorem deliverCommand_of_waiting {s : State} {w : WaitingBand} (hw : s.li.bandPosition = some w) (tag : Byte) (c : Command) :
    deliverCommand tag c s = s := by
  have hclosed : ¬linkOpen s = true := fun h => by
    rw [bandPosition_of_linkOpen h] at hw
    cases hw
  rw [deliverCommand, deliver, if_neg hclosed]

/-- Settles O38: the examination of the band, by the job and the page, and a band that goes on waiting. -/
theorem bandsTurnedAway : Obligations.BandsTurnedAway := by
  constructor
  · intro i s b hx t j counted refused waits used
    have hexec {u : State} (h : examine t b = u) : exec i s = .next u :=
      (exec_of_examines hx).trans (congrArg Host.Outcome.next h)
    refine ⟨fun h => hexec (examine_of_stopped h), fun ha hk hm hp => hexec (examine_of_no_plane ha hk hm hp),
      fun ha hk hp => ⟨fun p ho hj hlt => hexec (examine_of_lower_page ha hk hp ho hj hlt),
        fun p ho hj => hexec (examine_of_other_job ha hk hp ho hj), fun ho => ⟨fun hu => hexec (examine_of_stale ha hk hp ho hu),
          fun hu hi => ?_, fun hu hi he => ?_, fun hu hi he hr => ?_⟩⟩⟩
    · exact hexec ((examine_of_opening (s := t) ha hk hp ho hu).trans (openingBand_of_index hi))
    · exact hexec ((examine_of_opening (s := t) ha hk hp ho hu).trans (openingBand_of_not_ready hi he))
    · exact hexec ((examine_of_opening (s := t) ha hk hp ho hu).trans (openingBand_of_full hi he hr))
  · intro s
    refine ⟨fun h => congrArg Host.Outcome.next (settleBand_of_none s h), fun w hw => ⟨fun h => ?_, fun tag => ?_⟩⟩
    · exact congrArg Host.Outcome.next (settleBand_of_waiting hw (waitEnded_eq_false h))
    · exact congrArg Host.Outcome.next (deliverCommand_of_waiting hw tag .readStatus)

/-! ### The bands of the open page -/

theorem PlaneRec.admits_iff (r : PlaneRec) (pageWidth index lines width : Nat) : r.admits pageWidth index lines width = true ↔
    r.finished = false ∧ index = r.next ∧ width = pageWidth ∧ r.lines + lines ≤ 16384 := by
  simp [PlaneRec.admits, and_assoc]

theorem checkAccepts_iff (s : State) (p : OpenPage) (b : Band) : checkAccepts s p b = true ↔
    (p.kind = .release → ∀ k ∈ p.key, b.check =
      some (bandCheck (s.key k.slot).checkKey b.page b.plane b.index b.lines b.width b.last b.payload)) := by
  unfold checkAccepts
  split
  · next hk hkey => simp [hk, hkey]
  · next hother =>
    refine ⟨fun _ hk k hkey => (hother k hk (Option.mem_def.1 hkey)).elim, fun _ => rfl⟩

section
variable {s : State} {p : OpenPage} {b : Band}

theorem bandOfPage_of_not_ready (h : s.pp.engineReady = false) : bandOfPage s p b = waitBand s b .engine := by
  rw [bandOfPage, if_pos (by rw [h]; rfl)]

/-- The checks on a band of the open page (R11, R12). -/
def BandAdmitted (s : State) (p : OpenPage) (b : Band) : Prop :=
  p.planes[b.plane].admits p.width b.index b.lines b.width = true ∧ checkAccepts s p b = true

theorem bandOfPage_of_not_admitted (h : s.pp.engineReady = true) (ha : ¬BandAdmitted s p b) :
    bandOfPage s p b = voidOpenPage s := by
  rw [bandOfPage, if_neg (by rw [h]; decide), if_neg (by rw [Bool.and_eq_true]; exact ha)]

theorem bandOfPage_of_admitted (h : s.pp.engineReady = true) (ha : BandAdmitted s p b) :
    bandOfPage s p b = forwardBand s p b := by
  rw [bandOfPage, if_neg (by rw [h]; decide), if_pos (by rw [Bool.and_eq_true]; exact ha)]

/-- Every plane the page carries has finished (R14). -/
def OpenPage.PlanesFinished (p : OpenPage) : Prop :=
  (p.mode = .mono → p.planes[0].finished = true) ∧ (p.mode = .color → ∀ c : Fin 4, p.planes[c].finished = true)

/-- The planes of a page have equal line totals (R15). -/
def OpenPage.LinesEqual (p : OpenPage) : Prop :=
  p.mode = .color → ∀ c : Fin 4, p.planes[c].lines = p.planes[0].lines

theorem planes_all_iff (p : OpenPage) (f : PlaneRec → Bool) :
    p.planes.all f = true ↔ ∀ c : Fin 4, f p.planes[c] = true := by
  rw [Vector.all_eq_true]
  exact ⟨fun h c => h c.val c.isLt, fun h i hi => h ⟨i, hi⟩⟩

theorem judgePage_of_unfinished (h : ¬p.PlanesFinished) : judgePage s p = s := by
  rw [judgePage]
  cases hm : p.mode with
  | mono =>
    refine if_neg fun hf => h ⟨fun _ => hf, fun hc => ?_⟩
    rw [hm] at hc
    cases hc
  | color =>
    refine if_neg fun hf => h ⟨fun hc => ?_, fun _ => (planes_all_iff p _).1 hf⟩
    rw [hm] at hc
    cases hc

theorem judgePage_of_equal (h : p.PlanesFinished) (he : p.LinesEqual) : judgePage s p = completePage s p := by
  rw [judgePage]
  cases hm : p.mode with
  | mono => exact if_pos (h.1 hm)
  | color =>
    have hlines : (p.planes.all fun r => r.lines == p.planes[0].lines) = true :=
      (planes_all_iff p _).2 fun c => beq_iff_eq.2 (he hm c)
    exact (if_pos ((planes_all_iff p _).2 (h.2 hm))).trans (if_pos hlines)

theorem judgePage_of_unequal (h : p.PlanesFinished) (he : ¬p.LinesEqual) : judgePage s p = voidOpenPage s := by
  rw [judgePage]
  cases hm : p.mode with
  | mono => exact (he fun hc => by rw [hm] at hc; cases hc).elim
  | color =>
    have hlines : ¬(p.planes.all fun r => r.lines == p.planes[0].lines) = true := fun hl =>
      he fun _ c => beq_iff_eq.1 ((planes_all_iff p _).1 hl c)
    exact (if_pos ((planes_all_iff p _).2 (h.2 hm))).trans (if_neg hlines)

end

/-- The page once a band has been accepted. -/
def OpenPage.accepted (p : OpenPage) (b : Band) : OpenPage :=
  { p with planes := p.planes.set b.plane (p.planes[b.plane].accept b.lines b.last) }

/-- The state once a band has been forwarded, before the completion rules (R13). -/
def State.bandForwarded (s : State) (p : OpenPage) (b : Band) : State :=
  ((accumulate { s with pp := { s.pp with openPage := some (p.accepted b) } } b.plane (bandTones s p b)).emitEngine
    (markBand b.plane b.last b.index b.lines b.width (bandTones s p b))).modJob b.job fun j => { j with stallCount := some 0 }

theorem forwardBand_eq (s : State) (p : OpenPage) (b : Band) : forwardBand s p b =
    if b.last then judgePage (s.bandForwarded p b) (p.accepted b) else s.bandForwarded p b := rfl

/-- Settles O40: the readiness of the engine, the checks, then the completion rules of the page. -/
theorem bandsOfThePage : Obligations.BandsOfThePage := by
  constructor
  · intro i s b p hx ho hj ha hk hp
    exact (exec_of_examines hx).trans (congrArg Host.Outcome.next (examine_of_page (s := s.bandTaken) ha hk hp ho hj))
  · intro s b p r check genuine admitted tones p' acc t forwarded finished equal
    have hadmitted : BandAdmitted s p b ↔ admitted := by
      rw [BandAdmitted, PlaneRec.admits_iff, checkAccepts_iff, and_assoc, and_assoc, and_assoc]
      exact Iff.rfl
    have hforwarded : s.bandForwarded p b = forwarded := rfl
    refine ⟨bandOfPage_of_not_ready, fun he hn => bandOfPage_of_not_admitted he (mt hadmitted.1 hn), fun he ha hn => ?_,
      fun he ha hf hq => ?_, fun he ha hf hq => ?_⟩
    · rw [bandOfPage_of_admitted he (hadmitted.2 ha), forwardBand_eq, hforwarded]
      by_cases hl : b.last = true
      · rw [if_pos hl]
        exact judgePage_of_unfinished fun h => hn ⟨hl, h⟩
      · rw [if_neg hl]
    · rw [bandOfPage_of_admitted he (hadmitted.2 ha), forwardBand_eq, hforwarded, if_pos hf.1]
      exact judgePage_of_equal hf.2 hq
    · rw [bandOfPage_of_admitted he (hadmitted.2 ha), forwardBand_eq, hforwarded, if_pos hf.1]
      exact judgePage_of_unequal hf.2 hq

end Sys2Proof.Machine

/-! PROOFS. The completion of a page (O41): class, conversion, entry, settlement and record. -/

namespace Sys2Proof.Machine

/-! ### The conversion of the planes (R73) -/

section
variable (acc : Vector Accum 4)

/-- The plane's weighted sum times the gain, with the slot's residue. -/
def planeTotal (s : State) (c : Fin 4) : Nat := acc[c].weighted * s.dm.tables[c].gain + (s.slot c).residue

/-- The serial a completed page records for a plane. -/
def planeSerial (s : State) (c : Fin 4) : Option Dword :=
  if (s.slot c).state.verified then (s.slot c).serial else none

/-- What the conversion of a plane gives. -/
def planeResult (s : State) (c : Fin 4) : PlaneResult :=
  { plane := c, weighted := acc[c].weighted, raw := acc[c].raw, deposit := planeTotal acc s c / 2 ^ 28
    serial := planeSerial s c, residue := planeTotal acc s c % 2 ^ 28 }

theorem convertPlane_eq (s : State) (c : Fin 4) : convertPlane acc s c =
    (s.setSlot c { s.slot c with residue := planeTotal acc s c % 2 ^ 28 }, planeResult acc s c) := rfl

theorem planeResult_setSlot_of_ne (s : State) {c d : Fin 4} (x : Cartridge) (ne : d ≠ c) :
    planeResult acc (s.setSlot c x) d = planeResult acc s d := by
  have hd : (s.setSlot c x).slot d = s.slot d := State.slot_setSlot_of_ne s x ne
  have htables : (s.setSlot c x).dm = s.dm := rfl
  simp only [planeResult, planeTotal, planeSerial, hd, htables]

theorem convertPlanes_cons (s : State) (c : Fin 4) (l : List (Fin 4)) : convertPlanes acc s (c :: l) =
    ((convertPlanes acc (convertPlane acc s c).1 l).1,
      (convertPlane acc s c).2 :: (convertPlanes acc (convertPlane acc s c).1 l).2) := rfl

/-- The conversion of different planes: each by its slot as it stood. -/
theorem convertPlanes_results (s : State) {l : List (Fin 4)} (hl : l.Nodup) :
    (convertPlanes acc s l).2 = l.map (planeResult acc s) := by
  induction l generalizing s with
  | nil => rfl
  | cons c l ih =>
    obtain ⟨hc, hl⟩ := List.nodup_cons.1 hl
    rw [convertPlanes_cons, convertPlane_eq, ih _ hl, List.map_cons]
    refine congrArg _ (List.map_congr_left fun d hd => planeResult_setSlot_of_ne acc s _ ?_)
    exact fun heq => hc (heq ▸ hd)

theorem convertPlanes_frame (s : State) (l : List (Fin 4)) : (convertPlanes acc s l).1 =
    { s with tu := { s.tu with slots := (convertPlanes acc s l).1.tu.slots } } := by
  induction l generalizing s with
  | nil => rfl
  | cons c l ih => rw [convertPlanes_cons, ih]; rfl

/-- The residues after the conversion of different planes. -/
theorem convertPlanes_slot (s : State) {l : List (Fin 4)} (hl : l.Nodup) (d : Fin 4) :
    (convertPlanes acc s l).1.slot d =
      if d ∈ l then { s.slot d with residue := planeTotal acc s d % 2 ^ 28 } else s.slot d := by
  induction l generalizing s with
  | nil => rfl
  | cons c l ih =>
    obtain ⟨hc, hl⟩ := List.nodup_cons.1 hl
    rw [convertPlanes_cons, convertPlane_eq, ih _ hl]
    by_cases hd : d = c
    · subst hd
      rw [if_neg hc, if_pos List.mem_cons_self]
      exact State.slot_setSlot_self _ _ _
    · have hslot (x : Cartridge) : (s.setSlot c x).slot d = s.slot d := State.slot_setSlot_of_ne s x hd
      have htables (x : Cartridge) : (s.setSlot c x).dm = s.dm := rfl
      simp only [List.mem_cons, hd, false_or, hslot, planeTotal, htables]

end

/-! ### The entry of the page -/

theorem getElem_foldl_set {α : Type} (f : Fin 4 → α) (v : Vector α 4) (l : List (Fin 4)) (c : Fin 4) :
    (l.foldl (fun v d => v.set d (f d)) v)[c] = if c ∈ l then f c else v[c] := by
  induction l generalizing v with
  | nil => rfl
  | cons d l ih =>
    rw [List.foldl_cons, ih]
    by_cases hc : c ∈ l
    · rw [if_pos hc, if_pos (List.mem_cons_of_mem _ hc)]
    · rw [if_neg hc]
      by_cases hd : c = d
      · subst hd
        rw [if_pos List.mem_cons_self]
        exact Vector.getElem_set_self _
      · rw [if_neg (by simp [hd, hc])]
        exact Vector.getElem_set_ne _ _ fun h => hd (Fin.ext h.symm)

theorem completed_deposits (e : Entry) (final : TariffClass) (price : Nat) (acc : Vector Accum 4) (s : State)
    (l : List (Fin 4)) (c : Fin 4) : (e.completed final price (l.map (planeResult acc s))).deposits[c] =
      if c ∈ l then some (planeTotal acc s c / 2 ^ 28) else e.deposits[c] := by
  have hfold := getElem_foldl_set (fun c => some (planeTotal acc s c / 2 ^ 28)) e.deposits l c
  rw [← hfold]
  dsimp only [Entry.completed]
  rw [List.foldl_map]
  rfl

theorem completed_serials (e : Entry) (final : TariffClass) (price : Nat) (acc : Vector Accum 4) (s : State)
    (l : List (Fin 4)) (c : Fin 4) : (e.completed final price (l.map (planeResult acc s))).serials[c] =
      if c ∈ l then planeSerial s c else e.serials[c] := by
  have hfold := getElem_foldl_set (planeSerial s) e.serials l c
  rw [← hfold]
  dsimp only [Entry.completed]
  rw [List.foldl_map]
  rfl

section
variable {s : State} {t : Tag} {before after : List Entry} {e : Entry} (hs : s.st.entries = before ++ e :: after)
  (ht : e.tag = t) (he : e.status = .forwarding)
  (hother : ∀ x, x ∈ before ∨ x ∈ after → ¬(x.tag = t ∧ x.status = .forwarding))
include hs ht he hother

theorem openEntry?_of_entries : openEntry? s t = some e := by
  rw [openEntry?, hs, List.find?_append, List.find?_eq_none.2 fun x hx => by simpa using hother x (Or.inl hx)]
  simp [ht, he]

theorem modOpenEntry_entries (f : Entry → Entry) : (modOpenEntry s t f).st.entries = before ++ f e :: after := by
  have hkeep (l : List Entry) (hl : ∀ x ∈ l, ¬(x.tag = t ∧ x.status = .forwarding)) :
      (l.map fun e => if e.tag == t && e.status == .forwarding then f e else e) = l := by
    rw [List.map_congr_left fun x hx => if_neg (by simpa using hl x hx), List.map_id']
  have hhere : (if e.tag == t && e.status == .forwarding then f e else e) = f e := if_pos (by simp [ht, he])
  rw [modOpenEntry, hs, List.map_append, List.map_cons, hkeep before fun x hx => hother x (Or.inl hx),
    hkeep after fun x hx => hother x (Or.inr hx), hhere]

end

/-! ### The completion -/

theorem modePlanes_nodup (m : ColourMode) : (modePlanes m).Nodup := by cases m <;> decide

/-- The final class of a page, by mode and coverage (R71, R72). -/
theorem pageClass_eq (s : State) (p : OpenPage) : pageClass s p =
    if p.mode = .mono ∨ coverage (((s.dm.accum.getD clearAccum)[1]).raw + ((s.dm.accum.getD clearAccum)[2]).raw +
        ((s.dm.accum.getD clearAccum)[3]).raw) (p.width * p.planes[0].lines) = 0 then monoClass p.size
    else if coverage (((s.dm.accum.getD clearAccum)[1]).raw + ((s.dm.accum.getD clearAccum)[2]).raw +
        ((s.dm.accum.getD clearAccum)[3]).raw) (p.width * p.planes[0].lines) < s.dm.threshold then spotClass p.size
    else colorClass p.size := by
  rw [pageClass, pageCoverage]
  cases p.mode with
  | mono => exact (if_pos (Or.inl rfl)).symm
  | color => simp only [finalClass, reduceCtorEq, false_or]

/-- A completed page in full: PAGE END, the conversion, the settled entry, and the record. -/
theorem completePage_eq {s : State} {p : OpenPage} {before after : List Entry} {e : Entry}
    (hs : s.st.entries = before ++ e :: after) (ht : e.tag = p.tag) (he : e.status = .forwarding)
    (hother : ∀ x, x ∈ before ∨ x ∈ after → ¬(x.tag = p.tag ∧ x.status = .forwarding)) :
    completePage s p = { s with
      engineOut := s.engineOut ++ [markPageEnd p.tag]
      pp := { s.pp with openPage := none }
      st := { s.st with entries := before ++ e.completed (pageClass s p) (pagePrice s p e) (pageConverted s p).2 :: after }
      tu := { s.tu with slots := (pageConverted s p).1.tu.slots }
      acct := (s.setAccount e.account { s.account e.account with
        reserved := (s.account e.account).reserved - (e.reserved - pagePrice s p e) }).acct
      dm := pageRecorded s p s.dm } := by
  obtain ⟨v, hv⟩ : ∃ v, v = s.emitEngine (markPageEnd p.tag) := ⟨_, rfl⟩
  have hsv : v.st.entries = before ++ e :: after := by rw [hv]; exact hs
  have hframe : (pageConverted v p).1 = { v with tu := { v.tu with slots := (pageConverted v p).1.tu.slots } } :=
    convertPlanes_frame _ v _
  obtain ⟨slots, hslots⟩ : ∃ slots, (pageConverted v p).1.tu.slots = slots := ⟨_, rfl⟩
  have hresults : (pageConverted v p).2 = (pageConverted s p).2 := by
    rw [pageConverted, pageConverted, convertPlanes_results _ _ (modePlanes_nodup _),
      convertPlanes_results _ _ (modePlanes_nodup _), hv]
    rfl
  have hsame : slots = (pageConverted s p).1.tu.slots := by
    rw [← hslots]
    refine Vector.ext fun c hc => ?_
    have hslot := convertPlanes_slot (v.dm.accum.getD clearAccum) v (modePlanes_nodup p.mode) ⟨c, hc⟩
    have hslot' := convertPlanes_slot (s.dm.accum.getD clearAccum) s (modePlanes_nodup p.mode) ⟨c, hc⟩
    refine hslot.trans (Eq.trans ?_ hslot'.symm)
    rw [hv]
    rfl
  have hrecord (m : DepositMeter) : pageRecorded v p m = pageRecorded s p m := by
    rw [pageRecorded, hresults, hv]
    rfl
  have hclass : pageClass v p = pageClass s p := by rw [hv]; rfl
  have hprice : pagePrice v p e = pagePrice s p e := by rw [hv]; rfl
  have hsettled : (pageSettled v p e).st.entries =
      before ++ e.completed (pageClass s p) (pagePrice s p e) (pageConverted s p).2 :: after := by
    refine (modOpenEntry_entries ?_ ht he hother _).trans (by rw [hclass, hprice, hresults])
    change (pageConverted v p).1.st.entries = _
    rw [hframe]
    exact hsv
  have hpage : pageSettled v p e = { releaseReservation (pageConverted v p).1 e.account (e.reserved - pagePrice v p e) with
      st := { (pageConverted v p).1.st with entries := (pageSettled v p e).st.entries } } := rfl
  rw [hsettled, hframe, hslots, hsame, hprice] at hpage
  have hcomplete : completePage s p =
      { meterPage v p with pp := { (meterPage v p).pp with openPage := none } } := by rw [hv]; rfl
  have hdm : (pageConverted v p).1.dm = s.dm := by rw [hframe, hv]; rfl
  rw [hcomplete, meterPage_of_entry v (openEntry?_of_entries hsv ht he hother), hpage, hdm, hrecord, hv]
  rfl

/-- Settles O41: the completion of the page at the Deposit Meter, read field by field. -/
theorem pagesComplete : Obligations.PagesComplete := by
  intro s p before after e hentries htag hstatus hother acc planes colour share coverage final price total serial t
  have hplanes : modePlanes p.mode = planes := neededSlots_eq p.mode
  have hfinal : pageClass s p = final := by
    rw [pageClass_eq]
    cases hsize : p.size <;> simp only [final, hsize] <;> rfl
  have hserial (c : Fin 4) : planeSerial s c = serial c := if_congr (CartridgeState.verified_iff _) rfl rfl
  have hprice : pagePrice s p e = min price e.reserved := by rw [pagePrice, hfinal]; rfl
  have hresults : (pageConverted s p).2 = planes.map (planeResult acc s) := by
    rw [← hplanes]; exact convertPlanes_results acc s (modePlanes_nodup _)
  have ht : t = _ := completePage_eq hentries htag hstatus hother
  rw [hfinal, hprice, hresults] at ht
  refine ⟨by rw [ht], by rw [ht], ⟨_, by rw [ht], rfl, fun c => ⟨fun hc => ⟨?_, ?_⟩, fun hc => ⟨?_, ?_⟩⟩⟩, fun c => ?_,
    by rw [ht], ?_, by rw [ht]⟩
  · exact (completed_deposits ..).trans (if_pos hc)
  · exact (completed_serials ..).trans ((if_pos hc).trans (hserial c))
  · exact (completed_deposits ..).trans (if_neg hc)
  · exact (completed_serials ..).trans (if_neg hc)
  · rw [ht, ← hplanes]
    exact convertPlanes_slot acc s (modePlanes_nodup _) c
  · have hrecords : planes.map (fun c =>
          { plane := c, weighted := acc[c].weighted, raw := acc[c].raw, deposit := total c / 2 ^ 28, serial := serial c,
            residue := total c % 2 ^ 28 }) = planes.map (planeResult acc s) := by
      refine List.map_congr_left fun c _ => ?_
      rw [planeResult, hserial]
      rfl
    have hcoverage : pageCoverage s p = if p.mode = .mono then none else some coverage := by
      rw [pageCoverage]
      cases p.mode <;> rfl
    rw [hrecords, ← hcoverage, ← hfinal, ← hresults, ht]
    rfl

end Sys2Proof.Machine

/-! PROOFS. The Sheet Tracker: entries settled (O44). -/

namespace Sys2Proof.Machine

/-! ### A charge (R47) -/

theorem State.setAccount_setAccount (s : State) (i : Fin 256) (a b : Account) :
    (s.setAccount i a).setAccount i b = s.setAccount i b := by
  simp [State.setAccount]

/-- An account once a page of a class has been charged to it (R47, R48). -/
def Account.charged' (a : Account) (amount : Nat) (cls : TariffClass) (time postscale : Nat) : Account :=
  { a with
    reserved := a.reserved - amount, charged := a.charged + amount
    counters := a.counters.set cls.index (satAdd max32 a.counters[cls.index] 1)
    lastCharge := time, dirty := true, sinceFlush := if postscale ≤ a.sinceFlush + 1 then 0 else a.sinceFlush + 1 }

theorem charge_eq (s : State) (i : Fin 256) (amount : Nat) (cls : TariffClass) : charge s i amount cls =
    if s.acct.postscale ≤ (s.account i).sinceFlush + 1 then
      commitAccount (s.setAccount i ((s.account i).charged' amount cls s.tb.seconds s.acct.postscale)) i
    else s.setAccount i ((s.account i).charged' amount cls s.tb.seconds s.acct.postscale) := by
  rw [charge, State.modAccount, State.account_setAccount_self]
  by_cases h : s.acct.postscale ≤ (s.account i).sinceFlush + 1
  · rw [if_pos h, if_pos h, State.modAccount, State.account_setAccount_self, State.setAccount_setAccount,
      Account.charged', if_pos h]
    rfl
  · rw [if_neg h, if_neg h, Account.charged', if_neg h]
    rfl

/-- A charge in money: the account's record alone, whatever its dirty flag. -/
theorem charge_step (s : State) (i : Fin 256) (amount : Nat) (cls : TariffClass) :
    StoreStep (s.setAccount i ((s.account i).charged' amount cls s.tb.seconds s.acct.postscale)) (charge s i amount cls) := by
  rw [charge_eq]
  by_cases h : s.acct.postscale ≤ (s.account i).sinceFlush + 1
  · rw [if_pos h]; exact request_step _ _
  · rw [if_neg h]; exact .refl _

/-! ### What a booking leaves unchanged -/

/-- What the Cartridge Unit may change at any of its slots. -/
structure CartridgeStep (s t : State) : Prop where
  frame : t = { s with
    tu := { s.tu with slots := t.tu.slots, ring := t.tu.ring, ringDirty := t.tu.ringDirty, ringNext := t.tu.ringNext }
    acct := { s.acct with records := t.acct.records }
    ms := t.ms, status := t.status, draws := t.draws, tagOut := t.tagOut }
  money : ∀ i, (t.account i).sameMoney (s.account i)
  memory : t.ms.memory = s.ms.memory

theorem CartridgeStep.refl (s : State) : CartridgeStep s s := ⟨rfl, fun _ => rfl, rfl⟩

theorem CartridgeStep.trans {s t u : State} (h : CartridgeStep s t) (k : CartridgeStep t u) : CartridgeStep s u := by
  obtain ⟨hf, hm, h1⟩ := h
  obtain ⟨kf, km, k1⟩ := k
  refine ⟨?_, fun i => ?_, k1.trans h1⟩
  · rw [kf, hf]
  · have a := hm i
    have b := km i
    simp only [Account.sameMoney] at a b ⊢
    rw [← a, ← b]

theorem SlotStep.cartridgeStep {c : Fin 4} {s t : State} (h : SlotStep c s t) : CartridgeStep s t :=
  ⟨h.frame, h.money, h.memory⟩

/-- The deposits of an entry are booked plane by plane. -/
theorem debit_step (s : State) (e : Entry) : CartridgeStep s (debit s e) := by
  have hfold (l : List (Fin 4)) (s : State) : CartridgeStep s
      (l.foldl (fun s c => match e.deposits[c] with | some d => bookDeposit s c d e.serials[c] | none => s) s) := by
    induction l generalizing s with
    | nil => exact .refl s
    | cons c l ih =>
      refine CartridgeStep.trans ?_ (ih _)
      dsimp only
      split
      · exact (bookDeposit_step s c _ _).cartridgeStep
      · exact .refl s
  exact hfold slots s

/-! ### An entry that is removed -/

/-- The state once a removed entry's amount is charged or released (R81). -/
def State.paidFor (s : State) (e : Entry) (m : Manner) : State :=
  if e.status = .complete ∧ m = .exited then charge s e.account e.reserved (e.final.getD e.provisional)
  else s.setAccount e.account { s.account e.account with reserved := (s.account e.account).reserved - e.reserved }

/-- The deposits of a removed entry are booked: the page is COMPLETE and its sheet was developed (R82). -/
def Entry.debited (e : Entry) (m : Manner) : Prop := e.status = .complete ∧ m ≠ .undeveloped ∧ m ≠ .cleared

theorem settleEntry_of_parts (s : State) (e : Entry) (m : Manner) : settleEntry s e m =
    (let s2 := if e.status == .complete && (m == .exited || m == .lost || m == .developed || m == .purged)
      then debit (s.paidFor e m) e else s.paidFor e m
    if m = .exited then s2.countExited e.tag.job
    else if m = .cleared then s2
    else s2.countJammed e.tag.job) := by
  have hpaid : (if e.status == .complete && m == .exited then charge s e.account e.reserved (e.final.getD e.provisional)
      else releaseReservation s e.account e.reserved) = s.paidFor e m := by
    simp only [Bool.and_eq_true, beq_iff_eq]
    rfl
  unfold settleEntry
  dsimp only
  rw [hpaid]
  cases m <;> rfl

theorem debited_iff (e : Entry) (m : Manner) :
    (e.status == .complete && (m == .exited || m == .lost || m == .developed || m == .purged)) = true ↔ e.debited m := by
  rw [Entry.debited, Bool.and_eq_true, beq_iff_eq]
  exact and_congr_right fun _ => by cases m <;> decide

/-- A job once an entry of it has been removed in a manner (R38, R81). -/
def Job.removed (j : Job) (m : Manner) : Job :=
  { j with counters := { j.counters with
      exited := if m = .exited then satAdd max32 j.counters.exited 1 else j.counters.exited
      jammed := if m = .exited ∨ m = .cleared then j.counters.jammed else satAdd max32 j.counters.jammed 1 } }

/-- A settled entry: the money, the bookings where they are made, and the job's counter. -/
theorem settleEntry_of_money {s t : State} {e : Entry} {m : Manner}
    (ht : (if e.status == .complete && (m == .exited || m == .lost || m == .developed || m == .purged)
      then debit (s.paidFor e m) e else s.paidFor e m) = t) (hjt : t.jt = s.jt) :
    settleEntry s e m = { t with jt := s.jt.set e.tag.job ((s.job e.tag.job).removed m) } := by
  have hjob : t.job e.tag.job = s.job e.tag.job := by rw [State.job, hjt]; rfl
  rw [settleEntry_of_parts, ht, ← hjob, ← hjt]
  by_cases hx : m = .exited
  · simp only [hx, if_true, State.countExited, State.modJob, State.setJob, Job.removed, true_or]
  · by_cases hc : m = .cleared
    · simp only [hc, reduceCtorEq, if_false, if_true, Job.removed, or_true]
      have hself : t.jt.set e.tag.job (t.job e.tag.job) = t.jt := Vector.set_getElem_self _
      rw [hself]
    · simp only [hx, hc, if_false, State.countJammed, State.modJob, State.setJob, Job.removed, or_false]

theorem paidFor_step (s : State) (e : Entry) (m : Manner) :
    StoreStep (s.setAccount e.account (if e.status = .complete ∧ m = .exited
        then (s.account e.account).charged' e.reserved (e.final.getD e.provisional) s.tb.seconds s.acct.postscale
        else { s.account e.account with reserved := (s.account e.account).reserved - e.reserved })) (s.paidFor e m) := by
  rw [State.paidFor]
  by_cases h : e.status = .complete ∧ m = .exited
  · rw [if_pos h, if_pos h]; exact charge_step _ _ _ _
  · rw [if_neg h, if_neg h]; exact .refl _

theorem sameMoney_trans {a b c : Account} (h : a.sameMoney b) (k : b.sameMoney c) : a.sameMoney c := by
  simp only [Account.sameMoney] at h k ⊢
  rw [← k, ← h]

/-- The record of the account of a removed entry, once it is settled, whatever its dirty flag. -/
def Account.settled (a : Account) (e : Entry) (m : Manner) (time postscale : Nat) : Account :=
  if e.status = .complete ∧ m = .exited then a.charged' e.reserved (e.final.getD e.provisional) time postscale
  else { a with reserved := a.reserved - e.reserved }

/-- What a settled entry leaves: the money of one account, the bookings, and the counter of its job. -/
theorem settleEntry_form (s : State) (e : Entry) (m : Manner) :
    ∃ t, settleEntry s e m = { t with jt := s.jt.set e.tag.job ((s.job e.tag.job).removed m) } ∧
      (¬e.debited m → t = s.paidFor e m) ∧ (e.debited m → t = debit (s.paidFor e m) e) ∧
      CartridgeStep (s.paidFor e m) t := by
  by_cases hd : e.debited m
  · have hstep := debit_step (s.paidFor e m) e
    have hjt : (debit (s.paidFor e m) e).jt = s.jt := by
      rw [hstep.frame, (paidFor_step s e m).frame]
      rfl
    exact ⟨_, settleEntry_of_money (if_pos ((debited_iff e m).2 hd)) hjt, fun h => absurd hd h, fun _ => rfl, hstep⟩
  · have hjt : (s.paidFor e m).jt = s.jt := by
      rw [(paidFor_step s e m).frame]
      rfl
    exact ⟨_, settleEntry_of_money (if_neg (mt (debited_iff e m).1 hd)) hjt, fun _ => rfl, fun h => absurd h hd, .refl _⟩

theorem settleEntry_st (s : State) (e : Entry) (m : Manner) : (settleEntry s e m).st = s.st := by
  obtain ⟨u, hform, -, -, hstep⟩ := settleEntry_form s e m
  rw [hform, hstep.frame, (paidFor_step s e m).frame]
  rfl

theorem removeFront_st (s : State) (m : Manner) (n : Nat) :
    (removeFront m n s).st = { s.st with entries := s.st.entries.drop n } := by
  induction n generalizing s with
  | zero => rfl
  | succ n ih =>
    cases hs : s.st.entries with
    | nil =>
      have hstop : removeFront m (n + 1) s = s := by simp only [removeFront, hs]
      rw [hstop, List.drop_nil, ← hs]
    | cons e rest => rw [removeFront, hs, ih, settleEntry_st]; rfl

theorem sameMoney_fields {a b : Account} (h : a.sameMoney b) :
    a.reserved = b.reserved ∧ a.charged = b.charged ∧ a.counters = b.counters ∧ a.lastCharge = b.lastCharge ∧
      a.sinceFlush = b.sinceFlush ∧ (a.id = b.id ∧ a.state = b.state ∧ a.privileges = b.privileges ∧ a.quota = b.quota ∧
        a.window1 = b.window1 ∧ a.window2 = b.window2) := by
  rw [← h]
  exact ⟨rfl, rfl, rfl, rfl, rfl, rfl, rfl, rfl, rfl, rfl, rfl⟩

/-- Settles O44: the charge, then the settled entry in its three parts, then the entries in order. -/
theorem entriesSettled : Obligations.EntriesSettled := by
  refine ⟨fun s i amount cls => charge_eq s i amount cls, fun s e m => ?_, fun s m n => ⟨?_, fun e rest hs => ?_⟩⟩
  · intro t a b charged cls paid booked
    obtain ⟨u, hform, hplain, hbooked, hstep⟩ := settleEntry_form s e m
    have hpaid : s.paidFor e m = paid := rfl
    have hpay := paidFor_step s e m
    have hmoney (i : Fin 256) : (t.account i).sameMoney
        ((s.setAccount e.account (a.settled e m s.tb.seconds s.acct.postscale)).account i) := by
      have ht : t.account i = u.account i := by rw [show t = _ from hform]; rfl
      rw [ht]
      exact sameMoney_trans (hstep.money i) (hpay.money i)
    have hb : b.sameMoney (a.settled e m s.tb.seconds s.acct.postscale) := by
      have h := hmoney e.account
      rwa [State.account_setAccount_self] at h
    have hframe : u = _ := hstep.frame.trans (by rw [hpay.frame])
    have hfields : b.reserved = a.reserved - e.reserved ∧
        b.charged = (if charged then a.charged + e.reserved else a.charged) ∧
        b.counters = (if charged then a.counters.set cls.index (satAdd max32 a.counters[cls.index] 1) else a.counters) ∧
        b.lastCharge = (if charged then s.tb.seconds else a.lastCharge) ∧
        b.sinceFlush = (if charged then (if s.acct.postscale ≤ a.sinceFlush + 1 then 0 else a.sinceFlush + 1)
          else a.sinceFlush) ∧
        (b.id = a.id ∧ b.state = a.state ∧ b.privileges = a.privileges ∧ b.quota = a.quota ∧ b.window1 = a.window1 ∧
          b.window2 = a.window2) := by
      by_cases hc : charged
      · rw [Account.settled, if_pos hc] at hb
        obtain ⟨hreserved, hcharged, hcounters, hlast, hsince, hkept⟩ := sameMoney_fields hb
        exact ⟨hreserved, hcharged.trans (if_pos hc).symm, hcounters.trans (if_pos hc).symm, hlast.trans (if_pos hc).symm,
          hsince.trans (if_pos hc).symm, hkept⟩
      · rw [Account.settled, if_neg hc] at hb
        obtain ⟨hreserved, hcharged, hcounters, hlast, hsince, hkept⟩ := sameMoney_fields hb
        exact ⟨hreserved, hcharged.trans (if_neg hc).symm, hcounters.trans (if_neg hc).symm, hlast.trans (if_neg hc).symm,
          hsince.trans (if_neg hc).symm, hkept⟩
    obtain ⟨hreserved, hcharged, hcounters, hlast, hsince, hkept⟩ := hfields
    have ht : t = _ := hform
    refine ⟨hreserved, hcharged, hcounters, hlast, hsince, hkept, fun i hi => ?_, fun h => ?_, fun hc hu hk => ?_,
      fun h => ?_, ?_⟩
    · have h := hmoney i
      rwa [State.account_setAccount_of_ne _ _ hi] at h
    · have hnot : ¬e.debited m := fun hd => h.elim (fun h => h hd.1) fun h => h.elim hd.2.1 hd.2.2
      have hu : u = paid := (hplain hnot).trans hpaid
      refine ⟨by rw [ht, hu], ?_⟩
      rw [ht, hu, ← hpaid, hpay.frame]
      rfl
    · have hu : u = booked := (hbooked ⟨hc, hu, hk⟩).trans (by rw [hpaid]; rfl)
      rw [ht, hu]
    · rw [ht]
      by_cases hj : h = e.tag.job
      · rw [if_pos hj, hj]
        exact State.job_setJob_self s _ _
      · rw [if_neg hj]
        exact State.job_setJob_of_ne s _ hj
    · refine ⟨?_, ?_, ?_, ?_, ?_, ?_, ?_, ?_, ?_⟩
      case refine_9 => rw [ht]; exact hstep.memory.trans hpay.memory
      all_goals rw [ht, hframe]; rfl
  · exact removeFront_st s m n
  · rw [removeFront, hs]

end Sys2Proof.Machine

/-! PROOFS. The reports of the engine: SHEET EXIT (O45), SHEET JAM and PATH PURGE (O46). -/

namespace Sys2Proof.Machine

/-! ### The jobs a report names -/

theorem jobsOf_pairwise (entries : List Entry) (extra : Option (Fin 16)) : (jobsOf entries extra).Pairwise (· < ·) :=
  (List.pairwise_lt_finRange 16).filter _

theorem mem_jobsOf {entries : List Entry} {extra : Option (Fin 16)} {h : Fin 16} :
    h ∈ jobsOf entries extra ↔ extra = some h ∨ ∃ e ∈ entries, e.tag.job = h := by
  rw [jobsOf, List.mem_filter]
  simp [State.handles]

theorem openJob_eq_some {s : State} {h : Fin 16} :
    s.pp.openPage.map (fun p => p.tag.job) = some h ↔ ∃ p ∈ s.pp.openPage, p.tag.job = h := by
  simp

/-! ### SHEET EXIT -/

theorem includesOpen_iff (s : State) (entries : List Entry) : includesOpen s entries = true ↔
    ∃ p ∈ s.pp.openPage, ∃ e ∈ entries, e.status = .forwarding ∧ e.tag = p.tag := by
  simp only [includesOpen, List.any_eq_true, Bool.and_eq_true, beq_iff_eq, Option.any_eq_true]
  constructor
  · rintro ⟨e, he, hs, p, hp, ht⟩
    exact ⟨p, hp, e, he, hs, ht.symm⟩
  · rintro ⟨p, hp, e, he, hs, ht⟩
    exact ⟨e, he, hs, p, hp, ht.symm⟩

theorem exitCount_eq (c : Byte) : exitCount c = if c.toNat ≤ 1 then 1 else 2 := by
  rw [exitCount]
  split <;> omega

/-- The report names an entry of the tracker. -/
def namesEntry (job : Byte) (page : Half) (e : Entry) : Bool := e.tag.job.val == job.toNat && e.tag.page == page.toNat

theorem sheetExit_of_stray {s : State} {job : Byte} {page : Half} (count : Byte)
    (h : ∀ e ∈ s.st.entries, namesEntry job page e = false) : sheetExit s job page count =
      trackFault { s with st := { s.st with stray := satAdd max16 s.st.stray 1 } } .stray (.exit job page count) := by
  have hnone : namedEntry? s job page = none := List.findIdx?_eq_none_iff.2 h
  rw [sheetExit, hnone]

theorem sheetExit_of_named {s : State} {job : Byte} {page : Half} (count : Byte) {skipped rest : List Entry} {named : Entry}
    (hs : s.st.entries = skipped ++ named :: rest) (hn : namesEntry job page named = true)
    (hskip : ∀ e ∈ skipped, namesEntry job page e = false) :
    sheetExit s job page count = exitAt s skipped.length (exitCount count) (.exit job page count) := by
  have hsome : namedEntry? s job page = some skipped.length := by
    have hfirst : skipped.findIdx? (namesEntry job page) = none := List.findIdx?_eq_none_iff.2 hskip
    have happ : (skipped ++ named :: rest).findIdx? (namesEntry job page) = some skipped.length := by
      rw [List.findIdx?_append, hfirst, List.findIdx?_cons, if_pos hn]
      simp
    rw [← hs] at happ
    exact happ
  rw [sheetExit, hsome]

section
variable {s : State} {skipped rest : List Entry} {named : Entry} (hs : s.st.entries = skipped ++ named :: rest) {n : Nat}
  (hn : n = 1 ∨ n = 2)
include hs hn

theorem take_removed : s.st.entries.take (skipped.length + n) = skipped ++ named :: rest.take (n - 1) := by
  rw [hs, List.take_length_add_append]
  obtain rfl | rfl := hn <;> rfl

theorem length_lt_iff_short : s.st.entries.length < skipped.length + n ↔ rest = [] ∧ n = 2 := by
  rw [hs, List.length_append, List.length_cons, ← List.length_eq_zero_iff]
  omega

end

/-- Settles O45: the stray report, and the removal at the named entry with its faults, holds and drain tests. -/
theorem sheetExitRemoves : Obligations.SheetExitRemoves := by
  intro s job page count names fields n fault
  refine ⟨fun h => congrArg Host.Outcome.next (sheetExit_of_stray count h), ?_⟩
  intro skipped named rest hs hnamed hskip removed reached s1 s2 s3 s4 lost
  have hn : n = 1 ∨ n = 2 := by
    by_cases hc : count.toNat ≤ 1
    · exact Or.inl (if_pos hc)
    · exact Or.inr (if_neg hc)
  have hcount : exitCount count = n := exitCount_eq count
  have hremoved : s.st.entries.take (skipped.length + n) = removed := take_removed hs hn
  have hempty : 0 < skipped.length ↔ ¬skipped = [] := List.length_pos_iff
  have hfaulted : (if 0 < skipped.length then trackFault s .skip fields else s) = s1 := by
    by_cases h : skipped = []
    · exact (if_neg (mt hempty.1 (not_not.2 h))).trans (if_pos h).symm
    · exact (if_pos (hempty.2 h)).trans (if_neg h).symm
  have hvoided : (if includesOpen s removed then voidOpenPage (trackFault s1 .unfinished fields) else s1) = s2 :=
    if_congr (includesOpen_iff s removed) rfl rfl
  have hshort : (if s.st.entries.length < skipped.length + n then trackFault s3 .short fields else s3) = s4 :=
    if_congr (length_lt_iff_short hs hn) rfl rfl
  have htaken : removed.take skipped.length = skipped := List.take_left
  have hexit : sheetExit s job page count = afterReport (if 0 < skipped.length
      then holdJam s4 (jobsOf skipped (if includesOpen s removed then s.pp.openPage.map fun p => p.tag.job else none))
      else s4) removed := by
    rw [sheetExit_of_named count hs hnamed hskip, hcount]
    unfold exitAt
    dsimp only
    rw [hremoved, hfaulted, hvoided, htaken, hshort]
  by_cases hk : skipped = []
  · refine ⟨[], jobsOf removed none, .nil, fun h => ?_, jobsOf_pairwise _ _, fun h => ?_, congrArg Host.Outcome.next ?_⟩
    · simp [lost, hk]
    · simp [mem_jobsOf]
    · rw [hexit, if_neg (mt hempty.1 (not_not.2 hk))]
      rfl
  · refine ⟨jobsOf skipped (if includesOpen s removed then s.pp.openPage.map fun p => p.tag.job else none),
      jobsOf removed none, jobsOf_pairwise _ _, fun h => ?_, jobsOf_pairwise _ _, fun h => ?_, congrArg Host.Outcome.next ?_⟩
    · rw [mem_jobsOf, or_comm]
      refine or_congr Iff.rfl ?_
      by_cases hr : reached
      · rw [if_pos ((includesOpen_iff s removed).2 hr), openJob_eq_some]
        exact ⟨fun hp => ⟨hk, hr, hp⟩, fun hp => hp.2.2⟩
      · rw [if_neg (mt (includesOpen_iff s removed).1 hr)]
        exact ⟨fun hp => absurd hp (Option.some_ne_none h).symm, fun hp => absurd hp.2.1 hr⟩
    · simp [mem_jobsOf]
    · rw [hexit, if_pos (hempty.2 hk)]
      rfl

/-! ### SHEET JAM and PATH PURGE -/

/-- Settles O46: the entries a report takes from the head, then the holds and drain tests of their jobs. -/
theorem jamAndPurgeRemove : Obligations.JamAndPurgeRemove := by
  intro s openJob settled
  have hsettled (removed : List Entry) (t : State) : settled removed t (.next (afterReport (holdJam t (jobsOf removed
      (s.pp.openPage.map fun p => p.tag.job))) removed)) := by
    refine ⟨_, _, jobsOf_pairwise _ _, fun h => ?_, jobsOf_pairwise _ _, fun h => ?_, rfl⟩
    · rw [mem_jobsOf, openJob_eq_some]
    · simp [mem_jobsOf]
  refine ⟨fun lost developed => hsettled _ _, hsettled _ _⟩

end Sys2Proof.Machine

/-! PROOFS. The upstream half of the controller link (O49). -/

namespace Sys2Proof.Machine

section
variable {s : State}

theorem destEntry_eq (s : State) (h : Fin 16) : destEntry s (s.job h) =
    match (s.job h).dest with | some c => s.sp.egress[c] | none => ⟨.cipher, 1440, 1⟩ := by
  rw [destEntry] <;> rfl

theorem dest_getD (j : Job) : (j.dest.getD 0).val = match j.dest with | some c => c.val | none => 0 := by
  cases j.dest <;> rfl

theorem egressPasses_iff (s : State) (f : ScanFrame) : egressPasses s f = true ↔
    f.key ≠ none ∨ ((destEntry s (s.job f.tag.job)).mode = .clear ∧
      (((s.job f.tag.job).dest.getD 0).val = 0 ∨
        (s.account (s.job f.tag.job).account).window1.Holds ((s.job f.tag.job).dest.getD 0).val ∨
        (s.account (s.job f.tag.job).account).window2.Holds ((s.job f.tag.job).dest.getD 0).val)) := by
  rw [egressPasses, Bool.or_eq_true, Bool.and_eq_true, Account.allows_iff, beq_iff_eq, Option.isSome_iff_ne_none]

theorem upstreamBegin_of_sending (h : s.li.sending ≠ none) : upstreamBegin s = s := by
  obtain ⟨x, hx⟩ := Option.ne_none_iff_exists'.1 h
  rw [upstreamBegin, hx]

/-- The state in which the link has begun to send. -/
def State.sends (s : State) (x : Sending) : State := { s with li := { s.li with sending := some x } }

theorem upstreamBegin_of_reply {r : Reply} (h : s.li.sending = none) (hr : s.cu.state = .replying r) :
    upstreamBegin s = s.sends (.reply r) := by
  simp only [upstreamBegin, h, hr]
  rfl

section
variable (h : s.li.sending = none) (hr : ∀ r, s.cu.state ≠ .replying r)
include h hr

/-- A free link with no reply waiting, by the notices and the buffer. -/
theorem upstreamBegin_of_no_reply : upstreamBegin s =
    match s.status.notices, s.sp.buffer with
    | n :: _, _ => s.sends (.notice n true)
    | [], f :: _ => if egressPasses s f then s.sends (.scan f true) else stopAtHead s f.tag.job
    | [], [] => s := by
  rw [upstreamBegin, h]
  cases hs : s.cu.state with
  | replying r => exact absurd hs (hr r)
  | idle => rfl
  | working k t p => rfl

theorem upstreamBegin_of_notice {n : Notice} {rest : List Notice} (hn : s.status.notices = n :: rest) :
    upstreamBegin s = s.sends (.notice n true) := by
  simp only [upstreamBegin_of_no_reply h hr, hn]

theorem upstreamBegin_of_idle (hn : s.status.notices = []) (hb : s.sp.buffer = []) : upstreamBegin s = s := by
  simp only [upstreamBegin_of_no_reply h hr, hn, hb]

theorem upstreamBegin_of_frame {f : ScanFrame} {rest : List ScanFrame} (hn : s.status.notices = [])
    (hb : s.sp.buffer = f :: rest) :
    upstreamBegin s = if egressPasses s f then s.sends (.scan f true) else stopAtHead s f.tag.job := by
  simp only [upstreamBegin_of_no_reply h hr, hn, hb]

end

theorem stopAtHead_eq (s : State) (h : Fin 16) : stopAtHead s h =
    (let dropped : State := { s with sp := { s.sp with buffer := s.sp.buffer.filter fun g => g.tag.job != h } }
    let t := if ∃ p ∈ s.sp.page, p.tag.job = h then voidScanPage dropped else dropped
    if (t.job h).state = .active then holdJob t h .account else drainTest t h) := by
  have hpage : (State.hasScanPage { s with sp := { s.sp with buffer := s.sp.buffer.filter fun g => g.tag.job != h } } h) =
      true ↔ ∃ p ∈ s.sp.page, p.tag.job = h := hasScanPage_iff _ h
  unfold stopAtHead
  simp only [hpage]
  split <;> simp_all

theorem noticeSent_of_other (h : ∀ n q, s.li.sending ≠ some (.notice n q)) : noticeSent s = s := by
  rw [noticeSent]
  split
  · next hs => exact absurd hs (h _ _)
  · rfl

theorem scanFrameSent_of_other (h : ∀ f q, s.li.sending ≠ some (.scan f q)) : scanFrameSent s = s := by
  rw [scanFrameSent]
  split
  · next hs => exact absurd hs (h _ _)
  · rfl

end

/-- Settles O49: the multiplexer by what waits, the stop at the head, and the frames that have been sent. -/
theorem upstreamFramesSent : Obligations.UpstreamFramesSent := by
  intro s sends entry passes
  have hexec {u : State} (h : upstreamBegin s = u) : exec .upstreamFrameBegin s = .next u := congrArg Host.Outcome.next h
  have hpasses (f : ScanFrame) : egressPasses s f = true ↔ passes f := by
    rw [egressPasses_iff, destEntry_eq, dest_getD] <;> exact Iff.rfl
  refine ⟨fun h => hexec (upstreamBegin_of_sending h), fun h => ⟨fun r hr => hexec (upstreamBegin_of_reply h hr), fun hr =>
    ⟨fun n rest hn => hexec (upstreamBegin_of_notice h hr hn), fun hn => ⟨fun hb => hexec (upstreamBegin_of_idle h hr hn hb),
      fun f rest hb => ⟨fun hp => ?_, fun hp => ?_⟩⟩⟩⟩, fun h => congrArg Host.Outcome.next (noticeSent_of_other h),
    fun n queued h => ?_, fun h => congrArg Host.Outcome.next (scanFrameSent_of_other h), ?_⟩
  · exact hexec ((upstreamBegin_of_frame h hr hn hb).trans (if_pos ((hpasses f).2 hp)))
  · exact hexec ((upstreamBegin_of_frame h hr hn hb).trans
      ((if_neg (mt (hpasses f).1 hp)).trans (stopAtHead_eq s f.tag.job)))
  · refine congrArg Host.Outcome.next ?_
    rw [noticeSent, h]
    cases queued with
    | true => rw [if_pos rfl, List.drop_one]; rfl
    | false => rfl
  · intro f buffered h sent left
    have hsent : scanFrameSent s = if buffered then drainTest (completeScanPage left) f.tag.job else sent := by
      rw [scanFrameSent, h]
      simp only [left, List.drop_one]
      rfl
    refine ⟨fun hb => ?_, fun hb => ⟨_, rfl, ?_⟩⟩
    · exact congrArg Host.Outcome.next (hsent.trans (if_neg (by rw [hb]; decide)))
    · exact congrArg Host.Outcome.next (hsent.trans (if_pos hb))

end Sys2Proof.Machine

/-! PROOFS. The arithmetic of the raster (O59): the band cipher, the weight of a tone, the conversion and the coverage. -/

namespace Sys2Proof.Machine

/-! ### The band cipher (R129) -/

section
variable (key : Key) (k : KeyRef) (page plane index : Nat)

theorem cipherFrom_length (n : Nat) (l : List Byte) : (cipherFrom key k page plane index n l).length = l.length := by
  induction l generalizing n with
  | nil => rfl
  | cons b l ih => rw [cipherFrom, List.length_cons, ih, List.length_cons]

theorem cipherFrom_cipherFrom (n : Nat) (l : List Byte) :
    cipherFrom key k page plane index n (cipherFrom key k page plane index n l) = l := by
  induction l generalizing n with
  | nil => rfl
  | cons b l ih => rw [cipherFrom, cipherFrom, ih, BitVec.xor_assoc, BitVec.xor_self, BitVec.xor_zero]

theorem getElem_cipherFrom (n i : Nat) (l : List Byte) (h : i < l.length)
    (h' : i < (cipherFrom key k page plane index n l).length) :
    (cipherFrom key k page plane index n l)[i] = l[i] ^^^ streamByte key k page plane index (n + i) := by
  induction l generalizing n i with
  | nil => exact absurd h (Nat.not_lt_zero _)
  | cons b l ih =>
    cases i with
    | zero => rfl
    | succ i =>
      have hrest := ih (n + 1) i (Nat.lt_of_succ_lt_succ h) (by rw [cipherFrom_length]; exact Nat.lt_of_succ_lt_succ h)
      rw [Nat.add_right_comm] at hrest
      exact hrest

end

/-! ### The weight of a tone (R68) -/

theorem weights_getD (t : ToneTable) {i : Nat} (h : i < 17) : t.weights.toList.getD i 0 = t.weights[i] := by
  rw [List.getD_eq_getElem _ _ (by simpa using h), Vector.getElem_toList]

theorem weight_eq (t : ToneTable) (tone : Byte) (hi : tone.toNat / 16 < 17) (hj : tone.toNat / 16 + 1 < 17) : t.weight tone =
    (t.weights[tone.toNat / 16] * (16 - tone.toNat % 16) + t.weights[tone.toNat / 16 + 1] * (tone.toNat % 16)) / 16 := by
  rw [ToneTable.weight, weights_getD t hi, weights_getD t hj]

/-- An interpolation between two values up to a bound is within it. -/
theorem interpolation_le {a b f bound : Nat} (ha : a ≤ bound) (hb : b ≤ bound) (hf : f ≤ 16) :
    (a * (16 - f) + b * f) / 16 ≤ bound := by
  have hsum : a * (16 - f) + b * f ≤ bound * 16 := calc
    a * (16 - f) + b * f ≤ bound * (16 - f) + bound * f := Nat.add_le_add (Nat.mul_le_mul_right _ ha) (Nat.mul_le_mul_right _ hb)
    _ = bound * 16 := by rw [← Nat.mul_add, Nat.sub_add_cancel hf]
  exact Nat.div_le_of_le_mul (by omega)

/-! ### The coverage (R71) -/

theorem coverage_le {raw pixels : Nat} (h : raw ≤ 765 * pixels) : coverage raw pixels ≤ 1000 := by
  rw [coverage]
  split
  · decide
  · refine Nat.div_le_of_le_mul ?_
    rw [Nat.mul_comm]
    exact Nat.mul_le_mul_right _ h

theorem coverage_eq_zero_iff (raw pixels : Nat) : coverage raw pixels = 0 ↔ raw = 0 := by
  rw [coverage]
  constructor
  · intro h
    by_contra hraw
    split at h
    · cases h
    · next hn => exact hn ⟨Nat.pos_of_ne_zero hraw, h⟩
  · rintro rfl
    rw [if_neg fun h => Nat.lt_irrefl 0 h.1, Nat.mul_zero, Nat.zero_div]

/-- Settles O59: the cipher byte by byte, the interpolation, the quotient and remainder, and the coverage. -/
theorem rasterArithmetic : Obligations.RasterArithmetic := by
  refine ⟨fun key k page plane index payload => ⟨cipherFrom_length .., cipherFrom_cipherFrom .., fun n h h' => ?_⟩,
    fun t tone hw h0 => ?_, fun acc s c => ?_, fun raw pixels _ h => ⟨coverage_le h, coverage_eq_zero_iff raw pixels⟩⟩
  · have hbyte := getElem_cipherFrom key k page plane index 0 n payload h h'
    rw [Nat.zero_add] at hbyte
    exact hbyte
  · have htone : tone.toNat < 256 := tone.isLt
    have hi : tone.toNat / 16 < 17 := by omega
    have hj : tone.toNat / 16 + 1 < 17 := by omega
    refine ⟨?_, ?_, weight_eq t tone hi hj⟩
    · rw [weight_eq t tone hi hj]
      exact interpolation_le (hw ⟨_, hi⟩) (hw ⟨_, hj⟩) (by omega)
    · have hwhite := weight_eq t 0 (by decide) (by decide)
      have hfirst : t.weights[(0 : Byte).toNat / 16] = 0 := h0
      rw [hwhite, hfirst]
      simp
  · intro r
    have hslot : (r.1.slot c).residue = r.2.residue := congrArg Cartridge.residue (State.slot_setSlot_self s c _)
    exact ⟨Nat.div_add_mod' _ _, hslot, Nat.mod_lt _ (by decide)⟩

end Sys2Proof.Machine

/-! PROOFS. Fields of a byte string (section 12.1, R182) and the row image (section 12.5): what a field reads in a string put
together from parts, and that an image is valid. -/

namespace Sys2Proof.Machine

/-! ### Numbers in bytes -/

theorem beNat_cons (b : Byte) (l : List Byte) : beNat (b :: l) = b.toNat * 256 ^ l.length + beNat l := by
  have hfold (a : Nat) (l : List Byte) : l.foldl (fun acc b => acc * 256 + b.toNat) a = a * 256 ^ l.length + beNat l := by
    induction l generalizing a with
    | nil => simp [beNat]
    | cons c l ih =>
      have hrest : beNat (c :: l) = (0 * 256 + c.toNat) * 256 ^ l.length + beNat l := ih _
      rw [List.foldl_cons, ih, hrest, List.length_cons, Nat.pow_succ]
      ring
  rw [beNat, List.foldl_cons, hfold]
  simp

theorem beNat_beBytes (w v : Nat) : beNat (beBytes w v) = v % 256 ^ w := by
  induction w with
  | zero => simp [beBytes, beNat, Nat.mod_one]
  | succ w ih =>
    have hbyte : (BitVec.ofNat 8 (v / 256 ^ w)).toNat = v / 256 ^ w % 256 := BitVec.toNat_ofNat _ _
    rw [beBytes, beNat_cons, ih, length_beBytes, hbyte, Nat.pow_succ, Nat.mod_mul, Nat.add_comm, Nat.mul_comm]

/-! ### Fields -/

theorem fieldAt_append_right {l m : List Byte} {off len : Nat} (h : l.length ≤ off) :
    fieldAt (l ++ m) off len = fieldAt m (off - l.length) len := by
  rw [fieldAt, List.drop_append, List.drop_eq_nil_of_le h, List.nil_append, fieldAt]

theorem fieldAt_append_left {l m : List Byte} {off len : Nat} (h : off + len ≤ l.length) :
    fieldAt (l ++ m) off len = fieldAt l off len := by
  rw [fieldAt, List.drop_append_of_le_length (by omega), List.take_append_of_le_length (by rw [List.length_drop]; omega),
    fieldAt]

theorem fieldAt_beBytes (w v : Nat) : fieldAt (beBytes w v) 0 w = v % 256 ^ w := by
  rw [fieldAt, List.drop_zero, List.take_of_length_le (by simp), beNat_beBytes]

theorem fieldAt_beBytes_append (w v : Nat) (l : List Byte) : fieldAt (beBytes w v ++ l) 0 w = v % 256 ^ w := by
  rw [fieldAt_append_left (by simp), fieldAt_beBytes]

theorem fieldAt_cons_zero (b : Byte) (l : List Byte) : fieldAt (b :: l) 0 1 = b.toNat := by
  simp [fieldAt, beNat]

theorem fieldAt_cons_succ (b : Byte) (l : List Byte) (off len : Nat) : fieldAt (b :: l) (off + 1) len = fieldAt l off len := rfl

theorem getD_eq_fieldAt (l : List Byte) (n : Nat) : l.getD n 0 = BitVec.ofNat 8 (fieldAt l n 1) := by
  induction l generalizing n with
  | nil => simp [fieldAt, beNat]
  | cons b l ih =>
    cases n with
    | zero => rw [fieldAt_cons_zero]; simp
    | succ n => rw [fieldAt_cons_succ, ← ih]; rfl

/-- A field of one element of a table whose elements take `w` bytes each. -/
theorem fieldAt_flatMap {α : Type} {f : α → List Byte} {w : Nat} (hf : ∀ a, (f a).length = w) (l : List α) (i : Nat)
    (hi : i < l.length) (rest : List Byte) {off len : Nat} (ho : off + len ≤ w) :
    fieldAt (l.flatMap f ++ rest) (w * i + off) len = fieldAt (f l[i]) off len := by
  induction l generalizing i with
  | nil => exact absurd hi (Nat.not_lt_zero _)
  | cons a l ih =>
    rw [List.flatMap_cons, List.append_assoc]
    cases i with
    | zero => rw [Nat.mul_zero, Nat.zero_add, fieldAt_append_left (by rw [hf]; exact ho)]; rfl
    | succ i =>
      rw [fieldAt_append_right (by rw [hf, Nat.mul_succ]; omega), hf]
      have hoff : w * (i + 1) + off - w = w * i + off := by rw [Nat.mul_succ]; omega
      rw [hoff, ih i (Nat.lt_of_succ_lt_succ hi)]
      rfl

theorem length_flatMap_of_length {α : Type} {f : α → List Byte} {w : Nat} (hf : ∀ a, (f a).length = w) (l : List α) :
    (l.flatMap f).length = w * l.length := by
  induction l with
  | nil => rfl
  | cons a l ih => rw [List.flatMap_cons, List.length_append, ih, hf, List.length_cons]; ring

/-! ### Row images -/

/-- An image starts with its content. -/
theorem rowImage_eq {content : List Byte} (h : content.length ≤ 60) : ∃ rest, rowImage content = content ++ rest := by
  refine ⟨(List.replicate (60 - content.length) 0x00#8 ++
    u32 (crc32 ((content ++ List.replicate (60 - content.length) 0x00#8).take 60))), ?_⟩
  rw [rowImage, List.take_of_length_le (by simp [h]), List.append_assoc]

/-- An image whose content leaves room for fill is valid: its last content byte is 0, and its check is its own. -/
theorem rowCondition_rowImage {content : List Byte} (h : content.length < 60) : rowCondition (rowImage content) = .valid := by
  obtain ⟨body, hbody⟩ : ∃ body, body = (content ++ List.replicate (60 - content.length) 0x00#8).take 60 := ⟨_, rfl⟩
  have hlen : body.length = 60 := by rw [hbody]; simp; omega
  have hfill : (0x00#8 : Byte) ∈ body := by
    rw [hbody, List.take_of_length_le (by simp; omega), List.mem_append, List.mem_replicate]
    exact Or.inr ⟨by omega, rfl⟩
  have himage : rowImage content = body ++ u32 (crc32 body) := by rw [rowImage, ← hbody]
  have hblank : ¬(rowImage content).all (· == 0xFF#8) = true := by
    rw [himage, List.all_eq_true]
    exact fun hall => absurd (hall _ (List.mem_append_left _ hfill)) (by decide)
  have hcheck : (rowImage content).drop 60 = u32 (crc32 ((rowImage content).take 60)) := by
    rw [himage, ← hlen, List.drop_left, List.take_left]
  rw [rowCondition, if_neg hblank, if_pos hcheck]

end Sys2Proof.Machine

/-! PROOFS. The row images of the owners are read back as they were written (O60). -/

namespace Sys2Proof.Machine

theorem fieldAt_append_add {pre l : List Byte} {k off len : Nat} (h : pre.length = k) :
    fieldAt (pre ++ l) (k + off) len = fieldAt l off len := by
  subst h
  rw [fieldAt_append_right (Nat.le_add_right _ _), Nat.add_sub_cancel_left]

@[simp] theorem length_u16 (n : Nat) : (u16 n).length = 2 := length_beBytes 2 n

@[simp] theorem length_u32 (n : Nat) : (u32 n).length = 4 := length_beBytes 4 n

theorem fieldAt_beBytes_of_lt {w v : Nat} (h : v < 256 ^ w) (l : List Byte) : fieldAt (beBytes w v ++ l) 0 w = v := by
  rw [fieldAt_beBytes_append]
  exact Nat.mod_eq_of_lt h

theorem fieldAt_u32 {n : Nat} (h : n < 4294967296) (l : List Byte) : fieldAt (u32 n ++ l) 0 4 = n := by
  rw [u32, fieldAt_beBytes_append]
  exact Nat.mod_eq_of_lt h

theorem fieldAt_u16 {n : Nat} (h : n < 65536) (l : List Byte) : fieldAt (u16 n ++ l) 0 2 = n := by
  rw [u16, fieldAt_beBytes_append]
  exact Nat.mod_eq_of_lt h

theorem fieldAt_u8 {n : Nat} (h : n < 256) (l : List Byte) : fieldAt (u8 n :: l) 0 1 = n := by
  rw [fieldAt_cons_zero, u8, BitVec.toNat_ofNat]
  exact Nat.mod_eq_of_lt h

/-! ### Account rows -/

/-- The content of an account row. -/
def accountContent (a : Account) : List Byte :=
  u32 a.id ++ [u8 a.state.code, u8 a.privileges.toNat, 0, 0] ++ u32 a.quota ++ u32 a.charged ++
    a.counters.toList.flatMap u32 ++ [u8 a.window1.base, u8 a.window1.limit, u8 a.window2.base, u8 a.window2.limit] ++
    u32 a.lastCharge

theorem length_accountContent (a : Account) : (accountContent a).length = 52 := by
  simp [accountContent]

theorem encodeAccount_of_present {a : Account} (h : a.state ≠ .absent) : encodeAccount a = rowImage (accountContent a) :=
  if_neg h

theorem AccountState.ofByte_code {x : AccountState} (h : x ≠ .absent) : AccountState.ofByte (u8 x.code) = some x := by
  cases x with
  | absent => exact absurd rfl h
  | enabled => rfl
  | suspended => rfl

theorem privileges_byte (p : BitVec 3) : (u8 p.toNat).extractLsb' 0 3 = p := by
  apply BitVec.eq_of_toNat_eq
  have hp : p.toNat < 8 := p.isLt
  simp [u8, BitVec.extractLsb'_toNat]
  omega

theorem decodeAccount_encode {a : Account} (hid : a.id ≠ 0) (hid' : a.id < 4294967296) (hs : a.state ≠ .absent)
    (hq : a.quota < 4294967296) (hc : a.charged ≤ a.quota) (hn : ∀ i : Fin 7, a.counters[i] < 4294967296)
    (hb1 : a.window1.base < 256) (hl1 : a.window1.limit < 256) (hb2 : a.window2.base < 256) (hl2 : a.window2.limit < 256)
    (hlast : a.lastCharge < 4294967296) :
    decodeAccount (encodeAccount a) = { a with reserved := 0, dirty := false, sinceFlush := 0 } := by
  obtain ⟨rest, hrow⟩ := rowImage_eq (content := accountContent a) (by rw [length_accountContent]; decide)
  rw [encodeAccount_of_present hs, hrow]
  have hcharged : a.charged < 4294967296 := Nat.lt_of_le_of_lt hc hq
  obtain ⟨row, hrest⟩ : ∃ row, row = accountContent a ++ rest := ⟨_, rfl⟩
  have hid0 : fieldAt row 0 4 = a.id := by
    simp [hrest, accountContent, fieldAt_u32 hid']
  have hstate : row.getD 4 0 = u8 a.state.code := by
    rw [getD_eq_fieldAt]
    simp [hrest, accountContent, fieldAt_append_right, fieldAt_cons_zero]
  have hpriv : row.getD 5 0 = u8 a.privileges.toNat := by
    rw [getD_eq_fieldAt]
    simp [hrest, accountContent, fieldAt_append_right, fieldAt_cons_succ, fieldAt_cons_zero]
  have hquota : fieldAt row 8 4 = a.quota := by
    simp [hrest, accountContent, fieldAt_append_right, fieldAt_cons_succ, fieldAt_u32 hq]
  have hcharge : fieldAt row 12 4 = a.charged := by
    simp [hrest, accountContent, fieldAt_append_right, fieldAt_cons_succ, fieldAt_u32 hcharged]
  have hcounter (i : Fin 7) : fieldAt row (16 + 4 * i.val) 4 = a.counters[i] := by
    have hskip : row = (u32 a.id ++ [u8 a.state.code, u8 a.privileges.toNat, 0, 0] ++ u32 a.quota ++ u32 a.charged) ++
        (a.counters.toList.flatMap u32 ++ ([u8 a.window1.base, u8 a.window1.limit, u8 a.window2.base,
          u8 a.window2.limit] ++ u32 a.lastCharge ++ rest)) := by
      rw [hrest, accountContent]
      simp only [List.append_assoc]
    rw [hskip, fieldAt_append_add (by simp), ← Nat.add_zero (4 * i.val),
      fieldAt_flatMap length_u32 _ i.val (by simp) _ (by decide), Vector.getElem_toList, u32, fieldAt_beBytes]
    exact Nat.mod_eq_of_lt (hn i)
  have hbase1 : fieldAt row 44 1 = a.window1.base := by
    simp [hrest, accountContent, fieldAt_append_right, fieldAt_cons_succ, fieldAt_u8 hb1]
  have hlimit1 : fieldAt row 45 1 = a.window1.limit := by
    simp [hrest, accountContent, fieldAt_append_right, fieldAt_cons_succ, fieldAt_u8 hl1]
  have hbase2 : fieldAt row 46 1 = a.window2.base := by
    simp [hrest, accountContent, fieldAt_append_right, fieldAt_cons_succ, fieldAt_u8 hb2]
  have hlimit2 : fieldAt row 47 1 = a.window2.limit := by
    simp [hrest, accountContent, fieldAt_append_right, fieldAt_cons_succ, fieldAt_u8 hl2]
  have htime : fieldAt row 48 4 = a.lastCharge := by
    simp [hrest, accountContent, fieldAt_append_right, fieldAt_cons_succ, fieldAt_u32 hlast]
  have hcounters : (Vector.ofFn fun i : Fin 7 => fieldAt row (16 + 4 * i.val) 4) = a.counters := by
    refine Vector.ext fun i hi => ?_
    rw [Vector.getElem_ofFn]
    exact hcounter ⟨i, hi⟩
  rw [← hrest, decodeAccount, hstate, AccountState.ofByte_code hs]
  dsimp only
  rw [hid0, if_neg hid, hpriv, privileges_byte, hquota, hcharge, Nat.min_eq_right hc, hcounters, hbase1, hlimit1, hbase2,
    hlimit2, htime]

theorem accountRow_valid (a : Account) (h : a.state ≠ .absent) : rowCondition (encodeAccount a) = .valid := by
  rw [encodeAccount_of_present h]
  exact rowCondition_rowImage (by rw [length_accountContent]; decide)

/-- The image of an ABSENT record: fill alone, which no state reads. -/
theorem absentAccount_image {a : Account} (h : a.state = .absent) :
    rowCondition (encodeAccount a) = .valid ∧ decodeAccount (encodeAccount a) = Account.blank := by
  rw [encodeAccount, if_pos h]
  exact ⟨rowCondition_rowImage (by decide), rfl⟩

/-! ### History rows -/

/-- The content of a history row. -/
def historyContent (h : HistoryRow) : List Byte :=
  [u8 h.event.code, u8 h.slot, 0, 0] ++ beBytes 8 h.serial.toNat ++ u32 h.mirror ++ u32 h.insertionTime ++
    u32 h.eventTime ++ u32 h.developed ++ u32 h.overdraw

theorem length_historyContent (h : HistoryRow) : (historyContent h).length = 32 := by
  simp [historyContent]

theorem decodeHistory_encode {h : HistoryRow} (hm : h.mirror < 4294967296) (hi : h.insertionTime < 4294967296)
    (he : h.eventTime < 4294967296) (hd : h.developed < 4294967296) (ho : h.overdraw < 4294967296) :
    decodeHistory (encodeHistory (some h)) = some h := by
  obtain ⟨rest, hrow⟩ := rowImage_eq (content := historyContent h) (by rw [length_historyContent]; decide)
  obtain ⟨row, hrest⟩ : ∃ row, row = historyContent h ++ rest := ⟨_, rfl⟩
  have hencode : encodeHistory (some h) = row := hrow.trans hrest.symm
  have hevent : row.getD 0 0 = u8 h.event.code := by
    rw [getD_eq_fieldAt]
    simp [hrest, historyContent, fieldAt_cons_zero]
  have hslot : row.getD 1 0 = u8 h.slot := by
    rw [getD_eq_fieldAt]
    simp [hrest, historyContent, fieldAt_cons_succ, fieldAt_cons_zero]
  have hserial : fieldAt row 4 8 = h.serial.toNat := by
    have hlt : h.serial.toNat < 256 ^ 8 := h.serial.isLt
    simp [hrest, historyContent, fieldAt_cons_succ, fieldAt_beBytes_of_lt hlt]
  have hmirror : fieldAt row 12 4 = h.mirror := by
    simp [hrest, historyContent, fieldAt_append_right, fieldAt_cons_succ, fieldAt_u32 hm]
  have hinsertion : fieldAt row 16 4 = h.insertionTime := by
    simp [hrest, historyContent, fieldAt_append_right, fieldAt_cons_succ, fieldAt_u32 hi]
  have htime : fieldAt row 20 4 = h.eventTime := by
    simp [hrest, historyContent, fieldAt_append_right, fieldAt_cons_succ, fieldAt_u32 he]
  have hdeveloped : fieldAt row 24 4 = h.developed := by
    simp [hrest, historyContent, fieldAt_append_right, fieldAt_cons_succ, fieldAt_u32 hd]
  have hoverdraw : fieldAt row 28 4 = h.overdraw := by
    simp [hrest, historyContent, fieldAt_append_right, fieldAt_cons_succ, fieldAt_u32 ho]
  have hindex : indexOf 4 (u8 h.slot) = some h.slot := indexOf_eq_some (by
    have hlt : h.slot.val < 4 := h.slot.isLt
    rw [u8, BitVec.toNat_ofNat]; omega)
  rw [hencode, decodeHistory, hevent, hslot, hindex, hserial, hmirror, hinsertion, htime, hdeveloped, hoverdraw,
    BitVec.ofNat_toNat, BitVec.setWidth_eq]
  obtain ⟨event, _⟩ := h
  cases event <;> rfl

/-! ### Key rows -/

/-- The content of a key row. -/
def keyContent (k : KeySlot) : List Byte :=
  u16 k.generation.toNat ++ u32 k.owner ++ beBytes 16 k.cipherKey.toNat ++ beBytes 16 k.checkKey.toNat ++
    u32 k.created ++ u32 (k.expiry.getD 0) ++ [u8 k.releases]

theorem length_keyContent (k : KeySlot) : (keyContent k).length = 47 := by
  simp [keyContent]

theorem decodeKeySlot_encode {k : KeySlot} {e : Nat} (ho : k.owner < 4294967296) (hc : k.created < 4294967296)
    (hx : k.expiry = some e) (he : e < 4294967296) (hr : k.releases < 256) : decodeKeySlot (encodeKeySlot k) =
      { k with state := .retained, persisted := true, naming := none, cause := none, rowRequest := .none } := by
  obtain ⟨rest, hrow⟩ := rowImage_eq (content := keyContent k) (by rw [length_keyContent]; decide)
  obtain ⟨row, hrest⟩ : ∃ row, row = keyContent k ++ rest := ⟨_, rfl⟩
  have hencode : encodeKeySlot k = row := hrow.trans hrest.symm
  have hgeneration : fieldAt row 0 2 = k.generation.toNat := by
    simp [hrest, keyContent, fieldAt_u16 k.generation.isLt]
  have howner : fieldAt row 2 4 = k.owner := by
    simp [hrest, keyContent, fieldAt_append_right, fieldAt_u32 ho]
  have hcipher : fieldAt row 6 16 = k.cipherKey.toNat := by
    have hlt : k.cipherKey.toNat < 256 ^ 16 := k.cipherKey.isLt
    simp [hrest, keyContent, fieldAt_append_right, fieldAt_beBytes_of_lt hlt]
  have hcheck : fieldAt row 22 16 = k.checkKey.toNat := by
    have hlt : k.checkKey.toNat < 256 ^ 16 := k.checkKey.isLt
    simp [hrest, keyContent, fieldAt_append_right, fieldAt_beBytes_of_lt hlt]
  have hcreated : fieldAt row 38 4 = k.created := by
    simp [hrest, keyContent, fieldAt_append_right, fieldAt_u32 hc]
  have hexpiry : fieldAt row 42 4 = e := by
    simp [hrest, keyContent, fieldAt_append_right, hx, fieldAt_u32 he]
  have hreleases : fieldAt row 46 1 = k.releases := by
    simp [hrest, keyContent, fieldAt_append_right, fieldAt_u8 hr]
  rw [hencode, decodeKeySlot, hgeneration, howner, hcipher, hcheck, hcreated, hexpiry, hreleases, ← hx]
  simp

end Sys2Proof.Machine

/-! PROOFS. The images of the settings rows and the egress rows, and the round trip of every image (O60). -/

namespace Sys2Proof.Machine

/-! ### Tone tables -/

theorem length_weights (v : Vector Nat 17) : (v.toList.flatMap u16).length = 34 := by
  rw [length_flatMap_of_length length_u16, Vector.length_toList]

/-- The content of a tone table's row. -/
def toneContent (t : ToneTable) : List Byte := t.weights.toList.flatMap u16 ++ u16 t.gain

theorem length_toneContent (t : ToneTable) : (toneContent t).length = 36 := by
  rw [toneContent, List.length_append, length_weights, length_u16]

theorem decodeToneTable_image {t : ToneTable} (h0 : t.weights[0] = 0) (hw : ∀ i : Fin 17, t.weights[i] ≤ 4095)
    (hg : 1 ≤ t.gain) (hg' : t.gain < 65536) : decodeToneTable (rowImage (toneContent t)) = t := by
  obtain ⟨rest, hrow⟩ := rowImage_eq (content := toneContent t) (by rw [length_toneContent]; decide)
  have hweight (i : Fin 17) : fieldAt (toneContent t ++ rest) (2 * i.val) 2 = t.weights[i] := by
    have hlt : t.weights[i] < 65536 := Nat.lt_of_le_of_lt (hw i) (by decide)
    rw [toneContent, List.append_assoc, ← Nat.add_zero (2 * i.val),
      fieldAt_flatMap length_u16 _ i.val (by simp) _ (by decide), Vector.getElem_toList, u16, fieldAt_beBytes]
    exact Nat.mod_eq_of_lt hlt
  have hgain : fieldAt (toneContent t ++ rest) 34 2 = t.gain := by
    rw [toneContent, List.append_assoc]
    exact (fieldAt_append_add (off := 0) (length_weights t.weights)).trans (fieldAt_u16 hg' _)
  have hweights : storedWeights (Vector.ofFn fun i => fieldAt (toneContent t ++ rest) (2 * i.val) 2) = t.weights := by
    refine Vector.ext fun i hi => ?_
    rw [storedWeights, Vector.getElem_ofFn]
    by_cases hz : i = 0
    · subst hz
      rw [if_pos rfl, h0]
    · rw [if_neg hz, Fin.getElem_fin, Vector.getElem_ofFn, hweight ⟨i, hi⟩]
      exact Nat.min_eq_right (hw ⟨i, hi⟩)
  rw [hrow, decodeToneTable, hweights, hgain, storedGain, Nat.max_eq_right hg]

/-! ### The settings of row 2 -/

/-- A channel's part of row 2. -/
def channelBytes (c : Channel) : List Byte := u8 c.saved.1.code :: u16 c.saved.2

theorem length_channelBytes (c : Channel) : (channelBytes c).length = 3 := rfl

/-- The content of row 2. -/
def settingsContent (s : State) : List Byte :=
  u32 s.now ++ [u8 s.ms.lock.toNat] ++ s.acct.prices.toList.flatMap u16 ++ [u8 s.acct.postscale] ++
    u16 s.dm.threshold ++ [u8 s.tu.policy.code] ++ u16 s.tu.lowMark ++ u32 s.tu.step ++
    beBytes 2 (s.tb.trim % 65536).toNat ++ s.tb.channels.toList.flatMap channelBytes

theorem length_prices (v : Vector Nat 7) : (v.toList.flatMap u16).length = 14 := by
  rw [length_flatMap_of_length length_u16, Vector.length_toList]

theorem length_channels (v : Vector Channel 4) : (v.toList.flatMap channelBytes).length = 12 := by
  rw [length_flatMap_of_length length_channelBytes, Vector.length_toList]

theorem length_settingsContent (s : State) : (settingsContent s).length = 43 := by
  simp only [settingsContent, List.length_append, length_prices, length_channels, length_u32, length_u16, length_beBytes,
    List.length_singleton]

theorem Tap.ofCode_code (x : Tap) : Tap.ofCode x.code = some x := by cases x <;> rfl

theorem Policy.ofByte_code (x : Policy) : Policy.ofByte (u8 x.code) = some x := by cases x <;> rfl

/-- A trim survives its two bytes. -/
theorem signed16_trim {t : Int} (hl : -1023 ≤ t) (hu : t ≤ 1023) : signed16 (t % 65536).toNat = t := by
  rw [signed16, BitVec.toInt_eq_toNat_bmod, BitVec.toNat_ofNat, Int.bmod_def]
  omega

theorem decodeSettings_image {s : State} (hp : ∀ i : Fin 7, s.acct.prices[i] < 65536) (h1 : 1 ≤ s.acct.postscale)
    (h2 : s.acct.postscale ≤ 16) (ht : s.dm.threshold ≤ 1000) (hm : s.tu.lowMark ≤ 1000) (h3 : 1 ≤ s.tu.step)
    (h4 : s.tu.step ≤ 16777216) (h5 : -1023 ≤ s.tb.trim) (h6 : s.tb.trim ≤ 1023)
    (hc : ∀ c : Fin 4, 1 ≤ (s.channel c).saved.2 ∧ (s.channel c).saved.2 < 65536) :
    decodeSettings (rowImage (settingsContent s)) =
      { lock := s.ms.lock, prices := s.acct.prices, postscale := s.acct.postscale, threshold := s.dm.threshold,
        policy := s.tu.policy, lowMark := s.tu.lowMark, step := s.tu.step, trim := s.tb.trim,
        channels := s.tb.channels.map Channel.saved } := by
  obtain ⟨rest, hrow⟩ := rowImage_eq (content := settingsContent s) (by rw [length_settingsContent]; decide)
  obtain ⟨row, hrest⟩ : ∃ row, row = settingsContent s ++ rest := ⟨_, rfl⟩
  have hlock : fieldAt row 4 1 = s.ms.lock.toNat := by
    simp [hrest, settingsContent, fieldAt_append_right, fieldAt_u8 (Nat.lt_of_lt_of_le (Bool.toNat_lt _) (by decide))]
  have hprice (i : Fin 7) : fieldAt row (5 + 2 * i.val) 2 = s.acct.prices[i] := by
    have hskip : row = (u32 s.now ++ [u8 s.ms.lock.toNat]) ++ (s.acct.prices.toList.flatMap u16 ++
        ([u8 s.acct.postscale] ++ u16 s.dm.threshold ++ [u8 s.tu.policy.code] ++ u16 s.tu.lowMark ++ u32 s.tu.step ++
          beBytes 2 (s.tb.trim % 65536).toNat ++ s.tb.channels.toList.flatMap channelBytes ++ rest)) := by
      rw [hrest, settingsContent]
      simp only [List.append_assoc]
    rw [hskip, fieldAt_append_add (by simp), ← Nat.add_zero (2 * i.val),
      fieldAt_flatMap length_u16 _ i.val (by simp) _ (by decide), Vector.getElem_toList, u16, fieldAt_beBytes]
    exact Nat.mod_eq_of_lt (hp i)
  have hpostscale : fieldAt row 19 1 = s.acct.postscale := by
    simp [hrest, settingsContent, fieldAt_append_right, fieldAt_cons_succ,
      fieldAt_u8 (Nat.lt_of_le_of_lt h2 (by decide : 16 < 256))]
  have hthreshold : fieldAt row 20 2 = s.dm.threshold := by
    simp [hrest, settingsContent, fieldAt_append_right, fieldAt_cons_succ,
      fieldAt_u16 (Nat.lt_of_le_of_lt ht (by decide : 1000 < 65536))]
  have hpolicy : row.getD 22 0 = u8 s.tu.policy.code := by
    rw [getD_eq_fieldAt]
    simp [hrest, settingsContent, fieldAt_append_right, fieldAt_cons_succ, fieldAt_cons_zero]
  have hlow : fieldAt row 23 2 = s.tu.lowMark := by
    simp [hrest, settingsContent, fieldAt_append_right, fieldAt_cons_succ,
      fieldAt_u16 (Nat.lt_of_le_of_lt hm (by decide : 1000 < 65536))]
  have hstep : fieldAt row 25 4 = s.tu.step := by
    simp [hrest, settingsContent, fieldAt_append_right, fieldAt_cons_succ,
      fieldAt_u32 (Nat.lt_of_le_of_lt h4 (by decide : 16777216 < 4294967296))]
  have htrim : fieldAt row 29 2 = (s.tb.trim % 65536).toNat := by
    have hlt : (s.tb.trim % 65536).toNat < 256 ^ 2 := by omega
    simp [hrest, settingsContent, fieldAt_append_right, fieldAt_cons_succ, fieldAt_beBytes_of_lt hlt]
  have hchannel (c : Fin 4) {off len : Nat} (ho : off + len ≤ 3) :
      fieldAt row (31 + (3 * c.val + off)) len = fieldAt (channelBytes (s.channel c)) off len := by
    have hskip : row = (u32 s.now ++ [u8 s.ms.lock.toNat] ++ s.acct.prices.toList.flatMap u16 ++ [u8 s.acct.postscale] ++
        u16 s.dm.threshold ++ [u8 s.tu.policy.code] ++ u16 s.tu.lowMark ++ u32 s.tu.step ++
        beBytes 2 (s.tb.trim % 65536).toNat) ++ (s.tb.channels.toList.flatMap channelBytes ++ rest) := by
      rw [hrest, settingsContent]
      simp only [List.append_assoc]
    rw [hskip, fieldAt_append_add (by simp), fieldAt_flatMap length_channelBytes _ c.val (by simp) _ ho,
      Vector.getElem_toList]
    rfl
  have htap (c : Fin 4) : fieldAt row (31 + 3 * c.val) 1 = (s.channel c).saved.1.code := by
    have hlt : (s.channel c).saved.1.code < 256 := by cases (s.channel c).saved.1 <;> decide
    exact (hchannel c (off := 0) (by decide)).trans (fieldAt_u8 hlt _)
  have hperiod (c : Fin 4) : fieldAt row (32 + 3 * c.val) 2 = (s.channel c).saved.2 := by
    have hoff : 32 + 3 * c.val = 31 + (3 * c.val + 1) := by omega
    rw [hoff, hchannel c (by decide), channelBytes, fieldAt_cons_succ, u16, fieldAt_beBytes]
    exact Nat.mod_eq_of_lt (hc c).2
  have hprices : (Vector.ofFn fun i : Fin 7 => fieldAt row (5 + 2 * i.val) 2) = s.acct.prices := by
    refine Vector.ext fun i hi => ?_
    rw [Vector.getElem_ofFn]
    exact hprice ⟨i, hi⟩
  have hchannels : (Vector.ofFn fun c : Fin 4 =>
      ((Tap.ofCode (fieldAt row (31 + 3 * c.val) 1)).getD defaultChannelSettings[c].1,
        storedPeriod (fieldAt row (32 + 3 * c.val) 2))) = s.tb.channels.map Channel.saved := by
    refine Vector.ext fun c hc' => ?_
    rw [Vector.getElem_ofFn, Vector.getElem_map, htap ⟨c, hc'⟩, hperiod ⟨c, hc'⟩, Tap.ofCode_code, storedPeriod,
      Nat.max_eq_right (hc ⟨c, hc'⟩).1]
    rfl
  have hlockset : (s.ms.lock.toNat != 0) = s.ms.lock := by cases s.ms.lock <;> rfl
  rw [hrow, ← hrest, decodeSettings, hlock, hlockset, hprices, hpostscale, clampPostscale, Nat.max_eq_right h1,
    Nat.min_eq_right h2, hthreshold, storedThreshold, Nat.min_eq_right ht, hpolicy, Policy.ofByte_code, hlow, storedLowMark,
    Nat.min_eq_right hm, hstep, storedStep, Nat.max_eq_right h3, Nat.min_eq_right h4, htrim, signed16_trim h5 h6, storedTrim,
    max_eq_right h5, min_eq_right h6, hchannels]
  rfl

/-! ### Egress rows -/

/-- The mode bits of an egress row: bit `i` is set where entry `i` is CIPHER. -/
def modeBits (l : List EgressEntry) : Nat := (l.mapIdx fun i x => if x.mode = .cipher then 2 ^ i else 0).sum

theorem modeBits_cons (x : EgressEntry) (l : List EgressEntry) :
    modeBits (x :: l) = 2 * modeBits l + (decide (x.mode = .cipher)).toNat := by
  have hshift (l : List EgressEntry) (k : Nat) : (l.mapIdx fun i x => if x.mode = .cipher then 2 ^ (i + k + 1) else 0).sum =
      2 * (l.mapIdx fun i x => if x.mode = .cipher then 2 ^ (i + k) else 0).sum := by
    induction l generalizing k with
    | nil => rfl
    | cons y l ih =>
      rw [List.mapIdx_cons, List.mapIdx_cons, List.sum_cons, List.sum_cons, Nat.mul_add]
      have hrest := ih (k + 1)
      simp only [Nat.zero_add, Nat.add_right_comm _ 1 k, Nat.add_assoc _ k 1] at hrest ⊢
      rw [hrest]
      split
      · rw [Nat.pow_succ, Nat.mul_comm]
      · rfl
  have hrest := hshift l 0
  rw [modeBits, List.mapIdx_cons, List.sum_cons, modeBits, Nat.add_comm]
  simp only [Nat.add_zero] at hrest
  rw [hrest]
  by_cases h : x.mode = .cipher <;> simp [h]

theorem testBit_modeBits (l : List EgressEntry) (i : Nat) (h : i < l.length) :
    (modeBits l).testBit i = decide (l[i].mode = .cipher) := by
  induction l generalizing i with
  | nil => exact absurd h (Nat.not_lt_zero _)
  | cons x l ih =>
    rw [modeBits_cons]
    cases i with
    | zero => by_cases hx : x.mode = .cipher <;> simp [Nat.testBit_zero, hx]
    | succ i =>
      have hhalf : (2 * modeBits l + (decide (x.mode = .cipher)).toNat) / 2 = modeBits l := by
        have := Bool.toNat_lt (decide (x.mode = .cipher)); omega
      rw [Nat.testBit_succ, hhalf, ih i (Nat.lt_of_succ_lt_succ h)]
      rfl

/-- The content of an egress row. -/
def egressContent (l : List EgressEntry) : List Byte :=
  u16 (modeBits l) ++ l.flatMap (fun x => u16 x.retention) ++ l.map fun x => u8 x.releases

theorem length_egressContent {l : List EgressEntry} (h : l.length = 16) : (egressContent l).length = 50 := by
  rw [egressContent, List.length_append, List.length_append, length_flatMap_of_length (w := 2) (fun _ => rfl), h,
    List.length_map, h, length_u16]

theorem map_u8_eq_flatMap (l : List EgressEntry) : (l.map fun x => u8 x.releases) = l.flatMap fun x => [u8 x.releases] := by
  induction l with
  | nil => rfl
  | cons x l ih => rw [List.map_cons, ih]; rfl

theorem decodeEgress_image {l : List EgressEntry} (hl : l.length = 16) {cls : Fin 256} {x : EgressEntry}
    (hx : l[cls.val % 16]'(by omega) = x) (h1 : 1 ≤ x.retention) (h2 : x.retention < 65536) (h3 : 1 ≤ x.releases)
    (h4 : x.releases < 256) (h0 : cls.val = 0 → x.mode = .cipher) :
    decodeEgress cls (rowImage (egressContent l)) = x := by
  obtain ⟨rest, hrow⟩ := rowImage_eq (content := egressContent l) (by rw [length_egressContent hl]; decide)
  obtain ⟨row, hrest⟩ : ∃ row, row = egressContent l ++ rest := ⟨_, rfl⟩
  have hi : cls.val % 16 < l.length := by omega
  have hmode : (fieldAt row 0 2).testBit (cls.val % 16) = decide (x.mode = .cipher) := by
    have hfield : fieldAt row 0 2 = modeBits l % 2 ^ 16 := by
      rw [hrest, egressContent, List.append_assoc, List.append_assoc, u16, fieldAt_beBytes_append]
      rfl
    have hlt : cls.val % 16 < 16 := Nat.mod_lt _ (by decide)
    rw [hfield, Nat.testBit_mod_two_pow, testBit_modeBits l _ hi, hx, decide_eq_true hlt, Bool.true_and]
  have hretention : fieldAt row (2 + 2 * (cls.val % 16)) 2 = x.retention := by
    rw [hrest, egressContent, List.append_assoc, List.append_assoc, fieldAt_append_add (length_u16 _),
      ← Nat.add_zero (2 * (cls.val % 16)), fieldAt_flatMap (w := 2) (fun _ => rfl) _ _ hi _ (by decide), hx, u16,
      fieldAt_beBytes]
    exact Nat.mod_eq_of_lt h2
  have hreleases : fieldAt row (34 + cls.val % 16) 1 = x.releases := by
    have hlen : (u16 (modeBits l) ++ l.flatMap fun x => u16 x.retention).length = 34 := by
      rw [List.length_append, length_flatMap_of_length (w := 2) (fun _ => rfl), hl, length_u16]
    have hone := fieldAt_flatMap (f := fun x : EgressEntry => [u8 x.releases]) (w := 1) (fun _ => rfl) l (cls.val % 16) hi
      rest (off := 0) (len := 1) (by decide)
    rw [Nat.one_mul, Nat.add_zero] at hone
    rw [hrest, egressContent, List.append_assoc, fieldAt_append_add hlen, map_u8_eq_flatMap, hone, hx]
    exact fieldAt_u8 h4 []
  rw [hrow, ← hrest, decodeEgress, hmode, hretention, hreleases, storedEgress, Nat.max_eq_right h1, Nat.max_eq_right h3,
    Nat.min_eq_right (Nat.le_of_lt_succ h4)]
  obtain ⟨mode, retention, releases⟩ := x
  by_cases hz : cls.val = 0
  · have hcipher : mode = .cipher := h0 hz
    rw [if_pos hz, hcipher]
  · rw [if_neg hz]
    cases mode <;> rfl

/-- The sixteen entries of an egress row. -/
def egressEntries (s : State) (k : Nat) : List EgressEntry := (s.sp.egress.toList.drop (16 * k)).take 16

theorem length_egressEntries (s : State) {k : Nat} (h : k < 16) : (egressEntries s k).length = 16 := by
  rw [egressEntries, List.length_take, List.length_drop, Vector.length_toList]
  omega

theorem getElem_egressEntries (s : State) (cls : Fin 256) (h : cls.val % 16 < (egressEntries s (cls.val / 16)).length) :
    (egressEntries s (cls.val / 16))[cls.val % 16] = s.sp.egress[cls] := by
  simp only [egressEntries, List.getElem_take, List.getElem_drop, Vector.getElem_toList, Nat.div_add_mod]
  rfl

/-- Settles O60: owner by owner, the fields of the image at their places. -/
theorem rowImagesRoundTrip : Obligations.RowImagesRoundTrip := by
  refine ⟨fun a hid hid' hs hq hc hn hb1 hl1 hb2 hl2 hlast => ⟨accountRow_valid a hs,
      decodeAccount_encode hid hid' hs hq hc hn hb1 hl1 hb2 hl2 hlast⟩, fun a => absentAccount_image,
    fun h hm hi he hd ho => ⟨?_, decodeHistory_encode hm hi he hd ho⟩,
    fun k e ho hc hx he hr => ⟨?_, decodeKeySlot_encode ho hc hx he hr⟩,
    fun s _ hp h1 h2 ht hm h3 h4 h5 h6 hc => ⟨?_, decodeSettings_image hp h1 h2 ht hm h3 h4 h5 h6 hc⟩,
    fun s c h0 hw hg hg' => ?_, fun s => ?_, fun s c hall h0 => ?_⟩
  · exact rowCondition_rowImage (content := historyContent h) (by rw [length_historyContent]; decide)
  · exact rowCondition_rowImage (content := keyContent k) (by rw [length_keyContent]; decide)
  · exact rowCondition_rowImage (content := settingsContent s) (by rw [length_settingsContent]; decide)
  · have hrow : encodeSettings ⟨c.val + 1, by omega⟩ s = rowImage (toneContent s.dm.tables[c]) :=
      (if_neg (Nat.succ_ne_zero _)).trans (dif_pos c.isLt)
    rw [hrow]
    exact ⟨rowCondition_rowImage (by rw [length_toneContent]; decide), decodeToneTable_image h0 hw hg hg'⟩
  · have hrow : encodeSettings 5 s = rowImage [] := rfl
    rw [hrow]
    exact rowCondition_rowImage (by decide)
  · have hk : c.val / 16 < 16 := by omega
    have hlen := length_egressEntries s hk
    have hrow : encodeEgress ⟨c.val / 16, hk⟩ s = rowImage (egressContent (egressEntries s (c.val / 16))) := rfl
    obtain ⟨h1, h2, h3, h4⟩ := hall c
    rw [hrow]
    refine ⟨rowCondition_rowImage (by rw [length_egressContent hlen]; decide),
      decodeEgress_image hlen (getElem_egressEntries s c _) h1 h2 h3 h4 fun hz => ?_⟩
    have hc : c = 0 := Fin.ext hz
    rw [hc]
    exact h0

end Sys2Proof.Machine

/-! PROOFS. What only a charge changes of an account: its charged total and counters; and what only an account command
changes: its quota, id and state (`ChargesKept`, O58). -/

namespace Sys2Proof.Machine

/-- The charged total, the quota, the counters, the id and the state of every account are as they were. -/
def ChargesKept (s t : State) : Prop := ∀ i,
  (t.account i).charged = (s.account i).charged ∧ (t.account i).quota = (s.account i).quota ∧
    (t.account i).counters = (s.account i).counters ∧ (t.account i).id = (s.account i).id ∧
    (t.account i).state = (s.account i).state

namespace ChargesKept

variable {s t u : State}

theorem refl (s : State) : ChargesKept s s := fun _ => ⟨rfl, rfl, rfl, rfl, rfl⟩

/-- The last operation first, as the operations are written. -/
theorem comp (k : ChargesKept t u) (h : ChargesKept s t) : ChargesKept s u := fun i => by
  obtain ⟨hcharged, hquota, hcounters, hid, hstate⟩ := h i
  obtain ⟨kcharged, kquota, kcounters, kid, kstate⟩ := k i
  exact ⟨kcharged.trans hcharged, kquota.trans hquota, kcounters.trans hcounters, kid.trans hid, kstate.trans hstate⟩

theorem ite {p : Prop} [Decidable p] (h : ChargesKept s t) (k : ChargesKept s u) :
    ChargesKept s (if p then t else u) := by
  split
  · exact h
  · exact k

theorem foldl {α : Type} {f : State → α → State} (l : List α) (h : ∀ s a, ChargesKept s (f s a)) (s : State) :
    ChargesKept s (l.foldl f s) := by
  induction l generalizing s with
  | nil => exact .refl s
  | cons a l ih => exact .comp (ih (f s a)) (h s a)

/-- The records are not touched. -/
theorem of_records (h : t.acct.records = s.acct.records) : ChargesKept s t := fun i => by
  have : t.account i = s.account i := by simp only [State.account, h]
  rw [this]
  exact ⟨rfl, rfl, rfl, rfl, rfl⟩

theorem of_money (h : ∀ i, (t.account i).sameMoney (s.account i)) : ChargesKept s t := fun i => by
  obtain ⟨-, hcharged, hcounters, -, -, hid, hstate, -, hquota, -⟩ := sameMoney_fields (h i)
  exact ⟨hcharged, hquota, hcounters, hid, hstate⟩

/-- One record is replaced by one of the same standing. -/
theorem setAccount (s : State) (i : Fin 256) (a : Account)
    (h : a.charged = (s.account i).charged ∧ a.quota = (s.account i).quota ∧ a.counters = (s.account i).counters ∧
      a.id = (s.account i).id ∧ a.state = (s.account i).state) : ChargesKept s (s.setAccount i a) := fun g => by
  by_cases hg : g = i
  · rw [hg, State.account_setAccount_self]; exact h
  · rw [State.account_setAccount_of_ne _ _ hg]; exact ⟨rfl, rfl, rfl, rfl, rfl⟩

end ChargesKept

theorem Quiet.charges {s t : State} (h : Quiet s t) : ChargesKept s t := .of_money h.money

section
variable (s : State)

theorem releaseReservation_charges (i : Fin 256) (n : Nat) : ChargesKept s (releaseReservation s i n) :=
  .setAccount s i _ ⟨rfl, rfl, rfl, rfl, rfl⟩

theorem touchIdle_charges (i : Fin 256) : ChargesKept s (touchIdle s i) :=
  .ite (.of_records rfl) (.refl s)

/-! ### Voids and drains -/

theorem voidOpenPage_charges : ChargesKept s (voidOpenPage s) := by
  cases hp : s.pp.openPage with
  | none => rw [voidOpenPage_of_none s hp]; exact .refl s
  | some p =>
    simp only [voidOpenPage, hp, markDue, sendVoid]
    exact .of_records (by split <;> rfl)

theorem completeDrain_charges (h : Fin 16) : ChargesKept s (completeDrain s h) := by
  rw [completeDrain_eq]
  exact .comp (.of_records rfl) (disposeKey_quiet s h).charges

theorem drainTest_charges (h : Fin 16) : ChargesKept s (drainTest s h) :=
  .ite (completeDrain_charges s h) (.refl s)

theorem voidScanPage_charges : ChargesKept s (voidScanPage s) := by
  simp only [voidScanPage]
  cases s.sp.page with
  | none => exact .refl s
  | some p => exact .comp (drainTest_charges _ _) (.comp (.of_records rfl) (releaseReservation_charges s _ _))

theorem voidPagesOf_charges (h : Fin 16) : ChargesKept s (voidPagesOf s h) := by
  have hopen : ChargesKept s (if s.hasOpenPage h then voidOpenPage s else s) := .ite (voidOpenPage_charges s) (.refl s)
  exact .ite (.comp (voidScanPage_charges _) hopen) hopen

theorem dropAnnounced_charges (h : Fin 16) : ChargesKept s (dropAnnounced s h) := .ite (.of_records rfl) (.refl s)

theorem holdJob_charges (h : Fin 16) (r : Reason) : ChargesKept s (holdJob s h r) := by
  have hheld : ChargesKept s (((dropAnnounced (voidPagesOf s h) h).modJob h fun j =>
      { j with state := .held, reason := some r }).raise .jobHeld [.u8 h, .u8 r.code]) :=
    .comp (.of_records rfl) (.comp (dropAnnounced_charges _ h) (voidPagesOf_charges s h))
  simp only [holdJob]
  cases (s.job h).state with
  | active => exact hheld
  | held => exact hheld
  | free => exact .refl s
  | draining => exact .refl s

/-! ### The page stream -/

theorem pageSettled_charges (p : OpenPage) (e : Entry) : ChargesKept s (pageSettled s p e) :=
  .comp (.of_records rfl) (.comp (releaseReservation_charges _ _ _) (convertPlanes_quiet s _ _).charges)

/-- A completed page is priced, not charged: its entry waits for its sheet. -/
theorem meterPage_charges (p : OpenPage) : ChargesKept s (meterPage s p) := by
  cases he : openEntry? s p.tag with
  | none => rw [meterPage_of_no_entry s he]; exact .comp (.of_records rfl) (convertPlanes_quiet s _ _).charges
  | some e => rw [meterPage_of_entry s he]; exact .comp (.of_records rfl) (pageSettled_charges s p e)

theorem completePage_charges (p : OpenPage) : ChargesKept s (completePage s p) :=
  .comp (.of_records rfl) (.comp (meterPage_charges _ p) (.of_records rfl))

theorem judgePage_charges (p : OpenPage) : ChargesKept s (judgePage s p) := by
  simp only [judgePage]
  cases p.mode with
  | mono => exact .ite (completePage_charges s p) (.refl s)
  | color => exact .ite (.ite (completePage_charges s p) (voidOpenPage_charges s)) (.refl s)

theorem forwardBand_charges (p : OpenPage) (b : Band) : ChargesKept s (forwardBand s p b) := by
  simp only [forwardBand]
  exact .ite (.comp (judgePage_charges _ _) (.of_records rfl)) (.of_records rfl)

theorem bandOfPage_charges (p : OpenPage) (b : Band) : ChargesKept s (bandOfPage s p b) :=
  .ite (.of_records rfl) (.ite (forwardBand_charges s p b) (voidOpenPage_charges s))

theorem refuseBand_charges (h : Fin 16) (n : Nat) : ChargesKept s (refuseBand s h n) := by
  simp only [refuseBand, raiseRefused]
  exact .ite (.of_records rfl) (.of_records rfl)

theorem refuseAdmission_charges (h : Fin 16) (r : Reason) : ChargesKept s (refuseAdmission s h r) :=
  .comp (.of_records rfl) (holdJob_charges s h r)

/-- An admission reserves the price and charges nothing. -/
theorem admissionOf_charges {i : Fin 256} {n price : Nat} {allowed : Bool} {t : State}
    (h : admissionOf s i n allowed = .admitted t price) : ChargesKept s t := by
  simp only [admissionOf] at h
  split_ifs at h
  cases h
  exact .comp (touchIdle_charges _ i) (.setAccount s i _ ⟨rfl, rfl, rfl, rfl, rfl⟩)

theorem admitPage_charges (b : Band) : ChargesKept s (admitPage s b) := by
  simp only [admitPage]
  split
  · exact refuseAdmission_charges s _ _
  · split
    · exact refuseAdmission_charges s _ _
    next t price ha =>
      have hopened : ChargesKept t (t.pageOpened b (t.job b.job).provisionalClass price) := .of_records rfl
      rw [openPageFor_eq]
      exact .comp (bandOfPage_charges _ _ b) (.comp hopened (admissionOf_charges s ha))

theorem openingBand_charges (b : Band) : ChargesKept s (openingBand s b) :=
  .ite (refuseBand_charges s _ _) (.ite (.of_records rfl) (.ite (.of_records rfl) (admitPage_charges s b)))

theorem examine_charges (b : Band) : ChargesKept s (examine s b) := by
  have hcount : ChargesKept s (s.countRefused b.job) := .of_records rfl
  simp only [examine]
  refine .ite (refuseBand_charges s _ _) (.ite hcount ?_)
  cases s.pp.openPage with
  | none => exact .ite hcount (openingBand_charges s b)
  | some p =>
    exact .ite (.ite hcount (.ite (bandOfPage_charges s p b) (.comp (openingBand_charges _ b) (voidOpenPage_charges s))))
      (.ite hcount (.of_records rfl))

theorem settleBand_charges : ChargesKept s (settleBand s) := by
  simp only [settleBand]
  cases s.li.bandPosition with
  | none => exact .refl s
  | some w => exact .ite (.comp (examine_charges _ _) (.of_records rfl)) (.refl s)

theorem stallExpiry_charges : ChargesKept s (stallExpiry s) := by
  simp only [stallExpiry]
  cases s.pp.openPage with
  | none => exact .refl s
  | some p =>
    exact .ite (.comp (settleBand_charges _) (.comp (voidOpenPage_charges _) (.of_records rfl))) (.refl s)

theorem tickStall_charges : ChargesKept s (tickStall s) := by
  simp only [tickStall]
  cases s.pp.openPage with
  | none => exact .refl s
  | some p => exact .ite (.ite (stallExpiry_charges s) (.of_records rfl)) (.refl s)

theorem sendPendingVoid_charges : ChargesKept s (sendPendingVoid s) := by
  simp only [sendPendingVoid]
  cases s.pp.pendingVoid with
  | none => exact .refl s
  | some p => exact .ite (.of_records rfl) (.refl s)

theorem sendPathClear_charges : ChargesKept s (sendPathClear s) := by
  simp only [sendPathClear]
  exact .ite (.comp (.of_records rfl) (sendPendingVoid_charges s)) (sendPendingVoid_charges s)

theorem setReadyLine_charges (level : Bool) : ChargesKept s (setReadyLine s level) := by
  simp only [setReadyLine]
  exact .ite (.comp (settleBand_charges _) (.comp (sendPathClear_charges _) (.of_records rfl))) (.of_records rfl)

/-! ### The Sheet Tracker: removals other than by SHEET EXIT -/

theorem paidFor_charges (e : Entry) {m : Manner} (hm : m ≠ .exited) : ChargesKept s (s.paidFor e m) := by
  rw [State.paidFor, if_neg fun h => hm h.2]
  exact .setAccount s _ _ ⟨rfl, rfl, rfl, rfl, rfl⟩

theorem settleEntry_charges (e : Entry) {m : Manner} (hm : m ≠ .exited) : ChargesKept s (settleEntry s e m) := by
  obtain ⟨t, hform, -, -, hstep⟩ := settleEntry_form s e m
  rw [hform]
  exact .comp (.of_records rfl) (.comp (.of_money hstep.money) (paidFor_charges s e hm))

theorem removeFront_charges (m : Manner) (hm : m ≠ .exited) (n : Nat) : ChargesKept s (removeFront m n s) := by
  induction n generalizing s with
  | zero => exact .refl s
  | succ n ih =>
    simp only [removeFront]
    split
    · exact .refl s
    · exact .comp (ih _) (.comp (settleEntry_charges _ _ hm) (.of_records rfl))

theorem holdJam_charges (hs : List (Fin 16)) : ChargesKept s (holdJam s hs) :=
  .foldl hs (fun s h => holdJob_charges s h .jam) s

theorem afterReport_charges (removed : List Entry) : ChargesKept s (afterReport s removed) :=
  .comp (settleBand_charges _) (.foldl _ drainTest_charges s)

theorem sheetJam_charges (lost developed : Byte) : ChargesKept s (sheetJam s lost developed) := by
  simp only [sheetJam]
  refine .comp (afterReport_charges _ _) (.comp (holdJam_charges _ _) (.comp (removeFront_charges _ .undeveloped nofun _)
    (.comp (removeFront_charges _ .developed nofun _) (.comp (voidOpenPage_charges _) ?_))))
  exact .ite (.of_records rfl) (.refl s)

theorem pathPurge_charges : ChargesKept s (pathPurge s) :=
  .comp (afterReport_charges _ _) (.comp (holdJam_charges _ _) (.comp (removeFront_charges _ .purged nofun _)
    (voidOpenPage_charges s)))

/-! ### The Scan Path, but for the end of a page -/

theorem scannerPageBegin_charges (page : Nat) : ChargesKept s (scannerPageBegin s page) := by
  have hvoided : ChargesKept s (if s.sp.page.isSome then voidScanPage s else s) :=
    .ite (voidScanPage_charges s) (.refl s)
  exact .comp (.of_records rfl) hvoided

theorem takeScanBand_charges (h : Fin 16) (p : ScanPage) (i : Fin 3) (b : ScannerBand) :
    ChargesKept s (takeScanBand s h p i b) := by
  simp only [takeScanBand]
  exact .ite (.of_records rfl) (voidScanPage_charges s)

theorem refuseScanPage_charges (h : Fin 16) (r : Reason) : ChargesKept s (refuseScanPage s h r) :=
  .comp (.of_records rfl) (holdJob_charges s h r)

theorem openScanPage_charges (h : Fin 16) (c : Fin 3) (b : ScannerBand) (price : Nat) :
    ChargesKept s (openScanPage s h c b price) :=
  .comp (takeScanBand_charges _ _ _ _ _) (.of_records rfl)

theorem openingScanBand_charges (h : Fin 16) (c : Fin 3) (b : ScannerBand) :
    ChargesKept s (openingScanBand s h c b) := by
  simp only [openingScanBand]
  refine .ite (.of_records rfl) (.ite (refuseBand_charges s h _) (.ite (refuseScanPage_charges s h _) ?_))
  split
  · exact refuseScanPage_charges s h _
  next ha => exact .comp (openScanPage_charges _ h c b _) (admissionOf_charges s ha)

theorem scanBand_charges (h : Fin 16) (b : ScannerBand) : ChargesKept s (scanBand s h b) := by
  simp only [scanBand]
  split
  · exact .of_records rfl
  next c _ =>
    cases s.sp.page with
    | none => exact openingScanBand_charges s h c b
    | some p => exact takeScanBand_charges s h p c b

theorem scannerFrame_charges (f : ScannerFrame) (hf : f ≠ .pageEnd) : ChargesKept s (scannerFrame s f) := by
  have herror : ChargesKept s (s.linkError .scanner) := .of_records rfl
  simp only [scannerFrame]
  refine .ite herror ?_
  cases f with
  | pageBegin page => exact scannerPageBegin_charges s _
  | pageEnd => exact absurd rfl hf
  | band b =>
    refine .ite ?_ herror
    cases s.activeScan with
    | none => exact .refl s
    | some h => exact scanBand_charges s h b

/-! ### The upstream half of the controller link, but for the end of a scan frame -/

theorem stopAtHead_charges (h : Fin 16) : ChargesKept s (stopAtHead s h) := by
  simp only [stopAtHead]
  refine .comp (t := { s with sp := { s.sp with buffer := s.sp.buffer.filter fun f => f.tag.job != h } }) ?_
    (.of_records rfl)
  generalize ({ s with sp := { s.sp with buffer := s.sp.buffer.filter fun f => f.tag.job != h } } : State) = u
  have hvoided : ChargesKept u (if u.hasScanPage h then voidScanPage u else u) := .ite (voidScanPage_charges u) (.refl u)
  generalize (if u.hasScanPage h then voidScanPage u else u) = t at hvoided
  refine .comp ?_ hvoided
  cases (t.job h).state with
  | active => exact holdJob_charges t h _
  | free => exact drainTest_charges t h
  | held => exact drainTest_charges t h
  | draining => exact drainTest_charges t h

theorem upstreamBegin_charges : ChargesKept s (upstreamBegin s) := by
  simp only [upstreamBegin]
  split
  · exact .refl s
  · split
    · exact .of_records rfl
    · split
      · exact .of_records rfl
      · exact .ite (.of_records rfl) (stopAtHead_charges s _)
      · exact .refl s

theorem noticeSent_charges : ChargesKept s (noticeSent s) := by
  simp only [noticeSent]
  split
  · exact .ite (.of_records rfl) (.of_records rfl)
  · exact .refl s

/-! ### The store's events -/

theorem replyLong_charges (v : List Val) : ChargesKept s (replyLong s v) := by
  simp only [replyLong]
  split
  · exact .of_records rfl
  · exact .refl s

theorem countRow_charges (completed : Bool) : ChargesKept s (countRow s completed) := by
  simp only [countRow]
  split
  · exact .ite (replyLong_charges s _) (.of_records rfl)
  · exact .refl s

theorem reportRow_charges (q : StoreRequest) (completed : Bool) : ChargesKept s (reportRow s q completed) := by
  cases q with
  | commit r g =>
    simp only [reportRow]
    cases rowOwner r with
    | key k => exact (keyReport_quiet s k g _ _).charges
    | account i => exact .ite (.refl s) (.setAccount s i _ ⟨rfl, rfl, rfl, rfl, rfl⟩)
    | history p => exact .ite (.refl s) (.of_records rfl)
    | settings k => exact .ite (.of_records rfl) (.refl s)
    | manufacture => exact .refl s
    | egress k => exact .refl s
  | erase r g =>
    simp only [reportRow]
    split
    · exact (keyReport_quiet s _ g _ _).charges
    · exact .refl s
  | region g => exact .refl s

theorem startIfReady_charges : ChargesKept s (startIfReady s) := (startIfReady_step s).quiet.charges

theorem endRowOp_charges (op : StoreOp) (completed : Bool) : ChargesKept s (endRowOp s op completed) := by
  have hreport : ChargesKept s (reportRow { s with ms := { s.ms with op := none } } op.request completed) :=
    .comp (reportRow_charges _ _ _) (.of_records rfl)
  simp only [endRowOp]
  exact .comp (startIfReady_charges _) (.ite (.comp (countRow_charges _ _) hreport) hreport)

theorem endRegion_charges (g : Region) (n : Nat) : ChargesKept s (endRegion s g n) := by
  have hidle : ChargesKept s { s with ms := { s.ms with op := none } } := .of_records rfl
  unfold endRegion
  generalize ({ s with ms := { s.ms with op := none } } : State) = u at hidle ⊢
  have hkeys := (keyRegionErased_quiet u).charges
  have herased : ChargesKept u (match g with | .accounts => u | _ => keyRegionErased u) := by
    cases g with
    | keys => exact hkeys
    | accounts => exact .refl u
    | all => exact hkeys
  exact (startIfReady_charges _).comp ((replyLong_charges _ _).comp (herased.comp hidle))

theorem nextRegionRow_charges (op : StoreOp) (g : Region) (n : Nat) : ChargesKept s (nextRegionRow s op g n) := by
  simp only [nextRegionRow]
  split
  · exact .of_records rfl
  · exact endRegion_charges s g n

theorem rowDone_charges (op : StoreOp) (n : Nat) (completed : Bool) : ChargesKept s (match op.request with
      | .region g => nextRegionRow s op g n
      | _ => endRowOp s op completed) := by
  cases op.request with
  | commit r g => exact endRowOp_charges s op _
  | erase r g => exact endRowOp_charges s op _
  | region g => exact nextRegionRow_charges s op g n

theorem writeComplete_charges (retained : Option (List Byte)) : ChargesKept s (writeComplete s retained) := by
  simp only [writeComplete]
  cases s.ms.op with
  | none => exact .refl s
  | some op =>
    dsimp only
    generalize s.ms.memory.writeRow op.row (retained.getD s.ms.latches) = m
    split
    · exact .comp (rowDone_charges _ op _ _) (.of_records rfl)
    · refine .ite (.of_records rfl) ?_
      exact .comp (rowDone_charges _ op _ _) (.of_records rfl)

theorem setWarning_charges (level : Bool) : ChargesKept s (setWarning s level) :=
  .ite (.of_records rfl) (.comp (startIfReady_charges _) (.of_records rfl))

/-! ### The Time Base -/

theorem request_charges (q : StoreRequest) : ChargesKept s (request s q).1 := (request_quiet s q).charges

theorem meterFlush_charges : ChargesKept s (meterFlush s) := by
  have hflush : ChargesKept s ((dirtyAccounts s).foldl
      (fun s i => commitAccount (s.modAccount i fun a => { a with sinceFlush := 0 }) i) s) :=
    .foldl _ (fun t i => .comp (request_charges _ _)
      (.setAccount t i { t.account i with sinceFlush := 0 } ⟨rfl, rfl, rfl, rfl, rfl⟩)) s
  exact .ite (.comp (request_charges _ _) hflush) hflush

theorem sessionExpiry_charges : ChargesKept s (sessionExpiry s) := by
  simp only [sessionExpiry]
  cases s.acct.session with
  | none => exact .refl s
  | some x => exact .of_records rfl

theorem ownerExpiry_charges (c : Fin 4) : ChargesKept s (ownerExpiry s c) := by
  unfold ownerExpiry
  split
  · exact sessionExpiry_charges s
  · exact (keySweep_quiet s).charges
  · exact meterFlush_charges s
  · exact (recheckExpiry_quiet s).charges

theorem expireChannel_charges (c : Fin 4) : ChargesKept s (expireChannel s c) :=
  .comp (.of_records rfl) (ownerExpiry_charges s c)

theorem channelExpiry_charges (c : Fin 4) : ChargesKept s (channelExpiry s c) :=
  .ite (.comp (expireChannel_charges _ c) (.of_records rfl)) (.refl s)

theorem tickChannel_charges (c : Fin 4) : ChargesKept s (tickChannel s c) :=
  .ite (.refl s) (.ite (.comp (expireChannel_charges _ c) (.of_records rfl)) (.ite (.of_records rfl) (.of_records rfl)))

theorem tick_charges (presence : Vector Bool 4) : ChargesKept s (tick presence s) := by
  simp only [tick]
  have hexchanges : ChargesKept s (slots.foldl tickExchange { s with tb := s.tb.tick }) :=
    .comp (.foldl _ (fun t c => (tickExchange_step t c).quiet.charges) _) (.of_records rfl)
  generalize slots.foldl tickExchange { s with tb := s.tb.tick } = s1 at hexchanges
  have hslow : ChargesKept s1
      (tickStall (slots.foldl (fun s c => samplePresence s c presence[c]) (slots.foldl beginCheck s1))) :=
    .comp (tickStall_charges _) (.comp (.foldl _ (fun t c => (samplePresence_step t c _).quiet.charges) _)
      (.foldl _ (fun t c => (beginCheck_step t c).quiet.charges) s1))
  refine .comp (.foldl _ (fun t c => .ite (tickChannel_charges t c) (.refl t)) _) ?_
  exact .ite (.comp hslow hexchanges) hexchanges

theorem ticks_charges (presence : Vector Bool 4) (n : Nat) : ChargesKept s (ticks presence n s) := by
  induction n generalizing s with
  | zero => exact .refl s
  | succ n ih => exact .comp (ih _) (tick_charges s presence)

theorem referenceStep_charges (presence : Vector Bool 4) : ChargesKept s (referenceStep s presence) := by
  simp only [referenceStep]
  exact .comp (ticks_charges _ presence _) (.of_records rfl)

/-! ### The path reset -/

theorem resetPageStream_charges : ChargesKept s (resetPageStream s) :=
  .comp (.of_records rfl) (voidOpenPage_charges s)

theorem clearTracker_charges : ChargesKept s (clearTracker s) := by
  simp only [clearTracker]
  exact .ite (.comp (.of_records rfl) (removeFront_charges s .cleared nofun _))
    (.comp (.of_records rfl) (removeFront_charges s .cleared nofun _))

theorem resetScanPath_charges : ChargesKept s (resetScanPath s) := .comp (.of_records rfl) (voidScanPage_charges s)

theorem resetJobs_charges : ChargesKept s (resetJobs s) := .of_records rfl

theorem resetNotices_charges : ChargesKept s (resetNotices s) := .of_records rfl

theorem pathReset_charges : ChargesKept s (pathReset s) := by
  refine .comp (resetNotices_charges _) (.comp (.foldl _ (fun t c => (pathResetSlot_step t c).quiet.charges) _) ?_)
  exact .comp (resetJobs_charges _) (.comp (resetScanPath_charges _) (.comp (clearTracker_charges _)
    (resetPageStream_charges s)))

theorem dropUnsentReply_charges : ChargesKept s (dropUnsentReply s) := by
  simp only [dropUnsentReply]
  split
  · exact .refl s
  · exact .of_records rfl
  · exact .refl s

theorem pathLineRise_charges : ChargesKept s (pathLineRise s) := by
  have hreset : ChargesKept s (pathReset { s with li := { s.li with pathLine := true } }) :=
    .comp (pathReset_charges _) (.of_records rfl)
  simp only [pathLineRise]
  generalize pathReset { s with li := { s.li with pathLine := true } } = u at hreset ⊢
  exact .ite (.refl s) (.comp (dropUnsentReply_charges _) (.comp (.of_records rfl) hreset))

end

/-- Settles O58, event by event. -/
theorem listedEventsKeepCharges : Obligations.ListedEventsKeepCharges := by
  intro i s t h hlisted
  have of_next {u : State} (hu : (Host.Outcome.next u : Host.Outcome State Fault Refusal) = .next t)
      (k : ChargesKept s u) : ChargesKept s t := by cases hu; exact k
  show ChargesKept s t
  cases i with
  | bandReexamined => exact of_next h (settleBand_charges s)
  | stallExpiry => exact of_next h (stallExpiry_charges s)
  | engineReadyLine level => exact of_next h (setReadyLine_charges s level)
  | pendingVoidSend => exact of_next h (sendPendingVoid_charges s)
  | pathClearSend => exact of_next h (sendPathClear_charges s)
  | sheetJam lost developed => exact of_next h (sheetJam_charges s lost developed)
  | pathPurge => exact of_next h (pathPurge_charges s)
  | drainCompletion job => exact of_next h (drainTest_charges s job)
  | scannerPageBegin page => exact of_next h (scannerFrame_charges s _ nofun)
  | scannerBand band => exact of_next h (scannerFrame_charges s _ nofun)
  | upstreamFrameBegin => exact of_next h (upstreamBegin_charges s)
  | noticeSent => exact of_next h (noticeSent_charges s)
  | referenceStep presence => exact of_next h (referenceStep_charges s presence)
  | channelExpiry channel => exact of_next h (channelExpiry_charges s channel)
  | debouncedRise slot => exact of_next h (riseEvent_step s slot).quiet.charges
  | debouncedFall slot => exact of_next h (fallEvent_step s slot).quiet.charges
  | fullCheckStart slot => exact of_next h (beginCheck_step s slot).quiet.charges
  | identifyAnswer slot serial colorant model rated => exact of_next h (takeAnswer_step s slot _).quiet.charges
  | challengeAnswer slot response => exact of_next h (takeAnswer_step s slot _).quiet.charges
  | readRationAnswer slot ration n => exact of_next h (takeAnswer_step s slot _).quiet.charges
  | writeRationAnswer slot ration n => exact of_next h (takeAnswer_step s slot _).quiet.charges
  | exchangeLimit slot => exact of_next h (exchangeLimit_step s slot).quiet.charges
  | serveWaitingWork slot => exact of_next h (serveLine_step s slot).quiet.charges
  | storeOperationStart => exact of_next h (startIfReady_charges s)
  | storeWriteComplete retained => exact of_next h (writeComplete_charges s retained)
  | powerWarningRise => exact of_next h (setWarning_charges s true)
  | powerWarningFall => exact of_next h (setWarning_charges s false)
  | pathResetLine => exact of_next h (pathLineRise_charges s)
  | pathResetLineFall => exact of_next h (.of_records rfl)
  | _ => exact hlisted.elim

end Sys2Proof.Machine

/-! PROOFS. The expiry of a channel (O51): the owner's work, then the channel's own step. -/

namespace Sys2Proof.Machine

section
variable (s : State)

/-- The key sweep at one slot, by its conditions (R143). -/
theorem sweepSlot_eq (k : Fin 64) : sweepSlot s k =
    (let u := if (s.key k).state = .retained ∧ (∃ e ∈ (s.key k).expiry, e ≤ s.tb.seconds) ∧ (s.key k).naming = none
        then enterErasing s k .expired else s
     if (u.key k).rowRequest = .none then u else requestKeyRow u k (u.key k).rowRequest) := by
  have hexpired : (expired s.now (s.key k) && (s.key k).naming.isNone) = true ↔
      (s.key k).state = .retained ∧ (∃ e ∈ (s.key k).expiry, e ≤ s.tb.seconds) ∧ (s.key k).naming = none := by
    simp only [expired, Bool.and_eq_true, beq_iff_eq, Option.any_eq_true, decide_eq_true_eq, Option.isNone_iff_eq_none,
      and_assoc]
    exact Iff.rfl
  have hrow (u : State) : (match (u.key k).rowRequest with | .none => u | r => requestKeyRow u k r) =
      if (u.key k).rowRequest = .none then u else requestKeyRow u k (u.key k).rowRequest := by
    cases (u.key k).rowRequest <;> rfl
  exact (hrow _).trans (congrArg (fun u : State => if (u.key k).rowRequest = .none then u
    else requestKeyRow u k (u.key k).rowRequest) (if_congr hexpired rfl rfl))

theorem keySweep_eq : keySweep s = (List.finRange 64).foldl (fun t k =>
    let u := if (t.key k).state = .retained ∧ (∃ e ∈ (t.key k).expiry, e ≤ t.tb.seconds) ∧ (t.key k).naming = none
      then enterErasing t k .expired else t
    if (u.key k).rowRequest = .none then u else requestKeyRow u k (u.key k).rowRequest) s := by
  have hsweep : sweepSlot = _ := funext fun t => funext fun k => sweepSlot_eq t k
  rw [keySweep, hsweep]
  rfl

theorem meterFlush_eq : meterFlush s =
    (let t := ((List.finRange 256).filter fun i => (s.account i).dirty).foldl (fun t i =>
        (request (t.setAccount i { t.account i with sinceFlush := 0 }) (.commit (accountRow i) 0)).1) s
     if t.ms.lockUnsaved then (request t (.commit (settingsRow 0) 0)).1 else t) := rfl

/-- The channel's own step at its expiry, from any count (R168, R170). -/
theorem Channel.afterExpiry_eq (x : Channel) (n : Nat) (oneShot : Bool) :
    ({ x with count := n } : Channel).afterExpiry oneShot =
      if x.stopPending ∨ oneShot = true then { x with running := false, stopPending := false, count := 0 }
      else match x.staged with
        | some (tap, period) => { x with tap := tap, period := period, staged := none, count := 0 }
        | none => { x with count := 0 } := by
  have hstop : (x.stopPending || oneShot) = true ↔ x.stopPending ∨ oneShot = true := by simp
  refine (if_congr hstop rfl ?_)
  simp only [Channel.applyStaged]
  cases x.staged <;> rfl

theorem expireChannel_eq (c : Fin 4) (x : Channel) : expireChannel (s.setChannel c x) c =
    (ownerExpiry (s.setChannel c x) c).setChannel c (x.afterExpiry (c == 0)) := by
  rw [expireChannel, ownerExpiry_channel, State.channel_setChannel_self]

end

/-- Settles O51: each owner's work is the statement's, and the channel's own step follows it. -/
theorem channelsExpire : Obligations.ChannelsExpire := by
  intro s c x full owner next
  refine ⟨fun hr => ?_, fun hr => ?_⟩
  · have hidle : channelExpiry s c = s := if_neg (by rw [show (s.channel c).running = false from hr]; decide)
    exact congrArg Host.Outcome.next hidle
  · have howner : ownerExpiry full c = owner := by
      have hcases : c = 0 ∨ c = 1 ∨ c = 2 ∨ c = 3 := by clear * -; revert c; decide
      have hsession : sessionExpiry full = match s.acct.session with
          | some y => { full with acct := { s.acct with session := none } }.raise .sessionEnded
              [.u8 y.account.val, .u32 y.openTime]
          | none => full := by
        have hopen : full.acct = s.acct := rfl
        unfold sessionExpiry
        rw [hopen] <;> cases s.acct.session <;> rfl
      rcases hcases with h | h | h | h
      · exact (congrArg (ownerExpiry full) h).trans (hsession.trans (if_pos h).symm)
      · refine (congrArg (ownerExpiry full) h).trans (Eq.trans ?_ (if_neg (by rw [h]; decide)).symm)
        refine Eq.trans ?_ (if_pos h).symm
        exact keySweep_eq full
      · refine (congrArg (ownerExpiry full) h).trans (Eq.trans ?_ (if_neg (by rw [h]; decide)).symm)
        refine Eq.trans ?_ (if_neg (by rw [h]; decide)).symm
        refine Eq.trans ?_ (if_pos h).symm
        exact meterFlush_eq full
      · refine (congrArg (ownerExpiry full) h).trans (Eq.trans ?_ (if_neg (by rw [h]; decide)).symm)
        refine Eq.trans ?_ (if_neg (by rw [h]; decide)).symm
        refine Eq.trans ?_ (if_neg (by rw [h]; decide)).symm
        rfl
    have hnext : ({ x with count := x.period } : Channel).afterExpiry (c == 0) = next :=
      (Channel.afterExpiry_eq x x.period _).trans (if_congr (by simp) rfl rfl)
    have hrun : channelExpiry s c = expireChannel full c := if_pos hr
    refine congrArg Host.Outcome.next (hrun.trans ?_)
    rw [expireChannel_eq, hnext]
    exact congrArg (fun u : State => u.setChannel c next) howner

end Sys2Proof.Machine

/-! PROOFS. The path reset (O52), operation by operation: the page stream, the tracker, the Scan Path, the jobs, the
cartridge lines and the notice queue. -/

namespace Sys2Proof.Machine

/-! ### What each operation changes -/

/-- A removal as cleared releases the reservation and books nothing (R81, R95). -/
theorem settleEntry_cleared (s : State) (e : Entry) :
    settleEntry s e .cleared = releaseReservation s e.account e.reserved := by
  have hpaid : (e.status == .complete && Manner.cleared == .exited) = false := by rw [Bool.and_eq_false_iff]; right; decide
  have hbooked : (e.status == .complete && (Manner.cleared == .exited || Manner.cleared == .lost ||
      Manner.cleared == .developed || Manner.cleared == .purged)) = false := by
    rw [Bool.and_eq_false_iff]; right; decide
  simp only [settleEntry, hpaid, hbooked]
  rfl

/-- What the clearing of the tracker changes: the reservations and the entries. -/
def State.unqueued (s : State) (r : Vector Account 256) (es : List Entry) : State :=
  { s with acct := { s.acct with records := r }, st := { s.st with entries := es } }

theorem removeFront_cleared (s : State) (n : Nat) :
    removeFront .cleared n s = s.unqueued (removeFront .cleared n s).acct.records (s.st.entries.drop n) := by
  induction n generalizing s with
  | zero => rfl
  | succ n ih =>
    cases hs : s.st.entries with
    | nil =>
      have hstop : removeFront .cleared (n + 1) s = s := by simp only [removeFront, hs]
      rw [hstop, List.drop_nil, ← hs]
      rfl
    | cons e rest =>
      have hstep : removeFront .cleared (n + 1) s =
          removeFront .cleared n (releaseReservation { s with st := { s.st with entries := rest } } e.account e.reserved) := by
        simp only [removeFront, hs, settleEntry_cleared]
      rw [hstep, ih]
      rfl

/-- The tracker once it has been cleared (R95). -/
theorem clearTracker_eq (s : State) : clearTracker s =
    (let u := s.unqueued (clearTracker s).acct.records []
     if s.pp.engineReady then { u with engineOut := s.engineOut ++ [markPathClear] }
     else { u with st := { u.st with pathClear := true } }) := by
  have hfront := removeFront_cleared s s.st.entries.length
  rw [List.drop_length] at hfront
  have hrecords : (clearTracker s).acct.records = (removeFront .cleared s.st.entries.length s).acct.records := by
    simp only [clearTracker]
    split <;> rfl
  simp only [hrecords]
  simp only [clearTracker]
  generalize removeFront .cleared s.st.entries.length s = t at hfront
  rw [hfront]
  rfl

/-- What a drain test leaves alone. -/
theorem drainTest_frame (s : State) (h : Fin 16) : drainTest s h = { s with
    jt := (drainTest s h).jt, acct := { s.acct with records := (drainTest s h).acct.records }
    tu := (drainTest s h).tu, kt := (drainTest s h).kt, ms := (drainTest s h).ms, status := (drainTest s h).status
    draws := (drainTest s h).draws, tagOut := (drainTest s h).tagOut } := by
  by_cases hd : drained s h = true
  · rw [drainTest_of_drained hd, completeDrain_eq]
    have hframe := (disposeKey_quiet s h).frame
    generalize disposeKey s h = t at hframe
    rw [hframe]
    rfl
  · rw [drainTest_of_not_drained hd]

/-- What the void of a scan page leaves alone, whatever its job does then. -/
theorem voidScanPage_frame (s : State) : voidScanPage s = { s with
    jt := (voidScanPage s).jt, acct := { s.acct with records := (voidScanPage s).acct.records }, sp := (voidScanPage s).sp
    tu := (voidScanPage s).tu, kt := (voidScanPage s).kt, ms := (voidScanPage s).ms, status := (voidScanPage s).status
    draws := (voidScanPage s).draws, tagOut := (voidScanPage s).tagOut } := by
  cases hp : s.sp.page with
  | none => rw [voidScanPage_of_idle hp]
  | some p =>
    simp only [voidScanPage, hp]
    generalize hu : ({ ((releaseReservation s (s.job p.tag.job).account p.reservation).countVoided p.tag.job).raise
      .pageVoid [.u8 p.tag.job, .u16 p.tag.page, .u8 1] with sp := _ } : State) = u
    have hframe := drainTest_frame u p.tag.job
    generalize drainTest u p.tag.job = t at hframe
    rw [hframe, ← hu]
    rfl

/-- A scan page is voided and its job, ACTIVE, is not drained: the reservation, the count and PAGE VOID alone (R128). -/
theorem voidScanPage_of_active {s : State} {p : ScanPage} (hp : s.sp.page = some p)
    (ha : (s.job p.tag.job).state = .active) : voidScanPage s =
      (let u := ((releaseReservation s (s.job p.tag.job).account p.reservation).countVoided p.tag.job).raise .pageVoid
        [.u8 p.tag.job, .u16 p.tag.page, .u8 1]
       { u with sp := { u.sp with page := none, announced := none } }) := by
  simp only [voidScanPage, hp]
  refine drainTest_of_not_drained fun hd => ?_
  obtain ⟨hstate, -⟩ := (drained_iff _ _).1 hd
  have hjob : ((s.job p.tag.job).state = .draining) := by
    have := State.job_setJob_self (releaseReservation s (s.job p.tag.job).account p.reservation) p.tag.job
      { s.job p.tag.job with counters := { (s.job p.tag.job).counters with
        voided := satAdd max32 (s.job p.tag.job).counters.voided 1 } }
    exact (congrArg Job.state this).symm.trans hstate
  rw [ha] at hjob
  cases hjob

/-! ### The cartridge lines -/

/-- The record of a slot at a path reset (R98). -/
def Cartridge.afterPathReset (x : Cartridge) : Cartridge :=
  if x.exchange.isSome then
    { x with exchange := none, writePending := false, recheckPending := false,
             state := if x.state.verified || x.state == .checking then .sensed else x.state }
  else x

theorem pathResetSlot_eq (s : State) (c : Fin 4) : pathResetSlot s c = s.setSlot c (s.slot c).afterPathReset := by
  rw [Cartridge.afterPathReset]
  by_cases h : (s.slot c).exchange.isSome = true
  · rw [if_pos h]; exact if_pos h
  · rw [if_neg h]
    exact (if_neg h).trans ((lined_self s c).symm.trans (setSlot_eq_lined s c _).symm)

theorem foldl_pathResetSlot (s : State) {l : List (Fin 4)} (hl : l.Nodup) :
    l.foldl pathResetSlot s = { s with tu := { s.tu with slots := (l.foldl pathResetSlot s).tu.slots } } ∧
      ∀ d, (l.foldl pathResetSlot s).slot d = if d ∈ l then (s.slot d).afterPathReset else s.slot d := by
  induction l generalizing s with
  | nil => exact ⟨rfl, fun d => rfl⟩
  | cons c l ih =>
    obtain ⟨hc, hl⟩ := List.nodup_cons.1 hl
    obtain ⟨hframe, hslot⟩ := ih (s.setSlot c (s.slot c).afterPathReset) hl
    rw [List.foldl_cons, pathResetSlot_eq]
    refine ⟨hframe, fun d => ?_⟩
    rw [hslot]
    by_cases hd : d = c
    · subst hd
      rw [if_neg hc, if_pos (List.mem_cons_self ..), State.slot_setSlot_self]
    · rw [State.slot_setSlot_of_ne _ _ hd]
      exact if_congr (by simp [hd]) rfl rfl

theorem afterPathReset_eq (x : Cartridge) : x.afterPathReset =
    if x.exchange = none then x
    else { x with
      exchange := none, writePending := false, recheckPending := false
      state := if x.state = .checking ∨ x.state = .genuine ∨ x.state = .spent then .sensed else x.state } := by
  have hstate : (x.state.verified || x.state == .checking) = true ↔
      x.state = .checking ∨ x.state = .genuine ∨ x.state = .spent := by
    rw [Bool.or_eq_true, CartridgeState.verified_iff, beq_iff_eq, or_comm]
  rw [Cartridge.afterPathReset]
  simp only [hstate]
  cases x.exchange <;> rfl

/-! ### The path reset as a whole -/

/-- The state in which the page stream, the tracker and the Scan Path have been reset. -/
def State.streamsReset (s : State) : State := resetScanPath (clearTracker (resetPageStream s))

/-- The rest of a path reset: the jobs, the cartridge lines, the notice queue. -/
theorem pathReset_eq (s : State) : pathReset s = resetNotices { resetJobs s.streamsReset with
    tu := { (resetJobs s.streamsReset).tu with slots := (pathReset s).tu.slots } } := by
  have hpath : pathReset s = resetNotices (slots.foldl pathResetSlot (resetJobs s.streamsReset)) := rfl
  rw [hpath]
  generalize resetJobs s.streamsReset = j
  have hlines : slots.foldl pathResetSlot j = _ := (foldl_pathResetSlot j (List.nodup_finRange 4)).1
  generalize slots.foldl pathResetSlot j = t at hlines ⊢
  rw [hlines]
  rfl

theorem resetJobs_slot (s : State) (c : Fin 4) : (resetJobs s).slot c = s.slot c := rfl

theorem resetNotices_slot (s : State) (c : Fin 4) : (resetNotices s).slot c = s.slot c := rfl

theorem pathReset_slot (s : State) (c : Fin 4) : (pathReset s).slot c = (s.streamsReset.slot c).afterPathReset := by
  have hpath : pathReset s = resetNotices (slots.foldl pathResetSlot (resetJobs s.streamsReset)) := rfl
  have hlines := (foldl_pathResetSlot (resetJobs s.streamsReset) (List.nodup_finRange 4)).2 c
  rw [if_pos (List.mem_finRange c), resetJobs_slot] at hlines
  rw [hpath, resetNotices_slot]
  exact hlines

theorem resetPageStream_of_none {s : State} (hp : s.pp.openPage = none) : resetPageStream s =
    { s with li := { s.li with bandPosition := none }, pp := { s.pp with markers := Vector.replicate 16 none } } := by
  rw [resetPageStream, voidOpenPage_of_none s hp]

/-- A frame on the link when a path reset comes is finished, and counts for nothing (R120, R178). -/
def Sending.finished : Sending → Sending
  | .scan f _ => .scan f false
  | .notice n _ => .notice n false
  | .reply r => .reply r

theorem resetPageStream_frame (s : State) : resetPageStream s = { s with
    li := { s.li with bandPosition := none }, jt := (resetPageStream s).jt
    pp := { s.pp with
      openPage := none, markers := Vector.replicate 16 none, pendingVoid := (resetPageStream s).pp.pendingVoid }
    dm := { s.dm with accum := (resetPageStream s).dm.accum }
    st := { s.st with entries := (resetPageStream s).st.entries }
    status := (resetPageStream s).status, engineOut := (resetPageStream s).engineOut } := by
  cases hp : s.pp.openPage with
  | none => rw [resetPageStream_of_none hp, ← hp]
  | some p =>
    rw [resetPageStream, voidOpenPage_of_page hp, State.openPageVoided, State.voidMarked]
    split <;> rfl

/-- What the three streams leave alone, whatever the job of a scan page does then. -/
theorem streamsReset_frame (s : State) : s.streamsReset = { s with
    li := { s.li with bandPosition := none, sending := s.streamsReset.li.sending }
    jt := s.streamsReset.jt, acct := { s.acct with records := s.streamsReset.acct.records }
    pp := { s.pp with
      openPage := none, markers := Vector.replicate 16 none, pendingVoid := (resetPageStream s).pp.pendingVoid }
    dm := { s.dm with accum := s.streamsReset.dm.accum }
    st := { s.st with entries := [], pathClear := (clearTracker (resetPageStream s)).st.pathClear }
    sp := { (voidScanPage (clearTracker (resetPageStream s))).sp with buffer := [], announced := none }
    tu := s.streamsReset.tu, kt := s.streamsReset.kt, ms := s.streamsReset.ms, status := s.streamsReset.status
    draws := s.streamsReset.draws, tagOut := s.streamsReset.tagOut
    engineOut := (clearTracker (resetPageStream s)).engineOut } := by
  have hpages := resetPageStream_frame s
  rw [State.streamsReset]
  generalize resetPageStream s = a at hpages ⊢
  have htracker := clearTracker_eq a
  have hscan := voidScanPage_frame (clearTracker a)
  rw [resetScanPath]
  generalize clearTracker a = b at htracker hscan ⊢
  generalize voidScanPage b = v at hscan ⊢
  rw [hscan, htracker, hpages]
  split <;> rfl

end Sys2Proof.Machine

/-! PROOFS. RESET PATH and the path-reset line (O52): what a path reset leaves, field by field. -/

namespace Sys2Proof.Machine

/-! ### What the streams leave, where the job of every page is ACTIVE -/

/-- The status block keeps its mask, and every flag that is set. -/
def Status.Keeps (a b : Status) : Prop := b.mask = a.mask ∧ ∀ f, a.has f = true → b.has f = true

theorem raise_status_keeps (s : State) (f : Flag) (v : List Val) : s.status.Keeps (s.raise f v).status :=
  ⟨raise_mask s f v, fun g hg => by simp [has_raise, hg]⟩

theorem resetPageStream_status (s : State) : s.status.Keeps (resetPageStream s).status := by
  cases hp : s.pp.openPage with
  | none => rw [resetPageStream_of_none hp]; exact ⟨rfl, fun _ h => h⟩
  | some p =>
    have hsame : (s.openPageVoided p).status = s.status := by
      rw [State.openPageVoided, State.voidMarked]
      split <;> rfl
    rw [resetPageStream, voidOpenPage_of_page hp, ← hsame]
    exact raise_status_keeps _ _ _

theorem resetPageStream_job_state (s : State) (h : Fin 16) : ((resetPageStream s).job h).state = (s.job h).state := by
  obtain ⟨c, hc⟩ := voidOpenPage_job s h
  have hjob : (resetPageStream s).job h = (voidOpenPage s).job h := rfl
  rw [hjob, hc]

/-- What the void of a scan page leaves, its job ACTIVE. -/
theorem voidScanPage_of_pagesActive {s : State} (ha : ∀ p ∈ s.sp.page, (s.job p.tag.job).state = .active) :
    (voidScanPage s).tu = s.tu ∧ (voidScanPage s).kt = s.kt ∧ (voidScanPage s).ms = s.ms ∧
      (voidScanPage s).sp.egress = s.sp.egress ∧ (voidScanPage s).sp.page = none ∧
      s.status.Keeps (voidScanPage s).status := by
  cases hp : s.sp.page with
  | none => rw [voidScanPage_of_idle hp]; exact ⟨rfl, rfl, rfl, rfl, hp, rfl, fun _ h => h⟩
  | some p =>
    rw [voidScanPage_of_active hp (ha p hp)]
    exact ⟨rfl, rfl, rfl, rfl, rfl, raise_status_keeps
      ((releaseReservation s (s.job p.tag.job).account p.reservation).countVoided p.tag.job) _ _⟩

theorem streamsReset_of_pagesActive {s : State} (ha : PagesActive s) :
    s.streamsReset.tu = s.tu ∧ s.streamsReset.kt = s.kt ∧ s.streamsReset.ms = s.ms ∧
      s.streamsReset.sp = { s.sp with page := none, announced := none, buffer := [] } ∧
      s.status.Keeps s.streamsReset.status := by
  have hstate (h : Fin 16) := resetPageStream_job_state s h
  have hstatus := resetPageStream_status s
  have hpages := resetPageStream_frame s
  rw [State.streamsReset]
  generalize resetPageStream s = a at hpages hstate hstatus ⊢
  have htracker : clearTracker a = { a with
      acct := (clearTracker a).acct, st := (clearTracker a).st, engineOut := (clearTracker a).engineOut } := by
    have := clearTracker_eq a
    generalize clearTracker a = b at this
    rw [this]
    split <;> rfl
  generalize clearTracker a = b at htracker ⊢
  have hsp : b.sp = s.sp := by rw [htracker, hpages]
  have hactive : ∀ p ∈ b.sp.page, (b.job p.tag.job).state = .active := by
    intro p hp
    rw [hsp] at hp
    have hjob : (b.job p.tag.job).state = (a.job p.tag.job).state := by rw [htracker]; rfl
    rw [hjob, hstate]
    exact (ha.2 p hp).1
  obtain ⟨htu, hkt, hms, hegress, hpage, hkeeps⟩ := voidScanPage_of_pagesActive hactive
  have hfields : b.tu = s.tu ∧ b.kt = s.kt ∧ b.ms = s.ms ∧ b.status = a.status := by
    rw [htracker, hpages]
    exact ⟨rfl, rfl, rfl, rfl⟩
  obtain ⟨btu, bkt, bms, bstatus⟩ := hfields
  rw [bstatus] at hkeeps
  refine ⟨htu.trans btu, hkt.trans bkt, hms.trans bms, ?_, hkeeps.1.trans hstatus.1, fun f hf => hkeeps.2 f (hstatus.2 f hf)⟩
  have hscan : (resetScanPath b).sp =
      { page := (voidScanPage b).sp.page, announced := none, buffer := [], egress := (voidScanPage b).sp.egress } := rfl
  rw [hscan, hpage, hegress, hsp]

/-! ### The reset as a whole -/

theorem resetPageStream_engine (s : State) :
    (s.pp.engineReady = true → (resetPageStream s).engineOut =
        s.engineOut ++ (match s.pp.openPage with | some p => [markPageVoid p.tag] | none => []) ∧
      (resetPageStream s).pp.pendingVoid = s.pp.pendingVoid) ∧
    (s.pp.engineReady = false → (resetPageStream s).engineOut = s.engineOut ∧
      (resetPageStream s).pp.pendingVoid =
        match s.pp.openPage with | some p => some p.tag | none => s.pp.pendingVoid) := by
  cases hp : s.pp.openPage with
  | none =>
    rw [resetPageStream_of_none hp]
    exact ⟨fun _ => ⟨(List.append_nil _).symm, rfl⟩, fun _ => ⟨rfl, rfl⟩⟩
  | some p =>
    rw [resetPageStream, voidOpenPage_of_page hp, State.openPageVoided, State.voidMarked]
    refine ⟨fun hr => ?_, fun hr => ?_⟩
    · rw [if_pos hr]; exact ⟨rfl, rfl⟩
    · rw [if_neg (by rw [hr]; decide)]; exact ⟨rfl, rfl⟩

/-- What the engine is told by the clearing of the tracker (R95). -/
theorem clearTracker_engine (s : State) :
    (s.pp.engineReady = true → (clearTracker s).engineOut = s.engineOut ++ [markPathClear] ∧
      (clearTracker s).st.pathClear = s.st.pathClear) ∧
    (s.pp.engineReady = false → (clearTracker s).engineOut = s.engineOut ∧ (clearTracker s).st.pathClear = true) := by
  have h := clearTracker_eq s
  generalize clearTracker s = t at h
  rw [h]
  refine ⟨fun hr => ?_, fun hr => ?_⟩
  · rw [if_pos hr]; exact ⟨rfl, rfl⟩
  · rw [if_neg (by rw [hr]; decide)]; exact ⟨rfl, rfl⟩

/-- The state of a path reset over the streams' reset. -/
theorem pathReset_frame (s : State) : pathReset s = { s.streamsReset with
    jt := Vector.replicate 16 Job.initial
    kt := s.streamsReset.kt.map KeySlot.afterPathReset
    acct := { s.streamsReset.acct with session := none }
    tb := (s.streamsReset.setChannel 0 (s.streamsReset.channel 0).halt).tb
    tu := { s.streamsReset.tu with slots := (pathReset s).tu.slots }
    status := { s.streamsReset.status with notices := [] }
    li := { s.streamsReset.li with sending := (pathReset s).li.sending } } := by
  have h := pathReset_eq s
  generalize pathReset s = t at h
  rw [h]
  rfl

theorem resetPageStream_li (s : State) : (resetPageStream s).li = { s.li with bandPosition := none } := by
  rw [resetPageStream_frame]

theorem clearTracker_li (s : State) : (clearTracker s).li = s.li := by
  rw [clearTracker_eq]
  dsimp only
  split <;> rfl

/-- A scan frame on the link when a path reset comes (R120). -/
def Sending.scanFinished : Sending → Sending
  | .scan f _ => .scan f false
  | .notice n b => .notice n b
  | .reply r => .reply r

/-- A notice on the link when a path reset comes (R178). -/
def Sending.noticeFinished : Sending → Sending
  | .scan f b => .scan f b
  | .notice n _ => .notice n false
  | .reply r => .reply r

theorem resetScanPath_li (s : State) : (resetScanPath s).li = { (voidScanPage s).li with
    sending := (voidScanPage s).li.sending.map Sending.scanFinished } := by
  have hf : (fun x : Sending => match x with | .scan f _ => Sending.scan f false | y => y) = Sending.scanFinished := by
    funext x
    cases x <;> rfl
  rw [← hf] <;> rfl

theorem resetNotices_li (s : State) : (resetNotices s).li =
    { s.li with sending := s.li.sending.map Sending.noticeFinished } := by
  have hf : (fun x : Sending => match x with | .notice n _ => Sending.notice n false | y => y) =
      Sending.noticeFinished := by
    funext x
    cases x <;> rfl
  rw [← hf] <;> rfl

/-- A frame that a path reset meets on the link is finished; nothing else of the Link Interface changes but the band
position (log entry 18). -/
theorem pathReset_li (s : State) : (pathReset s).li =
    { s.li with bandPosition := none, sending := s.li.sending.map Sending.finished } := by
  have hvoided : (voidScanPage (clearTracker (resetPageStream s))).li = { s.li with bandPosition := none } := by
    rw [voidScanPage_li, clearTracker_li, resetPageStream_li]
  have hstreams : s.streamsReset.li = { s.li with
      bandPosition := none, sending := s.li.sending.map Sending.scanFinished } := by
    rw [State.streamsReset, resetScanPath_li, hvoided]
  have h := pathReset_eq s
  generalize s.streamsReset = u at h hstreams
  rw [h, resetNotices_li]
  have hjobs : (resetJobs u).li = u.li := rfl
  generalize resetJobs u = j at hjobs
  simp only [hjobs, hstreams, Option.map_map]
  refine congrArg (fun x => { s.li with bandPosition := none, sending := x }) (Option.map_congr fun x _ => ?_)
  cases x <;> rfl

/-- What an open page or a scan page found is reported as (R179). -/
theorem optTag_openPage (s : State) : optTag (s.pp.openPage.map fun p => p.tag) =
    match s.pp.openPage with
    | some p => .present 3 (p.tag.job.val * 65536 + p.tag.page)
    | none => .absent 3 := by
  cases s.pp.openPage <;> rfl

theorem isSome_scanPage (s : State) : s.sp.page.isSome = match s.sp.page with | some _ => true | none => false := by
  cases s.sp.page <;> rfl

theorem pathReset_engine (s : State) :
    let t := pathReset s
    let mark := match s.pp.openPage with | some p => [markPageVoid p.tag] | none => []
    (s.pp.engineReady = true →
      t.engineOut = s.engineOut ++ mark ++ [markPathClear] ∧ t.st.pathClear = s.st.pathClear ∧
      t.pp.pendingVoid = s.pp.pendingVoid) ∧
    (s.pp.engineReady = false →
      t.engineOut = s.engineOut ∧ t.st.pathClear = true ∧
      t.pp.pendingVoid = match s.pp.openPage with | some p => some p.tag | none => s.pp.pendingVoid) := by
  intro t mark
  have hreset : t = _ := pathReset_frame s
  have hframe := streamsReset_frame s
  have hengine : t.engineOut = (clearTracker (resetPageStream s)).engineOut ∧
      t.st.pathClear = (clearTracker (resetPageStream s)).st.pathClear ∧
      t.pp.pendingVoid = (resetPageStream s).pp.pendingVoid := by
    rw [hreset]
    generalize s.streamsReset = u at hframe
    rw [hframe]
    exact ⟨rfl, rfl, rfl⟩
  obtain ⟨hout, hclear, hpending⟩ := hengine
  have hpages := resetPageStream_frame s
  have hready : (resetPageStream s).pp.engineReady = s.pp.engineReady := by rw [hpages]
  have hstood : (resetPageStream s).st.pathClear = s.st.pathClear := by rw [hpages]
  obtain ⟨hhigh, hlow⟩ := resetPageStream_engine s
  obtain ⟨chigh, clow⟩ := clearTracker_engine (resetPageStream s)
  rw [hready, hstood] at chigh
  rw [hready] at clow
  refine ⟨fun hr => ⟨?_, ?_, ?_⟩, fun hr => ⟨?_, ?_, ?_⟩⟩
  · rw [hout, (chigh hr).1, (hhigh hr).1]
  · rw [hclear, (chigh hr).2]
  · rw [hpending, (hhigh hr).2]
  · rw [hout, (clow hr).1, (hlow hr).1]
  · rw [hclear, (clow hr).2]
  · rw [hpending, (hlow hr).2]

theorem pathReset_cu (s : State) : (pathReset s).cu = s.cu := by
  have h := pathReset_frame s
  have hstreams := streamsReset_frame s
  generalize s.streamsReset = u at h hstreams
  rw [h, hstreams]

/-- The Command Unit once a reply not yet begun on the link has been discarded. -/
def UnitState.unsentDropped (u : UnitState) (x : Option Sending) : UnitState :=
  match u, x with
  | .replying _, some (.reply _) => u
  | .replying _, _ => .idle
  | _, _ => u

theorem dropUnsentReply_eq (s : State) : dropUnsentReply s =
    { s with cu := { s.cu with state := s.cu.state.unsentDropped s.li.sending } } := by
  have hstates (u : State) (x : UnitState) (y : Option Sending) :
      dropUnsentReply { u with cu := { u.cu with state := x }, li := { u.li with sending := y } } =
        { u with cu := { u.cu with state := x.unsentDropped y }, li := { u.li with sending := y } } := by
    cases x with
    | idle => rfl
    | working k g w => rfl
    | replying r =>
      cases y with
      | none => rfl
      | some y => cases y <;> rfl
  exact hstates s s.cu.state s.li.sending

theorem unsentDropped_finished (x : UnitState) (y : Option Sending) :
    x.unsentDropped (y.map Sending.finished) = x.unsentDropped y := by
  cases x with
  | idle => rfl
  | working k g w => rfl
  | replying r =>
    cases y with
    | none => rfl
    | some y => cases y <;> rfl

theorem pathReset_ready (s : State) : (pathReset s).pp.engineReady = s.pp.engineReady := by
  have hreset := pathReset_frame s
  have hframe := streamsReset_frame s
  generalize s.streamsReset = u at hreset hframe
  rw [hreset, hframe]

theorem pathLineRise_eq {s : State} (h : s.li.pathLine = false) : pathLineRise s =
    (let u := pathReset { s with li := { s.li with pathLine := true } }
     { u with
        li := { u.li with commandQueue := [] }
        cu := { u.cu with state :=
          match s.cu.state, s.li.sending with
          | .replying _, some (.reply _) => s.cu.state
          | .replying _, _ => .idle
          | _, _ => s.cu.state } }) := by
  have hrise : pathLineRise s = dropUnsentReply
      { pathReset { s with li := { s.li with pathLine := true } } with
        li := { (pathReset { s with li := { s.li with pathLine := true } }).li with commandQueue := [] } } := by
    simp only [pathLineRise, h, Bool.false_eq_true, if_false]
  have hli := pathReset_li { s with li := { s.li with pathLine := true } }
  have hcu : (pathReset { s with li := { s.li with pathLine := true } }).cu = s.cu :=
    pathReset_cu { s with li := { s.li with pathLine := true } }
  rw [hrise, dropUnsentReply_eq]
  generalize pathReset { s with li := { s.li with pathLine := true } } = u at hli hcu
  have hdropped : u.cu.state.unsentDropped u.li.sending = s.cu.state.unsentDropped s.li.sending := by
    rw [hli, hcu]
    exact unsentDropped_finished _ _
  exact congrArg (fun x => { u with li := { u.li with commandQueue := [] }, cu := { u.cu with state := x } }) hdropped

/-- A path reset where the job of every page is ACTIVE. -/
theorem pathReset_of_pagesActive {s : State} (ha : PagesActive s) : pathReset s = { s with
    li := (pathReset s).li
    jt := Vector.replicate 16 Job.initial
    acct := { s.acct with records := (pathReset s).acct.records, session := none }
    pp := { s.pp with
      openPage := none, markers := Vector.replicate 16 none, pendingVoid := (pathReset s).pp.pendingVoid }
    dm := { s.dm with accum := (pathReset s).dm.accum }
    st := { s.st with entries := [], pathClear := (pathReset s).st.pathClear }
    tu := { s.tu with slots := (pathReset s).tu.slots }
    sp := { s.sp with page := none, announced := none, buffer := [] }
    kt := s.kt.map KeySlot.afterPathReset
    tb := (s.setChannel 0 (s.channel 0).halt).tb
    status := { s.streamsReset.status with notices := [] }
    draws := (pathReset s).draws, engineOut := (pathReset s).engineOut, tagOut := (pathReset s).tagOut } := by
  have hreset := pathReset_frame s
  have hframe := streamsReset_frame s
  obtain ⟨htu, hkt, hms, hsp, -⟩ := streamsReset_of_pagesActive ha
  generalize pathReset s = t at hreset ⊢
  generalize s.streamsReset = u at hreset hframe htu hkt hms hsp ⊢
  have hscan := (congrArg State.sp hframe).symm.trans hsp
  dsimp only at hreset hframe hscan
  rw [htu, hkt, hms, hscan] at hframe
  rw [hframe] at hreset
  rw [hreset]
  rfl

/-- Settles O52. -/
theorem pathResets : Obligations.PathResets := by
  intro s t jobs
  have ht : pathReset s = t := rfl
  clear_value t
  have hli := pathReset_li s
  rw [ht] at hli
  refine ⟨fun tag hr => ?_, fun h => ?_, fun h => ?_, rfl, ?_, fun ha => ?_⟩
  · have hband : t.li.bandPosition = none := by rw [hli]
    refine next_of_reply_of_band hr .resetPath ?_ hband
    refine (congrArg₂ (fun page scan => (pathReset s, Answer.reply .ok ([.u8 jobs.length] ++
      jobs.map (fun h => Val.u8 h.val) ++ [page, .u16 s.st.entries.length, .flag scan,
        .u16 ((List.finRange 64).filter fun k => (s.key k).state == .active).length])))
      (optTag_openPage s) (isSome_scanPage s)).trans ?_
    exact congrArg (fun u => (u, Answer.reply .ok _)) ht
  · exact congrArg Host.Outcome.next (if_pos h)
  · exact congrArg Host.Outcome.next (pathLineRise_eq h)
  · intro mark
    obtain ⟨hhigh, hlow⟩ := pathReset_engine s
    have hready := pathReset_ready s
    rw [ht] at hhigh hlow hready
    exact ⟨hhigh, hlow, hready⟩
  · obtain ⟨htu, -, -, -, hmask, hflags⟩ := streamsReset_of_pagesActive ha
    have hactive := pathReset_of_pagesActive ha
    have hcharges := pathReset_charges s
    have hlaw := pathReset_kept s
    have hslot := pathReset_slot s
    rw [ht] at hactive hcharges hlaw hslot
    refine ⟨fun h => ?_, ?_, ?_, ?_, ?_, ?_, ?_, ?_, ?_, ?_, ?_, ?_, ?_, fun i => ?_, fun k => ?_, fun c => ?_, ?_, ?_,
      ?_, ?_, fun hL i => ?_⟩
    case refine_14 =>
      obtain ⟨hcharged, hquota, hcounters, -⟩ := hcharges i
      exact ⟨hcharged, hquota, hcounters⟩
    case refine_16 =>
      have hstood : s.streamsReset.slot c = s.slot c := congrArg (fun u : CartridgeUnit => u.slots[c]) htu
      rw [hslot, hstood]
      exact afterPathReset_eq _
    case refine_21 =>
      have hentries : t.st.entries = [] := by rw [hactive]
      have hpage : t.sp.page = none := by rw [hactive]
      have hscan : t.ledger.scan = none := by simp only [State.ledger, hpage]; rfl
      exact (hlaw ((ledgerLaw_iff s).1 hL)).reserved_eq_zero hentries hscan i
    case refine_1 =>
      have hjobs : t.jt = Vector.replicate 16 Job.initial := by rw [hactive]
      rw [State.job, hjobs]
      exact Vector.getElem_replicate _
    case refine_15 =>
      have hkeys : t.kt = s.kt.map KeySlot.afterPathReset := by rw [hactive]
      rw [State.key, hkeys]
      exact Vector.getElem_map ..
    case refine_9 => rw [hactive]
    case refine_10 => rw [hactive]; exact hmask
    case refine_11 =>
      intro f hf
      rw [hactive]
      exact hflags f hf
    case refine_20 => rw [hactive]; rfl
    case refine_6 => rw [hli]
    case refine_7 => rw [hli]
    case refine_8 => rw [hli]
    all_goals rw [hactive]

end Sys2Proof.Machine

/-! PROOFS. The erases of a power-on (O53): a key row whose releases are 0 comes up ERASING, and the erases of these rows
are requested in slot order. -/

namespace Sys2Proof.Machine

/-! ### The erase of one slot -/

/-- A slot as it enters ERASING, but for its row request (R145). -/
def KeySlot.erasing (x : KeySlot) (cause : EraseCause) (r : RowRequest) : KeySlot :=
  { x with state := .erasing, cipherKey := 0, checkKey := 0, releases := 0, cause := some cause, rowRequest := r }

theorem keyRequest_erase (u : State) (k : Fin 64) : keyRequest u k (RowRequest.erase = .erase ∨ (u.key k).state = .free) =
    .erase (keyRow k) (u.key k).generation := if_pos (.inl rfl)

section
variable {u : State} {k : Fin 64} (cause : EraseCause)

theorem enterErasing_of_persisted (hp : (u.key k).persisted = true) : enterErasing u k cause =
    requestKeyRow (u.setKey k ((u.key k).erasing cause (u.key k).rowRequest)) k .erase :=
  (enterErasing_eq u k cause).trans (if_pos hp)

theorem keyRequest_erasing : keyRequest (u.setKey k ((u.key k).erasing cause (u.key k).rowRequest)) k
    (RowRequest.erase = .erase ∨ ((u.setKey k ((u.key k).erasing cause (u.key k).rowRequest)).key k).state = .free) =
      .erase (keyRow k) (u.key k).generation := by
  rw [keyRequest_erase, State.key_setKey_self]
  rfl

variable (hp : (u.key k).persisted = true) (hnew : ∀ e ∈ u.ms.queue, (e.request.row? == some (keyRow k)) = false)
include hp hnew

/-- A persisted slot enters ERASING while the queue has room: its erase is appended. -/
theorem enterErasing_of_room (hroom : u.ms.queue.length < 16) : enterErasing u k cause =
    (startIfReady { u.setKey k ((u.key k).erasing cause (u.key k).rowRequest) with ms := { u.ms with
      queue := u.ms.queue ++ [⟨.erase (keyRow k) (u.key k).generation, false⟩] } }).setKey k
        ((u.key k).erasing cause .none) := by
  have hqueued := enqueue_of_room (writing := u.ms.writing) false
    (q := .erase (keyRow k) (u.key k).generation) rfl hnew (.inl hroom)
  rw [← keyRequest_erasing cause] at hqueued
  rw [enterErasing_of_persisted cause hp, requestKeyRow_of_queued hqueued, keyRequest_erasing, State.key_setKey_self]
  rfl

/-- A persisted slot enters ERASING where 16 wait and its row is not being written: its erase becomes its row request. -/
theorem enterErasing_of_full (hfull : 16 ≤ u.ms.queue.length) (hwriting : u.ms.writing ≠ some (keyRow k)) :
    enterErasing u k cause = u.setKey k ((u.key k).erasing cause .erase) := by
  have hrefused := enqueue_of_full (writing := u.ms.writing) false
    (q := .erase (keyRow k) (u.key k).generation) rfl hnew hfull hwriting
  rw [← keyRequest_erasing cause] at hrefused
  rw [enterErasing_of_persisted cause hp, requestKeyRow_of_refused hrefused, State.key_setKey_self]
  simp [State.setKey, KeySlot.erasing]

end

/-! ### The erases of the spent slots, one after another -/

/-- The valid row of a key slot holds no release. -/
def spentRow (m : Memory) (k : Fin 64) : Bool :=
  validRow m (keyRow k) && (decodeKeySlot (m.row (keyRow k))).releases == 0

theorem spentRow_iff (m : Memory) (k : Fin 64) : spentRow m k = true ↔
    rowCondition (m.row (keyRow k)) = .valid ∧ (decodeKeySlot (m.row (keyRow k))).releases = 0 := by
  simp [spentRow, validRow]

/-- The request that erases a key row (R135). -/
def eraseRequest (m : Memory) (k : Fin 64) : StoreRequest :=
  .erase (keyRow k) (decodeKeySlot (m.row (keyRow k))).generation

/-- How many erases the store takes at a power-on: the one in flight, where the power warning lets it start, and those
that wait. -/
def erasePlaces (warning : Bool) : Nat := if warning then 16 else 17

/-- The key slots once those of `sp` have entered ERASING in this order. -/
def erasedKeys (m : Memory) (warning : Bool) (sp : List (Fin 64)) : Vector KeySlot 64 :=
  Vector.ofFn fun k =>
    if k ∈ sp then (decodeKeySlot (m.row (keyRow k))).erasing .released
      (if k ∈ sp.take (erasePlaces warning) then .none else .erase)
    else loadKeySlot m k

/-- The store once the slots of `sp` have entered ERASING in this order. -/
def erasingStore (x : MeterStore) (sp : List (Fin 64)) : MeterStore :=
  { x with
    op := if x.warning then none else sp.head?.map fun k => ⟨eraseRequest x.memory k, false, keyRow k, 1, 0⟩
    latches := List.replicate 64 (if x.warning = false ∧ sp ≠ [] then 0xFF else 0x00)
    queue := ((sp.take (erasePlaces x.warning)).map fun k => ⟨eraseRequest x.memory k, false⟩).drop
      (erasePlaces x.warning - 16) }

/-- The loaded state once the slots of `sp` have entered ERASING in this order. -/
def State.spentErased (s : State) (sp : List (Fin 64)) : State :=
  { loaded s with
    kt := erasedKeys s.ms.memory s.ms.warning sp
    ms := erasingStore (loaded s).ms sp }

theorem spentErased_nil (s : State) : s.spentErased [] = loaded s := by
  have hkeys : erasedKeys s.ms.memory s.ms.warning [] = (loaded s).kt := by
    simp only [erasedKeys, List.not_mem_nil, if_false]
    rfl
  have hstore : erasingStore (loaded s).ms [] = (loaded s).ms := by
    simp [erasingStore, loaded]
  rw [State.spentErased, hkeys, hstore]

section
variable (s : State) (sp : List (Fin 64)) (k : Fin 64)

theorem spentErased_key (hk : k ∉ sp) : (s.spentErased sp).key k = loadKeySlot s.ms.memory k := by
  simp [State.key, State.spentErased, erasedKeys, hk]

theorem keyRow_injective {j k : Fin 64} (h : keyRow j = keyRow k) : j = k := by
  simp only [keyRow, Fin.mk.injEq] at h
  omega

/-- No erase waits for the row of a slot that is not among them. -/
theorem spentErased_new (hk : k ∉ sp) :
    ∀ e ∈ (s.spentErased sp).ms.queue, (e.request.row? == some (keyRow k)) = false := by
  intro e he
  obtain ⟨j, hj, rfl⟩ := List.mem_map.1 (List.mem_of_mem_drop he)
  refine beq_eq_false_iff_ne.2 fun h => hk ?_
  have hjk : j = k := keyRow_injective (Option.some.inj h)
  exact hjk ▸ List.mem_of_mem_take hj

theorem spentErased_writing (hk : k ∉ sp) : (s.spentErased sp).ms.writing ≠ some (keyRow k) := by
  intro h
  obtain ⟨op, hop, hrow⟩ := (MeterStore.writing_iff _ _).1 h
  simp only [State.spentErased, erasingStore] at hop
  split at hop
  · cases hop
  · obtain ⟨j, hj, rfl⟩ := Option.map_eq_some_iff.1 hop
    have hjk : j = k := keyRow_injective (Option.some.inj hrow)
    exact hk (hjk ▸ List.mem_of_mem_head? hj)

theorem spentErased_queue_length : (s.spentErased sp).ms.queue.length =
    min (erasePlaces s.ms.warning) sp.length - (erasePlaces s.ms.warning - 16) := by
  have hw : (loaded s).ms.warning = s.ms.warning := rfl
  simp [State.spentErased, erasingStore, hw]

theorem erasedKeys_append (m : Memory) (w : Bool) (hk : k ∉ sp) : erasedKeys m w (sp ++ [k]) =
    (erasedKeys m w sp).set k ((decodeKeySlot (m.row (keyRow k))).erasing .released
      (if sp.length < erasePlaces w then .none else .erase)) := by
  refine Vector.ext fun i hi => ?_
  by_cases h : k.val = i
  · subst h
    have hin : k ∈ (sp ++ [k]).take (erasePlaces w) ↔ sp.length < erasePlaces w := by
      rw [List.take_append, List.mem_append]
      constructor
      · rintro (h | h)
        · exact absurd (List.mem_of_mem_take h) hk
        · by_contra hlt
          rw [Nat.sub_eq_zero_of_le (Nat.not_lt.1 hlt)] at h
          simp at h
      · intro hlt
        right
        rw [List.take_of_length_le (by simp; omega)]
        exact List.mem_singleton_self k
    simp [erasedKeys, hin]
  · have hne : (⟨i, hi⟩ : Fin 64) ≠ k := fun he => h (congrArg Fin.val he).symm
    have hin : (⟨i, hi⟩ : Fin 64) ∈ (sp ++ [k]).take (erasePlaces w) ↔
        (⟨i, hi⟩ : Fin 64) ∈ sp.take (erasePlaces w) := by
      rw [List.take_append, List.mem_append]
      exact or_iff_left fun hm => hne (List.mem_singleton.1 (List.mem_of_mem_take hm))
    rw [Vector.getElem_set_ne _ _ h]
    simp [erasedKeys, hne, hin]

/-- The state once one more slot has entered ERASING, from the store's part and the slot's row request. -/
theorem spentErased_append (hk : k ∉ sp) {x : MeterStore} (hx : erasingStore (loaded s).ms (sp ++ [k]) = x) :
    s.spentErased (sp ++ [k]) = { s.spentErased sp with
      kt := (s.spentErased sp).kt.set k ((decodeKeySlot (s.ms.memory.row (keyRow k))).erasing .released
        (if sp.length < erasePlaces s.ms.warning then .none else .erase))
      ms := x } := by
  rw [State.spentErased, erasedKeys_append sp k _ _ hk, hx]
  rfl

/-- The store takes one more erase while places remain, another operation in flight or none allowed. -/
theorem erasingStore_append_of_room (x : MeterStore) (hroom : sp.length < erasePlaces x.warning)
    (hidle : sp ≠ [] ∨ x.warning = true) : erasingStore x (sp ++ [k]) = { erasingStore x sp with
      queue := (erasingStore x sp).queue ++ [⟨eraseRequest x.memory k, false⟩] } := by
  have hhead : (if x.warning then none else (sp ++ [k]).head?.map fun k =>
      (⟨eraseRequest x.memory k, false, keyRow k, 1, 0⟩ : StoreOp)) = (erasingStore x sp).op := by
    simp only [erasingStore]
    obtain h | h := hidle
    · rw [List.head?_append_of_ne_nil _ h]
    · rw [if_pos h, if_pos h]
  have hlatches : (x.warning = false ∧ sp ++ [k] ≠ []) ↔ (x.warning = false ∧ sp ≠ []) := by
    refine and_congr_right fun hw => ?_
    obtain h | h := hidle
    · exact iff_of_true (by simp) h
    · rw [hw] at h; cases h
  have hdrop : erasePlaces x.warning - 16 ≤ sp.length := by
    obtain h | h := hidle
    · have := List.length_pos_of_ne_nil h
      rw [erasePlaces]
      split <;> omega
    · rw [erasePlaces, if_pos h]
      omega
  have hqueue : (((sp ++ [k]).take (erasePlaces x.warning)).map fun k =>
      (⟨eraseRequest x.memory k, false⟩ : StoreEntry)).drop (erasePlaces x.warning - 16) =
        (erasingStore x sp).queue ++ [⟨eraseRequest x.memory k, false⟩] := by
    rw [List.take_of_length_le (by simp; omega), List.map_append, List.drop_append_of_le_length (by simpa using hdrop)]
    simp only [erasingStore]
    rw [List.take_of_length_le (Nat.le_of_lt hroom)]
    rfl
  rw [erasingStore, hhead, if_congr hlatches rfl rfl, hqueue]
  rfl

/-- The store takes no erase where every place is taken. -/
theorem erasingStore_append_of_full (x : MeterStore) (hfull : erasePlaces x.warning ≤ sp.length) :
    erasingStore x (sp ++ [k]) = erasingStore x sp := by
  have hne : sp ≠ [] := by
    rintro rfl
    simp only [erasePlaces] at hfull
    split at hfull <;> simp at hfull
  rw [erasingStore, erasingStore, List.head?_append_of_ne_nil _ hne, List.take_append_of_le_length hfull,
    if_congr (and_congr_right fun _ => iff_of_true (by simp) hne) rfl rfl]

/-- The first erase starts at once, where the power warning is low. -/
theorem erasingStore_first (x : MeterStore) (hw : x.warning = false) : erasingStore x [k] =
    { x with op := some ⟨eraseRequest x.memory k, false, keyRow k, 1, 0⟩, latches := List.replicate 64 0xFF, queue := [] } := by
  simp [erasingStore, hw, erasePlaces]

end

/-- An erase requested of an idle store starts at once, where the power warning is low (R154). -/
theorem startIfReady_of_first_erase {u : State} (hq : u.ms.queue = []) (hop : u.ms.op = none) (hheld : u.ms.held = [])
    (hw : u.ms.warning = false) (k : Fin 64) (x : KeySlot) (r : Row) (g : Half) :
    startIfReady { u.setKey k x with ms := { u.ms with queue := u.ms.queue ++ [⟨.erase r g, false⟩] } } =
      { u.setKey k x with ms := { u.ms with
        op := some ⟨.erase r g, false, r, 1, 0⟩, latches := List.replicate 64 0xFF, queue := [] } } := by
  have hhead : u.ms.queue ++ [(⟨.erase r g, false⟩ : StoreEntry)] = [⟨.erase r g, false⟩] := by rw [hq]; rfl
  rw [hhead, startIfReady_of_erase
    (s := { u.setKey k x with ms := { u.ms with queue := [⟨.erase r g, false⟩] } }) rfl hop hw rfl]
  simp only [State.flying, hheld]
  rfl

/-- A spent slot enters ERASING after those of `sp`. -/
theorem eraseSpent_of_spent (s : State) (sp : List (Fin 64)) (k : Fin 64) (hk : k ∉ sp)
    (hs : spentRow s.ms.memory k = true) : eraseSpent (s.spentErased sp) k = s.spentErased (sp ++ [k]) := by
  obtain ⟨hvalid, hreleases⟩ := (spentRow_iff _ _).1 hs
  have hkey : (s.spentErased sp).key k = decodeKeySlot (s.ms.memory.row (keyRow k)) := by
    rw [spentErased_key s sp k hk, loadKeySlot, if_pos (by simp [validRow, hvalid])]
  have herase : eraseSpent (s.spentErased sp) k = enterErasing (s.spentErased sp) k .released :=
    if_pos (by rw [hkey]; exact ⟨rfl, hreleases⟩)
  have hpersisted : ((s.spentErased sp).key k).persisted = true := by rw [hkey]; rfl
  have hnew := spentErased_new s sp k hk
  have hlength := spentErased_queue_length s sp
  have hwarning : (loaded s).ms.warning = s.ms.warning := rfl
  rw [herase]
  by_cases hroom : sp.length < erasePlaces s.ms.warning
  · have hqueue : (s.spentErased sp).ms.queue.length < 16 := by
      rw [hlength]
      cases hw : s.ms.warning <;> simp only [hw, erasePlaces, if_true, Bool.false_eq_true, if_false] at hroom ⊢ <;> omega
    rw [enterErasing_of_room .released hpersisted hnew hqueue, hkey]
    by_cases hidle : sp ≠ [] ∨ s.ms.warning = true
    · rw [spentErased_append s sp k hk (erasingStore_append_of_room sp k _ hroom hidle), if_pos hroom,
        startIfReady_of_idle ?_]
      · simp only [State.setKey, Vector.set_set]
        rfl
      · obtain h | h := hidle
        · cases hw : s.ms.warning with
          | true => exact .inr (.inr hw)
          | false =>
            left
            obtain ⟨j, rest, rfl⟩ := List.exists_cons_of_ne_nil h
            show (if s.ms.warning then none else _) ≠ none
            rw [hw]
            simp
        · exact .inr (.inr h)
    · obtain ⟨hsp, hw⟩ := not_or.1 hidle
      have hempty : sp = [] := not_not.1 hsp
      have hlow : s.ms.warning = false := Bool.not_eq_true _ ▸ hw
      subst hempty
      rw [spentErased_append s [] k hk (erasingStore_first k _ hlow), if_pos hroom, spentErased_nil]
      rw [startIfReady_of_first_erase (u := loaded s) rfl rfl rfl hlow]
      simp only [State.setKey, Vector.set_set]
      rfl
  · rw [enterErasing_of_full .released hpersisted hnew ?_ (spentErased_writing s sp k hk), hkey,
      spentErased_append s sp k hk (erasingStore_append_of_full sp k _ (Nat.not_lt.1 hroom)), if_neg hroom]
    · rfl
    · rw [hlength]
      cases hw : s.ms.warning <;> simp only [hw, erasePlaces, if_true, Bool.false_eq_true, if_false] at hroom ⊢ <;> omega

theorem eraseSpent_of_not_spent (s : State) (sp : List (Fin 64)) (k : Fin 64) (hk : k ∉ sp)
    (hs : ¬spentRow s.ms.memory k = true) : eraseSpent (s.spentErased sp) k = s.spentErased sp := by
  refine if_neg fun hc => hs ?_
  rw [spentErased_key s sp k hk, loadKeySlot] at hc
  by_cases hvalid : validRow s.ms.memory (keyRow k) = true
  · rw [if_pos hvalid] at hc
    rw [spentRow, hvalid, hc.2]
    rfl
  · rw [if_neg hvalid] at hc
    cases hc.1

theorem foldl_eraseSpent (s : State) (l : List (Fin 64)) (sp : List (Fin 64)) (hl : l.Nodup) (hsp : ∀ k ∈ l, k ∉ sp) :
    l.foldl eraseSpent (s.spentErased sp) = s.spentErased (sp ++ l.filter (spentRow s.ms.memory)) := by
  induction l generalizing sp with
  | nil => rw [List.filter_nil, List.append_nil]; rfl
  | cons k l ih =>
    obtain ⟨hk, hl⟩ := List.nodup_cons.1 hl
    have hkey : k ∉ sp := hsp k (List.mem_cons_self ..)
    have hrest : ∀ j ∈ l, j ∉ sp := fun j hj => hsp j (List.mem_cons_of_mem _ hj)
    rw [List.foldl_cons]
    by_cases hs : spentRow s.ms.memory k = true
    · have hnext : ∀ j ∈ l, j ∉ sp ++ [k] := by
        intro j hj hmem
        rcases List.mem_append.1 hmem with h | h
        · exact hrest j hj h
        · exact hk (List.mem_singleton.1 h ▸ hj)
      rw [eraseSpent_of_spent s sp k hkey hs, ih (sp ++ [k]) hl hnext, List.filter_cons_of_pos hs, List.append_assoc]
      rfl
    · rw [eraseSpent_of_not_spent s sp k hkey hs, ih sp hl hrest, List.filter_cons_of_neg hs]

/-- The slots whose valid rows hold no release, in order. -/
def spentSlots (m : Memory) : List (Fin 64) := (List.finRange 64).filter (spentRow m)

/-- The power-on reset: the load, and then every spent slot ERASING. -/
theorem powerOn_eq (s : State) : powerOn s = s.spentErased (spentSlots s.ms.memory) := by
  rw [powerOn, ← spentErased_nil]
  exact foldl_eraseSpent s _ [] (List.nodup_finRange 64) fun _ _ h => List.not_mem_nil h

theorem mem_spentSlots (m : Memory) (k : Fin 64) : k ∈ spentSlots m ↔
    rowCondition (m.row (keyRow k)) = .valid ∧ (decodeKeySlot (m.row (keyRow k))).releases = 0 := by
  rw [spentSlots, List.mem_filter, spentRow_iff]
  exact and_iff_right (List.mem_finRange k)

/-! ### The store and the key slots once the erases have been requested -/

theorem KeySlot.erasing_of_spent {x : KeySlot} (h : x.releases = 0) (cause : EraseCause) (r : RowRequest) :
    x.erasing cause r = { x with state := .erasing, cipherKey := 0, checkKey := 0, cause := some cause, rowRequest := r } := by
  rw [KeySlot.erasing, ← h]

theorem spentErased_key_of_mem (s : State) {sp : List (Fin 64)} {k : Fin 64} (hk : k ∈ sp) : (s.spentErased sp).key k =
    (decodeKeySlot (s.ms.memory.row (keyRow k))).erasing .released
      (if k ∈ sp.take (erasePlaces s.ms.warning) then .none else .erase) := by
  simp [State.key, State.spentErased, erasedKeys, hk]

/-- The erases that wait: all but the one in flight, as far as 16 places reach. -/
theorem erasingStore_queue (x : MeterStore) (sp : List (Fin 64)) : (erasingStore x sp).queue =
    (if x.warning = false ∧ sp ≠ [] then (sp.map fun k => (⟨eraseRequest x.memory k, false⟩ : StoreEntry)).drop 1
      else sp.map fun k => ⟨eraseRequest x.memory k, false⟩).take 16 := by
  simp only [erasingStore]
  cases hw : x.warning with
  | true => rw [if_neg (fun h => Bool.noConfusion h.1)]; simp [erasePlaces]
  | false =>
    cases sp with
    | nil => simp
    | cons k sp => simp [erasePlaces]

theorem erasingStore_op (x : MeterStore) (sp : List (Fin 64)) : (erasingStore x sp).op =
    if x.warning = false ∧ sp ≠ [] then sp.head?.map fun k => ⟨eraseRequest x.memory k, false, keyRow k, 1, 0⟩
    else none := by
  simp only [erasingStore]
  cases hw : x.warning with
  | true => rfl
  | false =>
    cases sp with
    | nil => rfl
    | cons k sp => simp

theorem erasePlaces_eq {w : Bool} {sp : List (Fin 64)} (hsp : sp ≠ []) :
    erasePlaces w = if w = false ∧ sp ≠ [] then 17 else 16 := by
  cases w
  · exact (if_pos ⟨rfl, hsp⟩).symm
  · rfl

end Sys2Proof.Machine

/-! PROOFS. What the load of the Meter Store gives (O53): the records of one id, the faults, the latest time of record,
the next-write position of the ring. -/

namespace Sys2Proof.Machine

theorem validRow_iff (m : Memory) (r : Row) : validRow m r = true ↔ rowCondition (m.row r) = .valid := by
  simp [validRow]

/-! ### The records of one id -/

section
variable (m : Memory)

theorem loadRecords_getElem (i : Fin 256) : (loadRecords m)[i] = loadRecord m i := by
  simp [loadRecords]

theorem duplicateBelow_iff (i : Fin 256) : duplicateBelow (loadRecords m) i = true ↔
    (loadRecord m i).state ≠ .absent ∧
      ∃ j : Fin 256, j < i ∧ (loadRecord m j).state ≠ .absent ∧ (loadRecord m j).id = (loadRecord m i).id := by
  simp only [duplicateBelow, loadRecords_getElem, Bool.and_eq_true, bne_iff_ne, List.any_eq_true, List.mem_finRange,
    true_and, decide_eq_true_eq, beq_iff_eq, and_assoc]
  exact Iff.rfl

/-- Two records that stand after the load differ in their ids (R42). -/
theorem account_loaded_ids (s : State) {i j : Fin 256} (hij : i < j) (hi : ((loaded s).account i).state ≠ .absent)
    (hj : ((loaded s).account j).state ≠ .absent) : ((loaded s).account i).id ≠ ((loaded s).account j).id := by
  rw [account_loaded] at hi hj ⊢
  rw [account_loaded s j]
  split at hi
  · exact absurd rfl hi
  next hfirst =>
    split at hj
    · exact absurd rfl hj
    next hsecond =>
      rw [if_neg hfirst, if_neg hsecond]
      exact fun hid => hsecond ((duplicateBelow_iff _ j).2 ⟨hj, i, hij, hi, hid⟩)

theorem loadRecord_of_valid {i : Fin 256} (h : rowCondition (m.row (accountRow i)) = .valid) :
    loadRecord m i = decodeAccount (m.row (accountRow i)) := if_pos ((validRow_iff _ _).2 h)

theorem loadRecord_of_not_valid {i : Fin 256} (h : ¬rowCondition (m.row (accountRow i)) = .valid) :
    loadRecord m i = Account.blank := if_neg (mt (validRow_iff _ _).1 h)

/-! ### The faults of a load -/

theorem loadFaults_iff : loadFaults m (loadRecords m) = true ↔
    (∃ r : Row, rowCondition (m.row r) = .corrupt) ∨
      ∃ i j : Fin 256, i < j ∧ (loadRecord m i).state ≠ .absent ∧ (loadRecord m j).state ≠ .absent ∧
        (loadRecord m i).id = (loadRecord m j).id := by
  have hrows : (rows.any fun r => rowCondition (m.row r) == .corrupt) = true ↔
      ∃ r : Row, rowCondition (m.row r) = .corrupt := by
    simp [rows]
  have hids : ((List.finRange 256).any fun i => duplicateBelow (loadRecords m) i) = true ↔
      ∃ j : Fin 256, duplicateBelow (loadRecords m) j = true := by
    simp
  rw [loadFaults, Bool.or_eq_true, hrows, hids]
  refine or_congr_right ⟨fun ⟨j, hj⟩ => ?_, fun ⟨i, j, hij, hi, hj, hid⟩ => ?_⟩
  · obtain ⟨hstate, i, hij, hi, hid⟩ := (duplicateBelow_iff m j).1 hj
    exact ⟨i, j, hij, hi, hstate, hid⟩
  · exact ⟨j, (duplicateBelow_iff m j).2 ⟨hj, i, hij, hi, hid⟩⟩

/-- The flags after a power-on: STORE FAULT where the load met a fault. -/
theorem has_storeFault (b : Bool) (x : BitVec 12) (n : Half) (l : List Notice) (f : Flag) :
    (⟨if b then Flag.storeFault.mask else 0, x, n, l⟩ : Status).has f = true ↔ f = .storeFault ∧ b = true := by
  cases b with
  | false => simp [Status.has]
  | true => cases f <;> simp [Status.has] <;> decide

/-! ### The latest time of record -/

/-- The times of record of the valid rows (R152). -/
def recordTimes : List Nat := rows.flatMap fun r => if validRow m r then rowTimes r (m.row r) else []

theorem latestRecord_eq : latestRecord m = (recordTimes m).foldl max 0 := by
  have hfold (l : List Row) (a : Nat) :
      l.foldl (fun t r => if validRow m r then (rowTimes r (m.row r)).foldl max t else t) a =
        (l.flatMap fun r => if validRow m r then rowTimes r (m.row r) else []).foldl max a := by
    induction l generalizing a with
    | nil => rfl
    | cons r l ih =>
      rw [List.foldl_cons, List.flatMap_cons, List.foldl_append, ih]
      split <;> rfl
  exact hfold rows 0

theorem foldl_max_spec (l : List Nat) (a : Nat) :
    a ≤ l.foldl max a ∧ (∀ x ∈ l, x ≤ l.foldl max a) ∧ (l.foldl max a = a ∨ l.foldl max a ∈ l) := by
  induction l generalizing a with
  | nil => simp
  | cons b l ih =>
    obtain ⟨hle, hall, hmem⟩ := ih (max a b)
    rw [List.foldl_cons]
    refine ⟨Nat.le_trans (Nat.le_max_left a b) hle, fun x hx => ?_, ?_⟩
    · rcases List.mem_cons.1 hx with rfl | hx
      · exact Nat.le_trans (Nat.le_max_right a x) hle
      · exact hall x hx
    · rcases hmem with h | h
      · rw [h]
        rcases Nat.le_total a b with hab | hab
        · exact .inr (by rw [Nat.max_eq_right hab]; exact List.mem_cons_self ..)
        · exact .inl (Nat.max_eq_left hab)
      · exact .inr (List.mem_cons_of_mem _ h)

/-- A row is the row of its owner. -/
theorem row_of_owner (r : Row) : (r = 0 ∨ r = 1) ∨ (∃ k, r = settingsRow k) ∨ (∃ k, r = egressRow k) ∨
    (∃ i, r = accountRow i) ∨ (∃ k, r = keyRow k) ∨ ∃ p, r = historyRow p := by
  obtain ⟨n, hn⟩ := r
  by_cases h1 : n < 2
  · left
    simp only [Fin.ext_iff]
    show n = 0 ∨ n = 1
    omega
  by_cases h2 : n < 8
  · exact .inr (.inl ⟨⟨n - 2, by omega⟩, Fin.ext (show n = 2 + (n - 2) by omega)⟩)
  by_cases h3 : n < 24
  · exact .inr (.inr (.inl ⟨⟨n - 8, by omega⟩, Fin.ext (show n = 8 + (n - 8) by omega)⟩))
  by_cases h4 : n < 280
  · exact .inr (.inr (.inr (.inl ⟨⟨n - 24, by omega⟩, Fin.ext (show n = 24 + (n - 24) by omega)⟩)))
  by_cases h5 : n < 344
  · exact .inr (.inr (.inr (.inr (.inl ⟨⟨n - 280, by omega⟩, Fin.ext (show n = 280 + (n - 280) by omega)⟩))))
  · exact .inr (.inr (.inr (.inr (.inr ⟨⟨n - 344, by omega⟩, Fin.ext (show n = 344 + (n - 344) by omega)⟩))))

/-- A time of record, by the owner of its row (R152). -/
def TimeOfRecord (time : Nat) : Prop :=
  (rowCondition (m.row 0) = .valid ∧ time = fieldAt (m.row 0) 10 4) ∨
  (rowCondition (m.row (settingsRow 0)) = .valid ∧ time = fieldAt (m.row (settingsRow 0)) 0 4) ∨
  (∃ i : Fin 256, rowCondition (m.row (accountRow i)) = .valid ∧ time = fieldAt (m.row (accountRow i)) 48 4) ∨
  (∃ k : Fin 64, rowCondition (m.row (keyRow k)) = .valid ∧ time = (decodeKeySlot (m.row (keyRow k))).created) ∨
  ∃ p : Fin 16, rowCondition (m.row (historyRow p)) = .valid ∧
    (time = fieldAt (m.row (historyRow p)) 16 4 ∨ time = fieldAt (m.row (historyRow p)) 20 4)

theorem mem_recordTimes (time : Nat) : time ∈ recordTimes m ↔
    ∃ r : Row, rowCondition (m.row r) = .valid ∧ time ∈ rowTimes r (m.row r) := by
  have hin (r : Row) : time ∈ (if validRow m r then rowTimes r (m.row r) else []) ↔
      rowCondition (m.row r) = .valid ∧ time ∈ rowTimes r (m.row r) := by
    by_cases hv : validRow m r = true
    · rw [if_pos hv]
      exact (and_iff_right ((validRow_iff m r).1 hv)).symm
    · rw [if_neg hv]
      exact iff_of_false List.not_mem_nil fun h => hv ((validRow_iff m r).2 h.1)
  simp only [recordTimes, List.mem_flatMap, hin, rows, List.mem_finRange, true_and]

theorem rowTimes_of_owner (row : List Byte) : rowTimes 0 row = [fieldAt row 10 4] ∧ rowTimes 1 row = [] ∧
    (∀ k, rowTimes (settingsRow k) row = if k = 0 then [fieldAt row 0 4] else []) ∧
    (∀ k, rowTimes (egressRow k) row = []) ∧ (∀ i, rowTimes (accountRow i) row = [fieldAt row 48 4]) ∧
    (∀ k, rowTimes (keyRow k) row = [(decodeKeySlot row).created]) ∧
    ∀ p, rowTimes (historyRow p) row = [fieldAt row 16 4, fieldAt row 20 4] := by
  refine ⟨rfl, rfl, fun k => ?_, fun k => ?_, fun i => ?_, fun k => ?_, fun p => ?_⟩
  · have hk : k = 0 ↔ k.val = 0 := Fin.ext_iff
    rw [rowTimes, rowOwner_settingsRow]
    simp only [hk]
  · rw [rowTimes, rowOwner_egressRow]
  · rw [rowTimes, rowOwner_accountRow]
  · rw [rowTimes, rowOwner_keyRow]
    rfl
  · rw [rowTimes, rowOwner_historyRow]

theorem mem_recordTimes_iff (time : Nat) : time ∈ recordTimes m ↔ TimeOfRecord m time := by
  rw [mem_recordTimes]
  constructor
  · rintro ⟨r, hv, ht⟩
    obtain ⟨h0, h1, hsettings, hegress, haccount, hkey, hhistory⟩ := rowTimes_of_owner (m.row r)
    obtain (rfl | rfl) | ⟨k, rfl⟩ | ⟨k, rfl⟩ | ⟨i, rfl⟩ | ⟨k, rfl⟩ | ⟨p, rfl⟩ := row_of_owner r
    · rw [h0] at ht
      exact .inl ⟨hv, List.mem_singleton.1 ht⟩
    · rw [h1] at ht; cases ht
    · rw [hsettings] at ht
      split at ht
      next hk => subst hk; exact .inr (.inl ⟨hv, List.mem_singleton.1 ht⟩)
      next => cases ht
    · rw [hegress] at ht; cases ht
    · rw [haccount] at ht
      exact .inr (.inr (.inl ⟨i, hv, List.mem_singleton.1 ht⟩))
    · rw [hkey] at ht
      exact .inr (.inr (.inr (.inl ⟨k, hv, List.mem_singleton.1 ht⟩)))
    · rw [hhistory] at ht
      exact .inr (.inr (.inr (.inr ⟨p, hv, by simpa using ht⟩)))
  · rintro (⟨hv, rfl⟩ | ⟨hv, rfl⟩ | ⟨i, hv, rfl⟩ | ⟨k, hv, rfl⟩ | ⟨p, hv, ht⟩)
    · exact ⟨0, hv, by rw [(rowTimes_of_owner _).1]; exact List.mem_singleton_self _⟩
    · obtain ⟨-, -, hsettings, -⟩ := rowTimes_of_owner (m.row (settingsRow 0))
      exact ⟨_, hv, by rw [hsettings, if_pos rfl]; exact List.mem_singleton_self _⟩
    · obtain ⟨-, -, -, -, haccount, -⟩ := rowTimes_of_owner (m.row (accountRow i))
      exact ⟨_, hv, by rw [haccount]; exact List.mem_singleton_self _⟩
    · obtain ⟨-, -, -, -, -, hkey, -⟩ := rowTimes_of_owner (m.row (keyRow k))
      exact ⟨_, hv, by rw [hkey]; exact List.mem_singleton_self _⟩
    · obtain ⟨-, -, -, -, -, -, hhistory⟩ := rowTimes_of_owner (m.row (historyRow p))
      exact ⟨_, hv, by rw [hhistory]; simpa using ht⟩

theorem latestRecord_spec : (∀ time, TimeOfRecord m time → time ≤ latestRecord m) ∧
    (TimeOfRecord m (latestRecord m) ∨ latestRecord m = 0) := by
  obtain ⟨-, hall, hmem⟩ := foldl_max_spec (recordTimes m) 0
  rw [← latestRecord_eq] at hall hmem
  refine ⟨fun time ht => hall time ((mem_recordTimes_iff m time).2 ht), ?_⟩
  rcases hmem with h | h
  · exact .inr h
  · exact .inl ((mem_recordTimes_iff m _).1 h)

end

/-! ### The next-write position -/

section
variable (ring : Vector (Option HistoryRow) 16)

/-- Among the positions of `l`, position `p` holds the row of the latest event time, the higher position at a tie. -/
def LatestOf (l : List (Fin 16)) (p : Fin 16) (time : Nat) : Prop :=
  (∃ h, ring[p] = some h ∧ h.eventTime = time) ∧ p ∈ l ∧
    ∀ q ∈ l, ∀ g, ring[q] = some g → g.eventTime < time ∨ (g.eventTime = time ∧ q ≤ p)

/-- What the search for the latest row has found among the positions of `l`. -/
def FoundLatest (l : List (Fin 16)) : Option (Fin 16 × Nat) → Prop
  | none => ∀ q ∈ l, ring[q] = none
  | some (p, time) => LatestOf ring l p time

theorem laterRow_found {l : List (Fin 16)} {p : Fin 16} {best : Option (Fin 16 × Nat)} (hl : ∀ q ∈ l, q < p)
    (hbest : FoundLatest ring l best) : FoundLatest ring (l ++ [p]) (laterRow ring best p) := by
  unfold laterRow
  cases hp : ring[p] with
  | none =>
    cases best with
    | none =>
      intro q hq
      rcases List.mem_append.1 hq with hq | hq
      · exact hbest q hq
      · rw [List.mem_singleton.1 hq]; exact hp
    | some b =>
      obtain ⟨hrow, hmem, hall⟩ := hbest
      refine ⟨hrow, List.mem_append_left _ hmem, fun q hq g hg => ?_⟩
      rcases List.mem_append.1 hq with hq | hq
      · exact hall q hq g hg
      · rw [List.mem_singleton.1 hq, hp] at hg; cases hg
  | some h =>
    have hself : ∀ g, ring[p] = some g → g.eventTime = h.eventTime := fun g hg => by rw [hp] at hg; cases hg; rfl
    have hlast : p ∈ l ++ [p] := List.mem_append_right _ (List.mem_singleton_self p)
    cases best with
    | none =>
      refine ⟨⟨h, hp, rfl⟩, hlast, fun q hq g hg => ?_⟩
      rcases List.mem_append.1 hq with hq | hq
      · rw [hbest q hq] at hg; cases hg
      · cases List.mem_singleton.1 hq
        exact .inr ⟨hself g hg, Fin.le_refl _⟩
    | some b =>
      obtain ⟨b, time⟩ := b
      obtain ⟨hrow, hmem, hall⟩ := hbest
      dsimp only
      split
      next hle =>
        refine ⟨⟨h, hp, rfl⟩, hlast, fun q hq g hg => ?_⟩
        rcases List.mem_append.1 hq with hq | hq
        · rcases hall q hq g hg with hlt | ⟨heq, -⟩
          · exact .inl (Nat.lt_of_lt_of_le hlt hle)
          · rcases Nat.lt_or_eq_of_le hle with hlt | hsame
            · exact .inl (heq ▸ hlt)
            · exact .inr ⟨heq.trans hsame, Fin.le_of_lt (hl q hq)⟩
        · cases List.mem_singleton.1 hq
          exact .inr ⟨hself g hg, Fin.le_refl _⟩
      next hgt =>
        refine ⟨hrow, List.mem_append_left _ hmem, fun q hq g hg => ?_⟩
        rcases List.mem_append.1 hq with hq | hq
        · exact hall q hq g hg
        · cases List.mem_singleton.1 hq
          exact .inl (by rw [hself g hg]; exact Nat.lt_of_not_le hgt)

theorem foldl_laterRow_found (l done : List (Fin 16)) (best : Option (Fin 16 × Nat)) (hbest : FoundLatest ring done best)
    (hl : (done ++ l).Pairwise (· < ·)) : FoundLatest ring (done ++ l) (l.foldl (laterRow ring) best) := by
  induction l generalizing done best with
  | nil => rw [List.append_nil]; exact hbest
  | cons p l ih =>
    have hlow : ∀ q ∈ done, q < p := fun q hq => (List.pairwise_append.1 hl).2.2 q hq p (List.mem_cons_self ..)
    have hsplit : done ++ p :: l = done ++ [p] ++ l := by simp
    rw [List.foldl_cons, hsplit]
    exact ih (done ++ [p]) _ (laterRow_found ring hlow hbest) (hsplit ▸ hl)

theorem loadRingNext_of_empty (h : ∀ p : Fin 16, ring[p] = none) : loadRingNext ring = 0 := by
  have hfound := foldl_laterRow_found ring (List.finRange 16) [] none (fun q hq => absurd hq List.not_mem_nil)
    (by decide)
  rw [loadRingNext]
  cases hb : (List.finRange 16).foldl (laterRow ring) none with
  | none => rfl
  | some b =>
    rw [hb] at hfound
    obtain ⟨⟨g, hg, -⟩, -⟩ := hfound
    rw [h] at hg
    cases hg

theorem loadRingNext_of_latest {p : Fin 16} {h : HistoryRow} (hp : ring[p] = some h)
    (hlatest : ∀ (q : Fin 16) (g : HistoryRow), ring[q] = some g →
      g.eventTime < h.eventTime ∨ (g.eventTime = h.eventTime ∧ q ≤ p)) : loadRingNext ring = p + 1 := by
  have hfound := foldl_laterRow_found ring (List.finRange 16) [] none (fun q hq => absurd hq List.not_mem_nil)
    (by decide)
  rw [loadRingNext]
  cases hb : (List.finRange 16).foldl (laterRow ring) none with
  | none =>
    rw [hb] at hfound
    have hnone : ring[p] = none := hfound p (List.mem_finRange p)
    rw [hp] at hnone
    cases hnone
  | some b =>
    obtain ⟨b, time⟩ := b
    rw [hb] at hfound
    obtain ⟨⟨g, hg, htime⟩, -, hall⟩ := hfound
    have hbelow := hlatest b g hg
    have habove := hall p (List.mem_finRange p) h hp
    have hsame : b = p := by
      rw [← htime] at habove
      omega
    rw [hsame]

end

end Sys2Proof.Machine

/-! PROOFS. The power-on reset (O53): every owner's items after the load. -/

namespace Sys2Proof.Machine

theorem beNat_lt (l : List Byte) : beNat l < 256 ^ l.length := by
  induction l with
  | nil => exact Nat.one_pos
  | cons b l ih =>
    have hb : b.toNat < 256 := b.isLt
    rw [beNat_cons, List.length_cons, Nat.pow_succ]
    nlinarith

theorem fieldAt_lt (l : List Byte) (off len : Nat) : fieldAt l off len < 256 ^ len := by
  refine Nat.lt_of_lt_of_le (beNat_lt _) (Nat.pow_le_pow_right (by decide) ?_)
  rw [List.length_take]
  exact Nat.min_le_left _ _

/-! ### The owners' rows -/

section
variable (m : Memory)

theorem settingsValid_iff : settingsValid m = true ↔ ∀ k : Fin 6, rowCondition (m.row (settingsRow k)) = .valid := by
  simp [settingsValid, validRow]

theorem loadRing_getElem (p : Fin 16) : (loadRing m)[p] =
    if rowCondition (m.row (historyRow p)) = .valid then decodeHistory (m.row (historyRow p)) else none := by
  simp [loadRing, validRow]

theorem loadKeySlot_of_not_valid {k : Fin 64} (h : ¬rowCondition (m.row (keyRow k)) = .valid) :
    loadKeySlot m k = KeySlot.freed 0 := if_neg (mt (validRow_iff _ _).1 h)

theorem loadKeySlot_of_valid {k : Fin 64} (h : rowCondition (m.row (keyRow k)) = .valid) :
    loadKeySlot m k = decodeKeySlot (m.row (keyRow k)) := if_pos ((validRow_iff _ _).2 h)

theorem decodeKeySlot_generation (row : List Byte) : (decodeKeySlot row).generation.toNat = fieldAt row 0 2 := by
  have hlt := fieldAt_lt row 0 2
  show (BitVec.ofNat 16 (fieldAt row 0 2)).toNat = _
  rw [BitVec.toNat_ofNat]
  exact Nat.mod_eq_of_lt hlt

theorem loadEgressEntry_of_valid {c : Fin 256} (h : rowCondition (m.row (egressRow ⟨c.val / 16, by omega⟩)) = .valid) :
    loadEgressEntry m c = decodeEgress c (m.row (egressRow ⟨c.val / 16, by omega⟩)) :=
  if_pos ((validRow_iff _ _).2 h)

theorem loadEgressEntry_of_not_valid {c : Fin 256}
    (h : ¬rowCondition (m.row (egressRow ⟨c.val / 16, by omega⟩)) = .valid) : loadEgressEntry m c = EgressEntry.default :=
  if_neg (mt (validRow_iff _ _).1 h)

/-- The defaults stand where one of the six settings rows is not valid (R151). -/
theorem loadSettings_of_not_saved (h : ¬∀ k : Fin 6, rowCondition (m.row (settingsRow k)) = .valid) :
    loadSettings m = Settings.default ∧ loadToneTables m = Vector.replicate 4 ToneTable.default :=
  ⟨if_neg (mt (settingsValid_iff m).1 h), if_neg (mt (settingsValid_iff m).1 h)⟩

theorem loadSettings_of_saved (h : ∀ k : Fin 6, rowCondition (m.row (settingsRow k)) = .valid) :
    loadSettings m = decodeSettings (m.row (settingsRow 0)) ∧
      loadToneTables m = Vector.ofFn fun c => decodeToneTable (m.row (settingsRow ⟨c.val + 1, by omega⟩)) :=
  ⟨if_pos ((settingsValid_iff m).2 h), if_pos ((settingsValid_iff m).2 h)⟩

end

/-! ### The state after the erases -/

section
variable (s : State) (sp : List (Fin 64))

/-- The erases change the key slots and the store alone. -/
theorem spentErased_frame {u : State} (hu : loaded s = u) : s.spentErased sp =
    { u with kt := erasedKeys s.ms.memory s.ms.warning sp, ms := erasingStore u.ms sp } := by
  rw [State.spentErased, hu]

theorem spentErased_account (i : Fin 256) : (s.spentErased sp).account i = (loaded s).account i := by
  generalize hu : loaded s = u
  simp only [spentErased_frame s sp hu, State.account]

theorem spentErased_channel (c : Fin 4) : (s.spentErased sp).channel c =
    Channel.afterPowerOn (c.val != 0) (loadSettings s.ms.memory).channels[c] := by
  rw [← channel_loaded s c]
  generalize hu : loaded s = u
  simp only [spentErased_frame s sp hu, State.channel]

theorem spentErased_egress (c : Fin 256) : (s.spentErased sp).sp.egress[c] = loadEgressEntry s.ms.memory c := by
  have : (s.spentErased sp).sp.egress = Vector.ofFn fun i => loadEgressEntry s.ms.memory i := rfl
  rw [this]
  simp

theorem spentErased_status : (s.spentErased sp).status =
    ⟨if loadFaults s.ms.memory (loadRecords s.ms.memory) then Flag.storeFault.mask else 0, 0, 0, []⟩ := rfl

theorem spentErased_seconds : (s.spentErased sp).tb.seconds = latestRecord s.ms.memory := by
  simp only [State.spentErased, loaded]

theorem spentErased_ring : (s.spentErased sp).tu.ring = loadRing s.ms.memory ∧
    (s.spentErased sp).tu.ringNext = loadRingNext (loadRing s.ms.memory) := by
  simp only [State.spentErased, loaded, and_self]

/-- The settings after a power-on are those loaded. -/
theorem spentErased_settings (c : Settings) (hc : loadSettings s.ms.memory = c) :
    (s.spentErased sp).acct.prices = c.prices ∧
    (s.spentErased sp).acct.postscale = c.postscale ∧ (s.spentErased sp).dm.tables = loadToneTables s.ms.memory ∧
    (s.spentErased sp).dm.threshold = c.threshold ∧ (s.spentErased sp).tu.policy = c.policy ∧
    (s.spentErased sp).tu.lowMark = c.lowMark ∧ (s.spentErased sp).tu.step = c.step ∧
    (s.spentErased sp).tb.trim = c.trim ∧ (s.spentErased sp).ms.lock = c.lock := by
  subst hc
  simp only [State.spentErased, erasingStore, loaded, and_self]

theorem spentErased_masterSecret : (s.spentErased sp).tu.masterSecret =
    if rowCondition (s.ms.memory.row 1) = .valid then some ((s.ms.memory.row 1).take 60) else none := by
  have h : (s.spentErased sp).tu.masterSecret =
      if validRow s.ms.memory 1 then some ((s.ms.memory.row 1).take 60) else none := by
    simp only [State.spentErased, loaded]
  exact h.trans (if_congr (validRow_iff _ _) rfl rfl)

theorem spentErased_ringDirty (p : Fin 16) : (s.spentErased sp).tu.ringDirty[p] = false := by
  have h : (s.spentErased sp).tu.ringDirty = Vector.replicate 16 false := by simp only [State.spentErased, loaded]
  rw [h]
  exact Vector.getElem_replicate _

theorem spentErased_op : (s.spentErased sp).ms.op = if s.ms.warning = false ∧ sp ≠ []
    then sp.head?.map fun k => ⟨eraseRequest s.ms.memory k, false, keyRow k, 1, 0⟩ else none :=
  erasingStore_op (loaded s).ms sp

theorem spentErased_latches : (s.spentErased sp).ms.latches =
    List.replicate 64 (if s.ms.warning = false ∧ sp ≠ [] then 0xFF else 0x00) := rfl

theorem spentErased_queue : (s.spentErased sp).ms.queue =
    (if s.ms.warning = false ∧ sp ≠ [] then (sp.map fun k => (⟨eraseRequest s.ms.memory k, false⟩ : StoreEntry)).drop 1
      else sp.map fun k => ⟨eraseRequest s.ms.memory k, false⟩).take 16 :=
  erasingStore_queue (loaded s).ms sp

end

/-- Settles O53. -/
theorem powerOnLoads : Obligations.PowerOnLoads := by
  intro s
  refine ⟨_, congrArg Host.Outcome.next (powerOn_eq s), ?_⟩
  intro m valid saved
  have hmem := mem_spentSlots s.ms.memory
  have hsorted : (spentSlots s.ms.memory).Pairwise (· < ·) := (List.pairwise_lt_finRange 64).filter _
  generalize spentSlots s.ms.memory = spent at hmem hsorted
  have haccount (i : Fin 256) := (spentErased_account s spent i).trans (account_loaded s i)
  have hchannel := spentErased_channel s spent
  have hring := loadRing_getElem m
  obtain ⟨hloaded, hnext⟩ := spentErased_ring s spent
  have hkeyOf {k : Fin 64} (hk : k ∈ spent) := (spentErased_key_of_mem s hk).trans
    (KeySlot.erasing_of_spent ((hmem k).1 hk).2 _ _)
  refine ⟨fun h => ?_, rfl, rfl, rfl, ⟨rfl, rfl, rfl⟩, fun c => ?_, rfl, rfl, rfl, rfl, rfl, rfl, rfl, rfl, rfl, rfl,
    fun f => ?_, rfl, rfl, rfl, ?_, ?_, fun i => ?_, ?_, ?_, fun c => ?_, fun hdefault => ?_, fun hsaved => ?_, ?_,
    fun i hi => ?_, fun i hi hfirst => ?_, fun c hc => ?_, fun p hp => ?_, fun k hk hpos => ?_, fun i j hij hi hj => ?_,
    fun i => ?_, fun c hc => ?_, ?_, fun p hp => ?_, fun p => ?_, fun k hk => ?_, fun k hk => ?_⟩
  · have hjobs : (s.spentErased spent).jt = Vector.replicate 16 Job.initial := rfl
    rw [State.job, hjobs]
    exact Vector.getElem_replicate _
  · have hslots : (s.spentErased spent).tu.slots = Vector.replicate 4 Cartridge.initial := rfl
    rw [State.slot, hslots]
    exact Vector.getElem_replicate _
  · rw [spentErased_status]
    exact (has_storeFault (loadFaults m (loadRecords m)) 0 0 [] f).trans (and_congr_right fun _ => loadFaults_iff m)
  · intro ofRecord
    rw [spentErased_seconds]
    exact latestRecord_spec m
  · refine ⟨spent, hsorted, hmem, ?_⟩
    intro erases flying
    refine ⟨spentErased_op s spent, spentErased_latches s spent, spentErased_queue s spent, rfl, rfl, rfl,
      fun k hk => ?_⟩
    rw [hkeyOf hk, erasePlaces_eq (List.ne_nil_of_mem hk)]
  · exact (haccount i).trans (if_congr (duplicateBelow_iff m i) rfl rfl)
  · rw [hloaded, hnext]
    exact loadRingNext_of_empty _
  · rw [hloaded, hnext]
    exact fun p h hp hlatest => loadRingNext_of_latest _ hp hlatest
  · have hrun : (c.val != 0) = (c != 0) := by clear * -; revert c; decide
    rw [hchannel, hrun]
    rfl
  · obtain ⟨hs, ht⟩ := loadSettings_of_not_saved m hdefault
    obtain ⟨hprices, hpostscale, htables, hthreshold, hpolicy, hlow, hstep, htrim, hlock⟩ :=
      spentErased_settings s spent _ hs
    have hch (c : Fin 4) : (s.spentErased spent).channel c =
        Channel.afterPowerOn (c.val != 0) defaultChannelSettings[c] := by
      rw [hchannel c, hs]
      rfl
    rw [hch 0, hch 1, hch 2, hch 3]
    exact ⟨hprices, hpostscale, htables.trans ht, hthreshold, hpolicy, hlow, hstep, htrim, hlock, rfl, rfl, rfl, rfl, rfl,
      rfl, rfl, rfl⟩
  · obtain ⟨hs, ht⟩ := loadSettings_of_saved m hsaved
    obtain ⟨hprices, hpostscale, htables, hthreshold, hpolicy, hlow, hstep, htrim, hlock⟩ :=
      spentErased_settings s spent _ hs
    refine ⟨hprices, hpostscale, hthreshold, hpolicy, hlow, hstep, htrim, hlock, fun c => ?_, fun c => ?_⟩
    · rw [hchannel c, hs]
      rfl
    · rw [htables, ht]
      exact Vector.getElem_ofFn _
  · exact spentErased_masterSecret s spent
  · rw [haccount, loadRecord_of_not_valid m hi]
    split <;> exact ⟨rfl, rfl⟩
  · have hown := loadRecord_of_valid m hi
    rw [haccount, hown]
    refine if_neg fun hdup => ?_
    obtain ⟨-, j, hj, hstate, hid⟩ := (duplicateBelow_iff m i).1 hdup
    rcases hfirst j hj with h | h
    · exact hstate h
    · exact h (hid.trans (congrArg Account.id hown))
  · rw [spentErased_egress, loadEgressEntry_of_valid _ hc]
  · rw [hloaded]
    exact (hring p).trans (if_pos hp)
  · have hnot : k ∉ spent := fun h => Nat.ne_of_gt hpos ((hmem k).1 h).2
    exact (spentErased_key s spent k hnot).trans (loadKeySlot_of_valid m hk)
  · rw [spentErased_account] at hi hj ⊢
    rw [spentErased_account s spent j]
    rcases lt_or_gt_of_ne hij with h | h
    · exact account_loaded_ids s h hi hj
    · exact (account_loaded_ids s h hj hi).symm
  · have hclear := account_loaded_clear s i
    rw [spentErased_account]
    generalize (loaded s).account i = a at hclear ⊢
    obtain ⟨hreserved, hcharged, -⟩ := hclear
    exact ⟨hreserved, hcharged⟩
  · rw [spentErased_egress, loadEgressEntry_of_not_valid _ hc]
    rfl
  · exact (congrArg EgressEntry.mode (spentErased_egress s spent 0)).trans (loadEgressEntry_zero _)
  · rw [hloaded]
    exact (hring p).trans (if_neg hp)
  · exact spentErased_ringDirty s spent p
  · have hnot : k ∉ spent := fun h => hk ((hmem k).1 h).1
    exact (spentErased_key s spent k hnot).trans (loadKeySlot_of_not_valid m hk)
  · have hgeneration := decodeKeySlot_generation (s.ms.memory.row (keyRow k))
    by_cases hspent : k ∈ spent
    · rw [hkeyOf hspent]
      exact ⟨rfl, hgeneration, .inr ⟨rfl, rfl, rfl, rfl⟩⟩
    · have hpos : 0 < (decodeKeySlot (s.ms.memory.row (keyRow k))).releases :=
        Nat.pos_of_ne_zero fun h => hspent ((hmem k).2 ⟨hk, h⟩)
      rw [(spentErased_key s spent k hspent).trans (loadKeySlot_of_valid m hk)]
      exact ⟨rfl, hgeneration, .inl ⟨rfl, rfl, hpos⟩⟩

end Sys2Proof.Machine

/-! PROOFS. What the page stream and the owners of the channels leave of the flags, the time counts, the channels and the
cartridge slots (`Passed`, O50). -/

namespace Sys2Proof.Machine

/-- A slot's record but for what a page or a recheck may change: what the line shows and the state stay, and so does the
exchange of a slot that is not GENUINE or has one. -/
def Cartridge.Stands (x y : Cartridge) : Prop :=
  (y.sample = x.sample ∧ y.debounce = x.debounce ∧ y.level = x.level ∧ y.state = x.state) ∧
    (x.exchange ≠ none ∨ x.state ≠ .genuine → y.exchange = x.exchange)

theorem Cartridge.Stands.refl (x : Cartridge) : x.Stands x := ⟨⟨rfl, rfl, rfl, rfl⟩, fun _ => rfl⟩

theorem Cartridge.Stands.trans {x y z : Cartridge} (h : x.Stands y) (k : y.Stands z) : x.Stands z := by
  obtain ⟨⟨hsample, hdebounce, hlevel, hstate⟩, hexchange⟩ := h
  obtain ⟨⟨ksample, kdebounce, klevel, kstate⟩, kexchange⟩ := k
  refine ⟨⟨ksample.trans hsample, kdebounce.trans hdebounce, klevel.trans hlevel, kstate.trans hstate⟩, fun hx => ?_⟩
  have hy := hexchange hx
  refine (kexchange ?_).trans hy
  rw [hy, hstate]
  exact hx

/-- What an operation of the page stream, or of the owner of a channel, leaves: the flags that are set, the time counts,
the channels but for ch0, and every slot but for its residue and its recheck. -/
structure Passed (s t : State) : Prop where
  flags : ∀ f, s.status.has f = true → t.status.has f = true
  counts : t.tb = { s.tb with channels := t.tb.channels }
  channels : ∀ c, c ≠ 0 → t.channel c = s.channel c
  slots : ∀ c, (s.slot c).Stands (t.slot c)

namespace Passed

variable {s t u : State}

theorem refl (s : State) : Passed s s := ⟨fun _ => id, rfl, fun _ _ => rfl, fun _ => .refl _⟩

/-- The last operation first, as the operations are written. -/
theorem comp (k : Passed t u) (h : Passed s t) : Passed s u where
  flags f := k.flags f ∘ h.flags f
  counts := by
    have hc := h.counts
    have kc := k.counts
    rw [kc, hc]
  channels c hc := (k.channels c hc).trans (h.channels c hc)
  slots c := (h.slots c).trans (k.slots c)

theorem ite {p : Prop} [Decidable p] (h : Passed s t) (k : Passed s u) : Passed s (if p then t else u) := by
  split
  · exact h
  · exact k

theorem foldl {α : Type} {f : State → α → State} (l : List α) (h : ∀ s a, Passed s (f s a)) (s : State) :
    Passed s (l.foldl f s) := by
  induction l generalizing s with
  | nil => exact .refl s
  | cons a l ih => exact .comp (ih (f s a)) (h s a)

theorem of_same (hstatus : t.status = s.status) (htb : t.tb = s.tb) (hslots : t.tu.slots = s.tu.slots) : Passed s t := by
  have hchannel (c : Fin 4) : t.channel c = s.channel c := by simp only [State.channel, htb]
  have hslot (c : Fin 4) : t.slot c = s.slot c := by simp only [State.slot, hslots]
  exact ⟨fun f => by rw [hstatus]; exact id, by rw [htb], fun c _ => hchannel c, fun c => by rw [hslot c]; exact .refl _⟩

/-- What an operation leaves is left by a further change of other parts. -/
theorem same (h : Passed s t) (hstatus : u.status = t.status) (htb : u.tb = t.tb) (hslots : u.tu.slots = t.tu.slots) :
    Passed s u := .comp (.of_same hstatus htb hslots) h

theorem raise (s : State) (f : Flag) (v : List Val) : Passed s (s.raise f v) :=
  ⟨(raise_status_keeps s f v).2, rfl, fun _ _ => rfl, fun _ => .refl _⟩

theorem setSlot (s : State) (c : Fin 4) {x : Cartridge} (hx : (s.slot c).Stands x) : Passed s (s.setSlot c x) := by
  refine ⟨fun _ => id, rfl, fun _ _ => rfl, fun d => ?_⟩
  by_cases hd : d = c
  · rw [hd, State.slot_setSlot_self]; exact hx
  · rw [State.slot_setSlot_of_ne _ _ hd]; exact .refl _

end Passed

theorem StoreStep.passed {s t : State} (h : StoreStep s t) : Passed s t :=
  .of_same (by rw [h.frame]) (by rw [h.frame]) (by rw [h.frame])

section
variable (s : State)

theorem request_passed (q : StoreRequest) : Passed s (request s q).1 := (request_step s q).passed

theorem touchIdle_passed (i : Fin 256) : Passed s (touchIdle s i) := by
  refine .ite ⟨fun _ => id, rfl, fun c hc => ?_, fun _ => .refl _⟩ (.refl s)
  exact State.channel_setChannel_of_ne _ _ hc

/-! ### Key slots -/

section
variable (k : Fin 64)

theorem requestKeyRow_passed (kind : RowRequest) : Passed s (requestKeyRow s k kind) :=
  .same (request_passed s _) rfl rfl rfl

theorem freeErased_passed : Passed s (freeErased s k) := .comp (.raise _ _ _) (.of_same rfl rfl rfl)

theorem enterErasing_passed (cause : EraseCause) : Passed s (enterErasing s k cause) := by
  have hrequest : Passed s (requestKeyRow (s.setKey k { s.key k with
      state := .erasing, cipherKey := 0, checkKey := 0, releases := 0, cause := some cause }) k .erase) :=
    .comp (requestKeyRow_passed _ k .erase) (.of_same rfl rfl rfl)
  exact .ite hrequest (.comp (freeErased_passed _ k) hrequest)

theorem retainScan_passed (e : EgressEntry) : Passed s (retainScan s k e) :=
  .comp (requestKeyRow_passed _ k _) (.of_same rfl rfl rfl)

theorem disposeRelease_passed : Passed s (disposeRelease s k) := by
  have hunnamed : Passed s (s.setKey k { s.key k with naming := none }) := .of_same rfl rfl rfl
  exact .ite (.comp (enterErasing_passed _ k _) hunnamed) (.ite (.comp (enterErasing_passed _ k _) hunnamed) hunnamed)

theorem sweepSlot_passed : Passed s (sweepSlot s k) := by
  have herase : Passed s (if expired s.now (s.key k) && (s.key k).naming.isNone then enterErasing s k .expired else s) :=
    .ite (enterErasing_passed s k _) (.refl s)
  simp only [sweepSlot]
  split
  · exact herase
  · exact .comp (requestKeyRow_passed _ k _) herase

end

theorem keySweep_passed : Passed s (keySweep s) := .foldl _ sweepSlot_passed s

theorem disposeKey_passed (h : Fin 16) : Passed s (disposeKey s h) := by
  simp only [disposeKey]
  split
  · exact .refl s
  · split
    · exact disposeRelease_passed s _
    · exact .ite (.of_same rfl rfl rfl) (retainScan_passed s _ _)

/-! ### Voids and drains -/

theorem voidOpenPage_passed : Passed s (voidOpenPage s) := by
  cases hp : s.pp.openPage with
  | none => rw [voidOpenPage_of_none s hp]; exact .refl s
  | some p =>
    have hvoided : Passed s (s.openPageVoided p) := by
      rw [State.openPageVoided, State.voidMarked]
      split <;> exact .of_same rfl rfl rfl
    rw [voidOpenPage_of_page hp]
    exact .comp (.raise _ _ _) hvoided

theorem drainTest_passed (h : Fin 16) : Passed s (drainTest s h) := by
  refine .ite ?_ (.refl s)
  rw [completeDrain_eq]
  exact .same (.comp (.raise _ .jobDone (jobDoneFields h (s.job h))) (disposeKey_passed s h)) rfl rfl rfl

theorem voidScanPage_passed : Passed s (voidScanPage s) := by
  simp only [voidScanPage]
  cases s.sp.page with
  | none => exact .refl s
  | some p =>
    have hcounted : Passed s ((releaseReservation s (s.job p.tag.job).account p.reservation).countVoided p.tag.job) :=
      .of_same rfl rfl rfl
    exact .comp (drainTest_passed _ _) (.same (.comp (.raise _ .pageVoid _) hcounted) rfl rfl rfl)

theorem voidPagesOf_passed (h : Fin 16) : Passed s (voidPagesOf s h) := by
  have hopen : Passed s (if s.hasOpenPage h then voidOpenPage s else s) := .ite (voidOpenPage_passed s) (.refl s)
  exact .ite (.comp (voidScanPage_passed _) hopen) hopen

theorem dropAnnounced_passed (h : Fin 16) : Passed s (dropAnnounced s h) := .ite (.of_same rfl rfl rfl) (.refl s)

theorem holdJob_passed (h : Fin 16) (r : Reason) : Passed s (holdJob s h r) := by
  have hheld : Passed s (((dropAnnounced (voidPagesOf s h) h).modJob h fun j =>
      { j with state := .held, reason := some r }).raise .jobHeld [.u8 h, .u8 r.code]) :=
    .comp (.raise _ _ _) (.same (.comp (dropAnnounced_passed _ h) (voidPagesOf_passed s h)) rfl rfl rfl)
  simp only [holdJob]
  cases (s.job h).state with
  | active => exact hheld
  | held => exact hheld
  | free => exact .refl s
  | draining => exact .refl s

/-! ### The page stream -/

theorem convertPlanes_passed (acc : Vector Accum 4) (l : List (Fin 4)) : Passed s (convertPlanes acc s l).1 := by
  induction l generalizing s with
  | nil => exact .refl s
  | cons c l ih => exact .comp (ih _) (.setSlot s c ⟨⟨rfl, rfl, rfl, rfl⟩, fun _ => rfl⟩)

theorem pageSettled_passed (p : OpenPage) (e : Entry) : Passed s (pageSettled s p e) :=
  .same (convertPlanes_passed s _ _) rfl rfl rfl

theorem meterPage_passed (p : OpenPage) : Passed s (meterPage s p) := by
  cases he : openEntry? s p.tag with
  | none => rw [meterPage_of_no_entry s he]; exact .same (convertPlanes_passed s _ _) rfl rfl rfl
  | some e => rw [meterPage_of_entry s he]; exact .same (pageSettled_passed s p e) rfl rfl rfl

theorem completePage_passed (p : OpenPage) : Passed s (completePage s p) := by
  have hmarked : Passed s (s.emitEngine (markPageEnd p.tag)) := .of_same rfl rfl rfl
  exact .same (.comp (meterPage_passed _ p) hmarked) rfl rfl rfl

theorem judgePage_passed (p : OpenPage) : Passed s (judgePage s p) := by
  simp only [judgePage]
  cases p.mode with
  | mono => exact .ite (completePage_passed s p) (.refl s)
  | color => exact .ite (.ite (completePage_passed s p) (voidOpenPage_passed s)) (.refl s)

theorem forwardBand_passed (p : OpenPage) (b : Band) : Passed s (forwardBand s p b) := by
  simp only [forwardBand]
  exact .ite (.comp (judgePage_passed _ _) (.of_same rfl rfl rfl)) (.of_same rfl rfl rfl)

theorem bandOfPage_passed (p : OpenPage) (b : Band) : Passed s (bandOfPage s p b) :=
  .ite (.of_same rfl rfl rfl) (.ite (forwardBand_passed s p b) (voidOpenPage_passed s))

theorem refuseBand_passed (h : Fin 16) (n : Nat) : Passed s (refuseBand s h n) := by
  simp only [refuseBand, raiseRefused]
  exact .ite (.of_same rfl rfl rfl) (.comp (.raise _ _ _) (.of_same rfl rfl rfl))

theorem refuseAdmission_passed (h : Fin 16) (r : Reason) : Passed s (refuseAdmission s h r) :=
  .same (holdJob_passed s h r) rfl rfl rfl

theorem admissionOf_passed {i : Fin 256} {n price : Nat} {allowed : Bool} {t : State}
    (h : admissionOf s i n allowed = .admitted t price) : Passed s t := by
  simp only [admissionOf] at h
  split_ifs at h
  cases h
  exact .comp (touchIdle_passed _ i) (.of_same rfl rfl rfl)

theorem admitPage_passed (b : Band) : Passed s (admitPage s b) := by
  simp only [admitPage]
  split
  · exact refuseAdmission_passed s _ _
  · split
    · exact refuseAdmission_passed s _ _
    next t price ha =>
      have hopened : Passed t (t.pageOpened b (t.job b.job).provisionalClass price) := .of_same rfl rfl rfl
      rw [openPageFor_eq]
      exact .comp (bandOfPage_passed _ _ b) (.comp hopened (admissionOf_passed s ha))

theorem openingBand_passed (b : Band) : Passed s (openingBand s b) :=
  .ite (refuseBand_passed s _ _) (.ite (.of_same rfl rfl rfl) (.ite (.of_same rfl rfl rfl) (admitPage_passed s b)))

theorem examine_passed (b : Band) : Passed s (examine s b) := by
  have hcount : Passed s (s.countRefused b.job) := .of_same rfl rfl rfl
  simp only [examine]
  refine .ite (refuseBand_passed s _ _) (.ite hcount ?_)
  cases s.pp.openPage with
  | none => exact .ite hcount (openingBand_passed s b)
  | some p =>
    exact .ite (.ite hcount (.ite (bandOfPage_passed s p b) (.comp (openingBand_passed _ b) (voidOpenPage_passed s))))
      (.ite hcount (.of_same rfl rfl rfl))

theorem settleBand_passed : Passed s (settleBand s) := by
  simp only [settleBand]
  cases s.li.bandPosition with
  | none => exact .refl s
  | some w => exact .ite (.comp (examine_passed _ _) (.of_same rfl rfl rfl)) (.refl s)

theorem stallExpiry_passed : Passed s (stallExpiry s) := by
  simp only [stallExpiry]
  cases s.pp.openPage with
  | none => exact .refl s
  | some p =>
    exact .ite (.comp (settleBand_passed _) (.comp (voidOpenPage_passed _) (.of_same rfl rfl rfl))) (.refl s)

theorem tickStall_passed : Passed s (tickStall s) := by
  simp only [tickStall]
  cases s.pp.openPage with
  | none => exact .refl s
  | some p => exact .ite (.ite (stallExpiry_passed s) (.of_same rfl rfl rfl)) (.refl s)

/-! ### The owners of the channels -/

theorem meterFlush_passed : Passed s (meterFlush s) := by
  have hflush : Passed s ((dirtyAccounts s).foldl
      (fun s i => commitAccount (s.modAccount i fun a => { a with sinceFlush := 0 }) i) s) :=
    .foldl _ (fun t i => .comp (request_passed (t.setAccount i { t.account i with sinceFlush := 0 }) _)
      (.of_same rfl rfl rfl)) s
  exact .ite (.comp (request_passed _ _) hflush) hflush

theorem sessionExpiry_passed : Passed s (sessionExpiry s) := by
  simp only [sessionExpiry]
  cases s.acct.session with
  | none => exact .refl s
  | some x => exact .comp (.raise _ _ _) (.of_same rfl rfl rfl)

/-- A recheck of a GENUINE slot: the challenge goes out on a free line, and waits behind another exchange. -/
theorem requestRecheck_passed (c : Fin 4) (h : (s.slot c).state = .genuine) : Passed s (requestRecheck s c) := by
  by_cases hfree : (s.slot c).exchange = none ∧ (s.slot c).writePending = false
  · rw [requestRecheck_of_free hfree.1 hfree.2]
    have hslot : (s.slot c).Stands { s.slot c with
        exchange := some ⟨.challenge (Config.randomNonce s.draws), .recheck, 0⟩ } :=
      ⟨⟨rfl, rfl, rfl, rfl⟩, fun hx => hx.elim (absurd hfree.1) (absurd h)⟩
    exact .same (.setSlot s c hslot) rfl rfl rfl
  · by_cases hbusy : ∃ e ∈ (s.slot c).exchange, e.sequence = .recheck
    · rw [requestRecheck_of_recheck hfree hbusy]; exact .refl s
    · rw [requestRecheck_of_busy hfree hbusy]
      exact .setSlot s c ⟨⟨rfl, rfl, rfl, rfl⟩, fun _ => rfl⟩

theorem recheckExpiry_passed : Passed s (recheckExpiry s) := by
  refine .comp (.foldl _ (fun t _ => request_passed t _) _) (.foldl _ (fun t c => ?_) s)
  by_cases h : (t.slot c).state = .genuine
  · rw [if_pos h]; exact requestRecheck_passed t c h
  · rw [if_neg h]; exact .refl t

end

end Sys2Proof.Machine

/-! PROOFS. The cartridge lines at a tick (O50): the exchanges count, and at a tick of the 32/s tap the lines are sampled and
the checks of SENSED slots begin. -/

namespace Sys2Proof.Machine

/-! ### What the lines may change at a tick -/

/-- What the Cartridge Unit may change at a tick; the flags that are set stay. -/
structure LinesMoved (s t : State) : Prop where
  frame : t = { s with
    tu := { s.tu with slots := t.tu.slots, ring := t.tu.ring, ringDirty := t.tu.ringDirty, ringNext := t.tu.ringNext }
    acct := { s.acct with records := t.acct.records }
    ms := t.ms, status := t.status, draws := t.draws, tagOut := t.tagOut }
  flags : ∀ f, s.status.has f = true → t.status.has f = true

/-- What it changes where no presence line has an edge. -/
def LinesHeld (s t : State) : Prop :=
  t = { s with tu := { s.tu with slots := t.tu.slots }, status := t.status, tagOut := t.tagOut }

namespace LinesMoved

variable {s t u : State}

theorem refl (s : State) : LinesMoved s s := ⟨rfl, fun _ => id⟩

theorem trans (h : LinesMoved s t) (k : LinesMoved t u) : LinesMoved s u where
  frame := by
    have hf := h.frame
    have kf := k.frame
    rw [kf, hf]
  flags f := k.flags f ∘ h.flags f

theorem foldl {α : Type} {f : State → α → State} (l : List α) (h : ∀ s a, LinesMoved s (f s a)) (s : State) :
    LinesMoved s (l.foldl f s) := by
  induction l generalizing s with
  | nil => exact .refl s
  | cons a l ih => exact (h s a).trans (ih (f s a))

end LinesMoved

theorem LinesHeld.refl (s : State) : LinesHeld s s := rfl

theorem LinesHeld.trans {s t u : State} (h : LinesHeld s t) (k : LinesHeld t u) : LinesHeld s u := by
  simp only [LinesHeld] at h k ⊢
  rw [k, h]

/-! ### Slots one after another -/

section
variable {f : State → Fin 4 → State} (hothers : ∀ u c d, d ≠ c → (f u c).slot d = u.slot d)
include hothers

theorem foldl_slot_of_not_mem {l : List (Fin 4)} (s : State) {d : Fin 4} (hd : d ∉ l) :
    (l.foldl f s).slot d = s.slot d := by
  induction l generalizing s with
  | nil => rfl
  | cons c l ih =>
    rw [List.foldl_cons, ih _ fun h => hd (List.mem_cons_of_mem _ h)]
    exact hothers s c d fun h => hd (h ▸ List.mem_cons_self ..)

/-- A slot changes at its own turn alone, from the record it had, and what is flagged there stays flagged. -/
theorem foldl_slot_of_mem (hmoved : ∀ u c, LinesMoved u (f u c)) {l : List (Fin 4)} (hl : l.Nodup) (s : State) {d : Fin 4}
    (hd : d ∈ l) : ∃ u, u.slot d = s.slot d ∧ (l.foldl f s).slot d = (f u d).slot d ∧
      ∀ g, (f u d).status.has g = true → (l.foldl f s).status.has g = true := by
  induction l generalizing s with
  | nil => cases hd
  | cons c l ih =>
    obtain ⟨hc, hl⟩ := List.nodup_cons.1 hl
    rw [List.foldl_cons]
    by_cases h : d = c
    · subst h
      exact ⟨s, rfl, foldl_slot_of_not_mem hothers _ hc, fun g => (LinesMoved.foldl l hmoved (f s d)).flags g⟩
    · obtain ⟨u, hu, hslot, hflags⟩ := ih hl (f s c) ((List.mem_cons.1 hd).resolve_left h)
      exact ⟨u, hu.trans (hothers s c d h), hslot, hflags⟩

/-- What holds the rest at every slot of the list holds it over the list. -/
theorem foldl_held {P : Fin 4 → Cartridge → Prop} (hheld : ∀ u c, P c (u.slot c) → LinesHeld u (f u c))
    {l : List (Fin 4)} (hl : l.Nodup) (s : State) (hP : ∀ c ∈ l, P c (s.slot c)) : LinesHeld s (l.foldl f s) := by
  induction l generalizing s with
  | nil => exact .refl s
  | cons c l ih =>
    obtain ⟨hc, hl⟩ := List.nodup_cons.1 hl
    rw [List.foldl_cons]
    refine (hheld s c (hP c (List.mem_cons_self ..))).trans (ih hl _ fun d hd => ?_)
    rw [hothers s c d fun h => hc (h ▸ hd)]
    exact hP d (List.mem_cons_of_mem _ hd)

end

/-! ### One slot -/

section
variable (s : State) (c : Fin 4)

/-- A step that writes the slot, the status block with its flags kept, and the requests sent. -/
def LineStep (y : Cartridge) (t : State) : Prop := ∃ st o, s.status.Keeps st ∧ t = s.lined c y st s.draws o

theorem LineStep.moved {y : Cartridge} {t : State} (h : LineStep s c y t) : LinesMoved s t := by
  obtain ⟨st, o, hst, rfl⟩ := h
  exact ⟨rfl, hst.2⟩

theorem LineStep.held {y : Cartridge} {t : State} (h : LineStep s c y t) : LinesHeld s t := by
  obtain ⟨st, o, -, rfl⟩ := h
  rfl

theorem LineStep.slot {y : Cartridge} {t : State} (h : LineStep s c y t) : t.slot c = y := by
  obtain ⟨st, o, -, rfl⟩ := h
  exact slot_lined ..

theorem LineStep.self : LineStep s c (s.slot c) s :=
  ⟨s.status, s.tagOut, ⟨rfl, fun _ => id⟩, (lined_self s c).symm⟩

theorem LineStep.setSlot (y : Cartridge) : LineStep s c y (s.setSlot c y) :=
  ⟨s.status, s.tagOut, ⟨rfl, fun _ => id⟩, setSlot_eq_lined s c y⟩

theorem Status.keeps_raised (f : Flag) (time : Nat) (v : List Val) : s.status.Keeps (s.status.raised f time v) ∧
    (s.status.raised f time v).has f = true := by
  have h := raise_status_keeps { s with tb := { s.tb with seconds := time } } f v
  refine ⟨h, ?_⟩
  have hset := has_raise { s with tb := { s.tb with seconds := time } } f v f
  rw [beq_self_eq_true, Bool.or_true, Bool.true_or] at hset
  exact hset

/-- A slot after one tick of its exchange: the 41st ends it, the slot MUTE (R103). -/
def Cartridge.exchangeTicked (x : Cartridge) : Cartridge :=
  match x.exchange with
  | some e =>
    if e.elapsed + 1 < 41 then { x with exchange := some { e with elapsed := e.elapsed + 1 } }
    else { x with state := .mute, exchange := none, writePending := false, recheckPending := false }
  | none => x

theorem exchangeTicked_of_none {x : Cartridge} (h : x.exchange = none) : x.exchangeTicked = x := by
  rw [Cartridge.exchangeTicked, h]

theorem exchangeTicked_of_low {x : Cartridge} {e : Exchange} (h : x.exchange = some e) (hn : e.elapsed + 1 < 41) :
    x.exchangeTicked = { x with exchange := some { e with elapsed := e.elapsed + 1 } } := by
  rw [Cartridge.exchangeTicked, h]
  exact if_pos hn

theorem exchangeTicked_of_limit {x : Cartridge} {e : Exchange} (h : x.exchange = some e) (hn : ¬e.elapsed + 1 < 41) :
    x.exchangeTicked =
      { x with state := .mute, exchange := none, writePending := false, recheckPending := false } := by
  rw [Cartridge.exchangeTicked, h]
  exact if_neg hn

/-- An exchange that reaches its limit sets CARTRIDGE STATE. -/
theorem tickExchange_line : LineStep s c (s.slot c).exchangeTicked (tickExchange s c) ∧
    ∀ e, (s.slot c).exchange = some e → 41 ≤ e.elapsed + 1 → (tickExchange s c).status.has .cartridgeState = true := by
  cases he : (s.slot c).exchange with
  | none =>
    have hidle : tickExchange s c = s := by rw [tickExchange, he]
    rw [hidle, exchangeTicked_of_none he]
    exact ⟨.self s c, nofun⟩
  | some e =>
    have htick : tickExchange s c = if 41 ≤ e.elapsed + 1
        then exchangeLimit (s.lined c { s.slot c with exchange := some { e with elapsed := e.elapsed + 1 } }
          s.status s.draws s.tagOut) c
        else s.setSlot c { s.slot c with exchange := some { e with elapsed := e.elapsed + 1 } } := by
      rw [tickExchange, he]
      rfl
    by_cases hlow : e.elapsed + 1 < 41
    · rw [htick, if_neg (Nat.not_le.2 hlow), exchangeTicked_of_low he hlow]
      exact ⟨.setSlot s c _, fun d hd hn => by cases hd; omega⟩
    · rw [htick, if_pos (Nat.not_lt.1 hlow), exchangeTicked_of_limit he hlow, exchangeLimit_lined, if_neg nofun]
      obtain ⟨hkeeps, hset⟩ := Status.keeps_raised s .cartridgeState s.tb.seconds
        [.u8 c.val, .u8 6, .opt 1 none, .opt 8 ((s.slot c).serial.map BitVec.toNat)]
      exact ⟨⟨_, s.tagOut, hkeeps, rfl⟩, fun _ _ _ => hset⟩

/-- A slot after the start of the full check, where it starts (R106). -/
def Cartridge.checkBegun (x : Cartridge) : Cartridge :=
  if x.state = .sensed ∧ x.exchange = none then { x with state := .checking, exchange := some ⟨.identify, .check, 0⟩ }
  else x

theorem beginCheck_line : LineStep s c (s.slot c).checkBegun (beginCheck s c) := by
  rw [beginCheck_eq, Cartridge.checkBegun]
  by_cases h : (s.slot c).state = .sensed ∧ (s.slot c).exchange = none
  · rw [if_pos h, if_pos h]
    exact ⟨s.status, _, ⟨rfl, fun _ => id⟩, rfl⟩
  · rw [if_neg h, if_neg h]
    exact .self s c

/-- A slot after one sample of its line that is no edge (R99). -/
def Cartridge.sampled (x : Cartridge) (line : Bool) : Cartridge :=
  { x with sample := line, debounce := if line = x.level then 0 else x.debounce + 1 }

/-- The eighth sample in a row that differs from the level is an edge (R99). -/
def Cartridge.edge (x : Cartridge) (line : Bool) : Prop := line ≠ x.level ∧ 7 ≤ x.debounce

theorem samplePresence_line (line : Bool) (h : ¬(s.slot c).edge line) :
    LineStep s c ((s.slot c).sampled line) (samplePresence s c line) := by
  by_cases hline : line = (s.slot c).level
  · have heq : samplePresence s c line = s.setSlot c { s.slot c with sample := line, debounce := 0 } := if_pos hline
    rw [heq, Cartridge.sampled, if_pos hline]
    exact .setSlot s c _
  · have hlow : (s.slot c).debounce + 1 < 8 := by
      by_contra hn
      exact h ⟨hline, by omega⟩
    have heq : samplePresence s c line =
        s.setSlot c { s.slot c with sample := line, debounce := (s.slot c).debounce + 1 } :=
      (if_neg hline).trans (if_pos hlow)
    rw [heq, Cartridge.sampled, if_neg hline]
    exact .setSlot s c _

/-- An edge: a rise or a fall of the level. -/
theorem samplePresence_of_edge {line : Bool} (h : (s.slot c).edge line) : samplePresence s c line =
    if line then debouncedRise (s.lined c { s.slot c with sample := line } s.status s.draws s.tagOut) c
    else debouncedFall (s.lined c { s.slot c with sample := line } s.status s.draws s.tagOut) c := by
  obtain ⟨hline, hn⟩ := h
  have hlimit : ¬(s.slot c).debounce + 1 < 8 := by omega
  exact (if_neg hline).trans (if_neg hlimit)

/-- What one sample shows at its slot, edge or not; the flags that are set stay. -/
theorem samplePresence_shows (line : Bool) : LinesMoved s (samplePresence s c line) ∧
    ((samplePresence s c line).slot c).sample = line ∧
    ((samplePresence s c line).slot c).debounce =
      (if line = (s.slot c).level ∨ 7 ≤ (s.slot c).debounce then 0 else (s.slot c).debounce + 1) ∧
    ((samplePresence s c line).slot c).level = if 7 ≤ (s.slot c).debounce then line else (s.slot c).level := by
  by_cases hedge : (s.slot c).edge line
  · have hframe := (samplePresence_step s c line).frame
    obtain ⟨hline, hn⟩ := hedge
    rw [if_pos (.inr hn), if_pos hn]
    rw [samplePresence_of_edge s c ⟨hline, hn⟩] at hframe ⊢
    cases line with
    | true =>
      rw [if_pos rfl, debouncedRise_lined] at hframe ⊢
      refine ⟨⟨hframe, (Status.keeps_raised s _ _ _).1.2⟩, ?_⟩
      rw [slot_lined]
      exact ⟨rfl, rfl, rfl⟩
    | false =>
      rw [if_neg nofun, debouncedFall_lined] at hframe ⊢
      refine ⟨⟨hframe, (Status.keeps_raised s _ _ _).1.2⟩, ?_⟩
      rw [slot_lined]
      exact ⟨rfl, rfl, rfl⟩
  · have hstep := samplePresence_line s c line hedge
    refine ⟨hstep.moved, ?_⟩
    rw [hstep.slot]
    refine ⟨rfl, ?_, ?_⟩
    · by_cases hline : line = (s.slot c).level
      · rw [if_pos (.inl hline)]; exact if_pos hline
      · have hlow : ¬7 ≤ (s.slot c).debounce := fun hn => hedge ⟨hline, hn⟩
        rw [if_neg (not_or.2 ⟨hline, hlow⟩)]
        exact if_neg hline
    · by_cases hn : 7 ≤ (s.slot c).debounce
      · rw [if_pos hn]
        by_contra hline
        exact hedge ⟨fun h => hline h.symm, hn⟩
      · rw [if_neg hn]
        rfl

end

end Sys2Proof.Machine

/-! PROOFS. The whole work of a tick at the cartridge lines (O50). -/

namespace Sys2Proof.Machine

theorem slots_nodup : slots.Nodup := List.nodup_finRange 4

theorem mem_slots (c : Fin 4) : c ∈ slots := List.mem_finRange c

/-- What the line of a slot shows, the same in two records. -/
def Cartridge.SameLine (x y : Cartridge) : Prop := y.sample = x.sample ∧ y.debounce = x.debounce ∧ y.level = x.level

theorem exchangeTicked_sameLine (x : Cartridge) : x.SameLine x.exchangeTicked := by
  simp only [Cartridge.exchangeTicked]
  split
  · split <;> exact ⟨rfl, rfl, rfl⟩
  · exact ⟨rfl, rfl, rfl⟩

theorem checkBegun_sameLine (x : Cartridge) : x.SameLine x.checkBegun := by
  simp only [Cartridge.checkBegun]
  split <;> exact ⟨rfl, rfl, rfl⟩

theorem Cartridge.SameLine.trans {x y z : Cartridge} (h : x.SameLine y) (k : y.SameLine z) : x.SameLine z := by
  obtain ⟨hsample, hdebounce, hlevel⟩ := h
  obtain ⟨ksample, kdebounce, klevel⟩ := k
  exact ⟨ksample.trans hsample, kdebounce.trans hdebounce, klevel.trans hlevel⟩

theorem Cartridge.SameLine.edge_iff {x y : Cartridge} (h : x.SameLine y) (line : Bool) : y.edge line ↔ x.edge line := by
  obtain ⟨-, hdebounce, hlevel⟩ := h
  rw [Cartridge.edge, Cartridge.edge, hdebounce, hlevel]

/-- A slot after a tick at which its line has no edge: its exchange counts, and with the 32/s tap a check begins and the
line is sampled. -/
def Cartridge.lineTicked (x : Cartridge) (tap32 line : Bool) : Cartridge :=
  if tap32 then x.exchangeTicked.checkBegun.sampled line else x.exchangeTicked

/-- One sample of a line among the four. -/
def sampleOf (presence : Vector Bool 4) (s : State) (c : Fin 4) : State := samplePresence s c presence[c]

/-- The work of a tick at the cartridge lines, as `tick` does it. -/
def lineWork (presence : Vector Bool 4) (tap32 : Bool) (s : State) : State :=
  if tap32 then slots.foldl (sampleOf presence) (slots.foldl beginCheck (slots.foldl tickExchange s))
  else slots.foldl tickExchange s

theorem sampleOf_others (presence : Vector Bool 4) (u : State) (c d : Fin 4) (h : d ≠ c) :
    (sampleOf presence u c).slot d = u.slot d := (samplePresence_step u c presence[c]).others d h

theorem sampleOf_moved (presence : Vector Bool 4) (u : State) (c : Fin 4) : LinesMoved u (sampleOf presence u c) :=
  (samplePresence_shows u c presence[c]).1

section
variable (s : State) (presence : Vector Bool 4) (c : Fin 4)

theorem tickExchanges_slot : (slots.foldl tickExchange s).slot c = (s.slot c).exchangeTicked := by
  obtain ⟨u, hu, hslot, -⟩ := foldl_slot_of_mem (fun u c d => (tickExchange_step u c).others d)
    (fun u c => (tickExchange_line u c).1.moved) slots_nodup s (mem_slots c)
  rw [hslot, (tickExchange_line u c).1.slot, hu]

theorem beginChecks_slot : (slots.foldl beginCheck s).slot c = (s.slot c).checkBegun := by
  obtain ⟨u, hu, hslot, -⟩ := foldl_slot_of_mem (fun u c d => (beginCheck_step u c).others d)
    (fun u c => (beginCheck_line u c).moved) slots_nodup s (mem_slots c)
  rw [hslot, (beginCheck_line u c).slot, hu]

theorem samples_slot (h : ¬(s.slot c).edge presence[c]) :
    (slots.foldl (sampleOf presence) s).slot c = (s.slot c).sampled presence[c] := by
  obtain ⟨u, hu, hslot, -⟩ := foldl_slot_of_mem (sampleOf_others presence) (sampleOf_moved presence) slots_nodup s (mem_slots c)
  rw [hslot, ← hu]
  rw [← hu] at h
  exact (samplePresence_line u c _ h).slot

theorem tickExchanges_moved : LinesMoved s (slots.foldl tickExchange s) :=
  .foldl _ (fun u c => (tickExchange_line u c).1.moved) s

/-- The slots as they are sampled, before the sampling itself. -/
theorem checked_sameLine :
    (s.slot c).SameLine ((slots.foldl beginCheck (slots.foldl tickExchange s)).slot c) := by
  rw [beginChecks_slot, tickExchanges_slot]
  exact (exchangeTicked_sameLine _).trans (checkBegun_sameLine _)

theorem lineWork_moved (tap32 : Bool) : LinesMoved s (lineWork presence tap32 s) := by
  cases tap32 with
  | false => exact tickExchanges_moved s
  | true =>
    exact ((tickExchanges_moved s).trans (.foldl _ (fun u c => (beginCheck_line u c).moved) _)).trans
      (.foldl _ (sampleOf_moved presence) _)

theorem lineWork_slot {tap32 : Bool} (h : ¬(tap32 = true ∧ (s.slot c).edge presence[c])) :
    (lineWork presence tap32 s).slot c = (s.slot c).lineTicked tap32 presence[c] := by
  cases tap32 with
  | false => exact tickExchanges_slot s c
  | true =>
    have hedge := mt ((checked_sameLine s c).edge_iff presence[c]).1 fun he => h ⟨rfl, he⟩
    have hslot := samples_slot _ presence c hedge
    rw [beginChecks_slot, tickExchanges_slot] at hslot
    exact hslot

theorem lineWork_held {tap32 : Bool} (h : ∀ c, ¬(tap32 = true ∧ (s.slot c).edge presence[c])) :
    LinesHeld s (lineWork presence tap32 s) := by
  have hexchanges : LinesHeld s (slots.foldl tickExchange s) :=
    foldl_held (P := fun _ _ => True) (fun u c d => (tickExchange_step u c).others d)
      (fun u c _ => (tickExchange_line u c).1.held) slots_nodup s fun _ _ => trivial
  cases tap32 with
  | false => exact hexchanges
  | true =>
    have hchecks : LinesHeld (slots.foldl tickExchange s) (slots.foldl beginCheck (slots.foldl tickExchange s)) :=
      foldl_held (P := fun _ _ => True) (fun u c d => (beginCheck_step u c).others d)
        (fun u c _ => (beginCheck_line u c).held) slots_nodup _ fun _ _ => trivial
    refine (hexchanges.trans hchecks).trans (foldl_held (P := fun c x => ¬x.edge presence[c])
      (sampleOf_others presence)
      (fun u c hx => (samplePresence_line u c _ hx).held) slots_nodup _ fun c _ => ?_)
    exact mt ((checked_sameLine s c).edge_iff presence[c]).1 fun he => h c ⟨rfl, he⟩

/-- Without a tick of the 32/s tap no line is sampled. -/
theorem lineWork_idle : (s.slot c).SameLine ((lineWork presence false s).slot c) := by
  rw [lineWork_slot s presence c (tap32 := false) (by simp)]
  exact exchangeTicked_sameLine _

/-- A tick of the 32/s tap samples every line and debounces it (R99). -/
theorem lineWork_samples : ((lineWork presence true s).slot c).sample = presence[c] ∧
    ((lineWork presence true s).slot c).debounce =
      (if presence[c] = (s.slot c).level ∨ 7 ≤ (s.slot c).debounce then 0 else (s.slot c).debounce + 1) ∧
    ((lineWork presence true s).slot c).level = if 7 ≤ (s.slot c).debounce then presence[c] else (s.slot c).level := by
  have hline := checked_sameLine s c
  obtain ⟨u, hu, hslot, -⟩ := foldl_slot_of_mem (sampleOf_others presence) (sampleOf_moved presence) slots_nodup
    (slots.foldl beginCheck (slots.foldl tickExchange s)) (mem_slots c)
  have hwork : (lineWork presence true s).slot c = (sampleOf presence u c).slot c := hslot
  rw [← hu] at hline
  obtain ⟨-, hdebounce, hlevel⟩ := hline
  rw [hwork, ← hdebounce, ← hlevel]
  exact (samplePresence_shows u c presence[c]).2

/-- The 41st tick of an exchange sets CARTRIDGE STATE (R103). -/
theorem lineWork_limit {tap32 : Bool} {e : Exchange} (he : (s.slot c).exchange = some e) (hn : 41 ≤ e.elapsed + 1) :
    (lineWork presence tap32 s).status.has .cartridgeState = true := by
  obtain ⟨u, hu, -, hflags⟩ := foldl_slot_of_mem (fun u c d => (tickExchange_step u c).others d)
    (fun u c => (tickExchange_line u c).1.moved) slots_nodup s (mem_slots c)
  have hset : (slots.foldl tickExchange s).status.has .cartridgeState = true :=
    hflags _ ((tickExchange_line u c).2 e (by rw [hu]; exact he) hn)
  cases tap32 with
  | false => exact hset
  | true =>
    have hlater : LinesMoved (slots.foldl tickExchange s) (lineWork presence true s) :=
      LinesMoved.trans (.foldl _ (fun u c => (beginCheck_line u c).moved) _)
        (.foldl _ (sampleOf_moved presence) _)
    exact hlater.flags _ hset

end

end Sys2Proof.Machine

/-! PROOFS. The stall count at a tick (O50): a job whose page the limit voids is left alone by the examination of a band of
another job (`Elsewhere`). -/

namespace Sys2Proof.Machine

/-! ### The work for another job -/

/-- Where the open page is no page of the job, the job stays as it is, and the open page is none of its pages. -/
def Elsewhere (h : Fin 16) (s t : State) : Prop :=
  (∀ q ∈ s.pp.openPage, q.tag.job ≠ h) → t.job h = s.job h ∧ ∀ q ∈ t.pp.openPage, q.tag.job ≠ h

namespace Elsewhere

variable {h : Fin 16} {s t u : State}

theorem of_same (hjob : t.job h = s.job h) (hpage : t.pp.openPage = s.pp.openPage) : Elsewhere h s t :=
  fun hs => ⟨hjob, hpage ▸ hs⟩

/-- The last operation first, as the operations are written. -/
theorem comp (k : Elsewhere h t u) (hst : Elsewhere h s t) : Elsewhere h s u := fun hs => by
  obtain ⟨hjob, hpage⟩ := hst hs
  obtain ⟨kjob, kpage⟩ := k hpage
  exact ⟨kjob.trans hjob, kpage⟩

theorem ite {p : Prop} [Decidable p] (hst : Elsewhere h s t) (k : Elsewhere h s u) :
    Elsewhere h s (if p then t else u) := by
  split
  · exact hst
  · exact k

theorem refl (h : Fin 16) (s : State) : Elsewhere h s s := .of_same rfl rfl

theorem setJob (s : State) {g : Fin 16} (ne : h ≠ g) (j : Job) : Elsewhere h s (s.setJob g j) :=
  .of_same (State.job_setJob_of_ne s j ne) rfl

end Elsewhere

section
variable (s : State) {g h : Fin 16} (ne : h ≠ g)

/-- A void that the open page of another job takes. -/
theorem voidOpenPage_elsewhere : Elsewhere h s (voidOpenPage s) := fun hs => by
  cases hp : s.pp.openPage with
  | none => rw [voidOpenPage_of_none s hp, hp]; exact ⟨rfl, nofun⟩
  | some p =>
    have hjt : (voidOpenPage s).job h = (s.countVoided p.tag.job).job h := by rw [voidOpenPage_of_page hp]; rfl
    have hpage : (voidOpenPage s).pp.openPage = none := by rw [voidOpenPage_of_page hp]; rfl
    rw [hjt, hpage]
    exact ⟨State.job_setJob_of_ne _ _ fun hj => hs p hp hj.symm, nofun⟩

include ne

theorem drainTest_elsewhere : Elsewhere h s (drainTest s g) :=
  .of_same (drainTest_job_of_ne s ne) (by rw [(drainTest_pages s g).1])

theorem voidScanPage_elsewhere (hg : s.hasScanPage g = true) : Elsewhere h s (voidScanPage s) := by
  obtain ⟨p, hp, rfl⟩ := (hasScanPage_iff s g).1 hg
  have hvoided : Elsewhere h s (s.scanPageVoided p) := .of_same (State.job_setJob_of_ne _ _ ne) rfl
  rw [voidScanPage_of_page hp]
  exact .comp (drainTest_elsewhere _ ne) hvoided

theorem voidPagesOf_elsewhere : Elsewhere h s (voidPagesOf s g) := by
  have hopen : Elsewhere h s (openPageVoidedOf s g) := .ite (voidOpenPage_elsewhere s) (.refl h s)
  have hpages : voidPagesOf s g =
    if (openPageVoidedOf s g).hasScanPage g then voidScanPage (openPageVoidedOf s g) else openPageVoidedOf s g := rfl
  rw [hpages]
  split
  next hg => exact .comp (voidScanPage_elsewhere _ ne hg) hopen
  next => exact hopen

theorem holdJob_elsewhere (r : Reason) : Elsewhere h s (holdJob s g r) := by
  have hdropped : Elsewhere h s (dropAnnounced (voidPagesOf s g) g) :=
    .comp (.ite (.of_same rfl rfl) (.refl h _)) (voidPagesOf_elsewhere s ne)
  have hheld : Elsewhere h s (((dropAnnounced (voidPagesOf s g) g).modJob g fun j =>
      { j with state := .held, reason := some r }).raise .jobHeld [.u8 g, .u8 r.code]) :=
    .comp (.of_same rfl rfl) (.comp (.setJob _ ne _) hdropped)
  simp only [holdJob]
  cases (s.job g).state with
  | active => exact hheld
  | held => exact hheld
  | free => exact .refl h s
  | draining => exact .refl h s

/-! ### The page stream -/

omit ne in
theorem meterPage_jt (p : OpenPage) : (meterPage s p).jt = s.jt := by
  have hconverted : (pageConverted s p).1.jt = s.jt :=
    (congrArg State.jt (convertPlanes_frame _ s (modePlanes p.mode))).trans rfl
  cases he : openEntry? s p.tag with
  | none => rw [meterPage_of_no_entry s he]; exact hconverted
  | some e => rw [meterPage_of_entry s he]; exact hconverted

omit ne in
theorem completePage_elsewhere (p : OpenPage) : Elsewhere h s (completePage s p) := fun _ => by
  have hjt : (completePage s p).jt = s.jt := meterPage_jt (s.emitEngine (markPageEnd p.tag)) p
  rw [State.job, hjt]
  exact ⟨rfl, nofun⟩

omit ne in
theorem judgePage_elsewhere (p : OpenPage) : Elsewhere h s (judgePage s p) := by
  simp only [judgePage]
  cases p.mode with
  | mono => exact .ite (completePage_elsewhere s p) (.refl h s)
  | color => exact .ite (.ite (completePage_elsewhere s p) (voidOpenPage_elsewhere s)) (.refl h s)

theorem bandOfPage_elsewhere (p : OpenPage) (b : Band) (hb : b.job = g) (hp : p.tag.job = g) :
    Elsewhere h s (bandOfPage s p b) := by
  have hforward : Elsewhere h s (forwardBand s p b) := by
    let p' : OpenPage := { p with planes := p.planes.set b.plane (p.planes[b.plane].accept b.lines b.last) }
    let v := (accumulate { s with pp := { s.pp with openPage := some p' } } b.plane (bandTones s p b)).emitEngine
      (markBand b.plane b.last b.index b.lines b.width (bandTones s p b))
    have hpage : Elsewhere h s v := fun _ => ⟨rfl, fun q hq => by
      cases (Option.mem_some_iff.1 hq)
      exact fun hj => ne (hj.symm.trans hp)⟩
    have hcount : Elsewhere h s (v.modJob b.job fun j => { j with stallCount := some 0 }) :=
      .comp (.setJob v (hb ▸ ne) _) hpage
    exact .ite (.comp (judgePage_elsewhere _ p') hcount) hcount
  exact .ite (.of_same rfl rfl) (.ite hforward (voidOpenPage_elsewhere s))

theorem refuseBand_elsewhere (n : Nat) : Elsewhere h s (refuseBand s g n) := by
  have hcounted : Elsewhere h s (s.countRefused g) := .setJob s ne _
  exact .ite hcounted (.comp (.of_same rfl rfl) hcounted)

theorem refuseAdmission_elsewhere (r : Reason) : Elsewhere h s (refuseAdmission s g r) :=
  .comp (.setJob _ ne _) (holdJob_elsewhere s ne r)

omit ne in
theorem touchIdle_elsewhere (i : Fin 256) : Elsewhere h s (touchIdle s i) := .ite (.of_same rfl rfl) (.refl h s)

omit ne in
theorem admissionOf_elsewhere {i : Fin 256} {n price : Nat} {allowed : Bool} {t : State}
    (ha : admissionOf s i n allowed = .admitted t price) : Elsewhere h s t := by
  simp only [admissionOf] at ha
  split_ifs at ha
  cases ha
  exact .comp (touchIdle_elsewhere _ i) (.of_same rfl rfl)

theorem admitPage_elsewhere (b : Band) (hb : b.job = g) : Elsewhere h s (admitPage s b) := by
  simp only [admitPage]
  subst hb
  split
  · exact refuseAdmission_elsewhere s ne _
  · split
    · exact refuseAdmission_elsewhere s ne _
    next t price ha =>
      have hopened : Elsewhere h t (t.pageOpened b (t.job b.job).provisionalClass price) := fun _ =>
        ⟨State.job_setJob_of_ne _ _ ne, fun q hq => by
          cases (Option.mem_some_iff.1 hq)
          exact Ne.symm ne⟩
      rw [openPageFor_eq]
      exact .comp (bandOfPage_elsewhere _ ne _ b rfl rfl) (.comp hopened (admissionOf_elsewhere s ha))

theorem openingBand_elsewhere (b : Band) (hb : b.job = g) : Elsewhere h s (openingBand s b) := by
  subst hb
  exact .ite (refuseBand_elsewhere s ne _) (.ite (.of_same rfl rfl) (.ite (.of_same rfl rfl) (admitPage_elsewhere s ne b rfl)))

theorem examine_elsewhere (b : Band) (hb : b.job = g) : Elsewhere h s (examine s b) := by
  subst hb
  have hcount : Elsewhere h s (s.countRefused b.job) := .setJob s ne _
  simp only [examine]
  refine .ite (refuseBand_elsewhere s ne _) (.ite hcount ?_)
  cases s.pp.openPage with
  | none => exact .ite hcount (openingBand_elsewhere s ne b rfl)
  | some p =>
    dsimp only
    by_cases hj : p.tag.job = b.job
    · rw [if_pos hj]
      exact .ite hcount (.ite (bandOfPage_elsewhere s ne p b rfl hj)
        (.comp (openingBand_elsewhere _ ne b rfl) (voidOpenPage_elsewhere s)))
    · rw [if_neg hj]
      exact .ite hcount (.of_same rfl rfl)

omit ne in
theorem settleBand_elsewhere (hw : ∀ w ∈ s.li.bandPosition, w.band.job ≠ h) : Elsewhere h s (settleBand s) := by
  simp only [settleBand]
  cases hb : s.li.bandPosition with
  | none => exact .refl h s
  | some w => exact .ite (.comp (examine_elsewhere _ (Ne.symm (hw w hb)) _ rfl) (.of_same rfl rfl)) (.refl h s)

end

end Sys2Proof.Machine

/-! PROOFS. What a tick does at the stall count, and at the channels (O50). -/

namespace Sys2Proof.Machine

/-! ### The stall count of the open page's job -/

/-- The work of a tick at the stall count, as `tick` does it. -/
def stallWork (tap32 : Bool) (s : State) : State := if tap32 then tickStall s else s

/-- The stall count runs at a tick (R19). -/
def StallTicks (tap32 : Bool) (s : State) : Prop :=
  tap32 = true ∧ s.pp.engineReady = true ∧ s.li.commandQueue.length < 4 ∧
    ∀ w ∈ s.li.bandPosition, w.reason = .interleave

/-- The stall count of a job after one more tick. -/
def Job.nextStall (j : Job) : Nat := j.stallCount.getD 0 + 1

/-- The tick does not reach the stall limit, or no band waits for the void it brings. -/
def StallApart (tap32 : Bool) (s : State) : Prop :=
  s.li.bandPosition = none ∨ (∀ p ∈ s.pp.openPage, StallTicks tap32 s →
    (s.job p.tag.job).stallLimit ≠ some (s.job p.tag.job).nextStall)

section
variable {tap32 : Bool} {s : State} {p : OpenPage}

theorem stallWork_passed (tap32 : Bool) (s : State) : Passed s (stallWork tap32 s) := .ite (tickStall_passed s) (.refl s)

theorem stallWork_of_idle (h : s.pp.openPage = none ∨ ¬StallTicks tap32 s) : stallWork tap32 s = s := by
  cases tap32 with
  | false => rfl
  | true =>
    rw [stallWork, if_pos rfl, tickStall]
    cases hp : s.pp.openPage with
    | none => rfl
    | some p =>
      have hstopped : ¬StallTicks true s := h.resolve_left fun hn => by rw [hn] at hp; cases hp
      exact if_neg fun hr => hstopped ⟨rfl, (stallRuns_iff s).1 hr⟩

section
variable (hp : s.pp.openPage = some p) (hr : StallTicks tap32 s)
include hp hr

theorem stallWork_of_below (hn : (s.job p.tag.job).stallLimit ≠ some (s.job p.tag.job).nextStall) : stallWork tap32 s =
    s.setJob p.tag.job { s.job p.tag.job with stallCount := some (s.job p.tag.job).nextStall } := by
  obtain ⟨rfl, hruns⟩ := hr
  rw [stallWork, if_pos rfl, tickStall, hp]
  exact (if_pos ((stallRuns_iff s).2 hruns)).trans (if_neg hn)

theorem stallWork_of_limit (hn : (s.job p.tag.job).stallLimit = some (s.job p.tag.job).nextStall) : stallWork tap32 s =
    settleBand (voidOpenPage
      (s.setJob p.tag.job { s.job p.tag.job with stallCount := some (s.job p.tag.job).nextStall })) := by
  obtain ⟨rfl, hruns⟩ := hr
  have hstall := (stallRuns_iff s).2 hruns
  rw [← hn, stallWork, if_pos rfl, tickStall, hp]
  refine (if_pos hstall).trans ((if_pos hn).trans ?_)
  rw [stallExpiry_of_page hp, if_pos hstall]

/-- The limit voids the page, and the examination of another job's band leaves it void. -/
theorem stallWork_voids (hn : (s.job p.tag.job).stallLimit = some (s.job p.tag.job).nextStall)
    (hw : ∀ w ∈ s.li.bandPosition, w.band.job ≠ p.tag.job) :
    (∀ q ∈ (stallWork tap32 s).pp.openPage, q.tag.job ≠ p.tag.job) ∧
    (stallWork tap32 s).status.has .pageVoid = true ∧
    (stallWork tap32 s).job p.tag.job = { s.job p.tag.job with
      stallCount := some (s.job p.tag.job).nextStall
      counters := { (s.job p.tag.job).counters with
        voided := min 4294967295 ((s.job p.tag.job).counters.voided + 1) } } := by
  rw [stallWork_of_limit hp hr hn]
  generalize hv : s.setJob p.tag.job { s.job p.tag.job with stallCount := some (s.job p.tag.job).nextStall } = v
  have hvp : v.pp.openPage = some p := by rw [← hv]; exact hp
  have hvj : v.job p.tag.job = { s.job p.tag.job with stallCount := some (s.job p.tag.job).nextStall } := by
    rw [← hv]; exact State.job_setJob_self ..
  have hvw : v.li = s.li := by rw [← hv]; rfl
  have hpage : (voidOpenPage v).pp.openPage = none := by rw [voidOpenPage_of_page hvp]; rfl
  have hflag : (voidOpenPage v).status.has .pageVoid = true := by
    rw [voidOpenPage_of_page hvp, has_raise, beq_self_eq_true, Bool.or_true, Bool.true_or]
  have hjob : (voidOpenPage v).job p.tag.job = (v.countVoided p.tag.job).job p.tag.job := by
    rw [voidOpenPage_of_page hvp]; rfl
  have hband : ∀ w ∈ (voidOpenPage v).li.bandPosition, w.band.job ≠ p.tag.job := by
    have hdue : (voidOpenPage v).li.bandPosition = s.li.bandPosition.map fun w => { w with reason := .due } := by
      rw [voidOpenPage_of_page hvp, ← hvw]; rfl
    intro w hd
    rw [hdue] at hd
    obtain ⟨x, hx, rfl⟩ := Option.map_eq_some_iff.1 hd
    exact hw x hx
  obtain ⟨hkept, hother⟩ := settleBand_elsewhere (voidOpenPage v) hband fun q hq => by rw [hpage] at hq; cases hq
  refine ⟨hother, (settleBand_passed _).flags _ hflag, ?_⟩
  rw [hkept, hjob]
  refine (State.job_setJob_self ..).trans ?_
  rw [hvj]
  rfl

end

theorem voidOpenPage_frame (s : State) : voidOpenPage s = { s with
    jt := (voidOpenPage s).jt, pp := (voidOpenPage s).pp, dm := (voidOpenPage s).dm, st := (voidOpenPage s).st
    status := (voidOpenPage s).status, engineOut := (voidOpenPage s).engineOut, li := (voidOpenPage s).li } := by
  cases hp : s.pp.openPage with
  | none => rw [voidOpenPage_of_none s hp]
  | some p =>
    rw [voidOpenPage_of_page hp, State.openPageVoided, State.voidMarked]
    split <;> rfl

/-- Where no band is examined, the stall count leaves the Time Base, the keys, the store, the accounts and the lines. -/
theorem stallWork_frame (h : StallApart tap32 s) : stallWork tap32 s = { s with
    jt := (stallWork tap32 s).jt, pp := (stallWork tap32 s).pp, dm := (stallWork tap32 s).dm
    st := (stallWork tap32 s).st, status := (stallWork tap32 s).status
    engineOut := (stallWork tap32 s).engineOut, li := (stallWork tap32 s).li } := by
  by_cases hidle : s.pp.openPage = none ∨ ¬StallTicks tap32 s
  · rw [stallWork_of_idle hidle]
  · obtain ⟨hopen, hr⟩ := not_or.1 hidle
    obtain ⟨p, hp⟩ := Option.ne_none_iff_exists'.1 hopen
    have hr := not_not.1 hr
    by_cases hn : (s.job p.tag.job).stallLimit = some (s.job p.tag.job).nextStall
    · have hband : s.li.bandPosition = none := h.resolve_right fun hother => hother p hp hr hn
      rw [stallWork_of_limit hp hr hn]
      generalize hv : s.setJob p.tag.job { s.job p.tag.job with stallCount := some (s.job p.tag.job).nextStall } = v
      have hvp : v.pp.openPage = some p := by rw [← hv]; exact hp
      have hnone : (voidOpenPage v).li.bandPosition = none := by
        have hdue : (voidOpenPage v).li.bandPosition = v.li.bandPosition.map fun w => { w with reason := .due } := by
          rw [voidOpenPage_of_page hvp]; rfl
        rw [hdue, ← hv]
        exact congrArg (Option.map _) hband
      have hframe := voidOpenPage_frame v
      rw [settleBand_of_none _ hnone]
      rw [hframe, ← hv]
      rfl
    · rw [stallWork_of_below hp hr hn]
      rfl

end

end Sys2Proof.Machine

/-! PROOFS. The channels at a tick (O50): each counts, or expires with its owner's work, and the channels come last. -/

namespace Sys2Proof.Machine

/-! ### What the work of a channel leaves -/

/-- What the work of a channel leaves: the flags that are set, the time counts, the other channels, the jobs and pages, the
slots but for a recheck, and, but for ch0, the panel session. -/
structure ChannelStep (c : Fin 4) (s t : State) : Prop where
  flags : ∀ f, s.status.has f = true → t.status.has f = true
  counts : t.tb = { s.tb with channels := t.tb.channels }
  others : ∀ d, d ≠ c → t.channel d = s.channel d
  slots : ∀ d, (s.slot d).Stands (t.slot d)
  jobs : t.jt = s.jt
  pages : t.pp = s.pp
  session : c ≠ 0 → t.acct.session = s.acct.session

namespace ChannelStep

variable {c : Fin 4} {s t u : State}

theorem refl (c : Fin 4) (s : State) : ChannelStep c s s :=
  ⟨fun _ => id, rfl, fun _ _ => rfl, fun _ => .refl _, rfl, rfl, fun _ => rfl⟩

theorem comp (k : ChannelStep c t u) (h : ChannelStep c s t) : ChannelStep c s u where
  flags f := k.flags f ∘ h.flags f
  counts := by
    have hc := h.counts
    have kc := k.counts
    rw [kc, hc]
  others d hd := (k.others d hd).trans (h.others d hd)
  slots d := (h.slots d).trans (k.slots d)
  jobs := k.jobs.trans h.jobs
  pages := k.pages.trans h.pages
  session hc := (k.session hc).trans (h.session hc)

theorem ite {p : Prop} [Decidable p] (h : ChannelStep c s t) (k : ChannelStep c s u) :
    ChannelStep c s (if p then t else u) := by
  split
  · exact h
  · exact k

theorem foldl {α : Type} {f : State → α → State} (l : List α) (h : ∀ s a, ChannelStep c s (f s a)) (s : State) :
    ChannelStep c s (l.foldl f s) := by
  induction l generalizing s with
  | nil => exact .refl c s
  | cons a l ih => exact .comp (ih (f s a)) (h s a)

theorem setAccount (c : Fin 4) (s : State) (i : Fin 256) (a : Account) : ChannelStep c s (s.setAccount i a) :=
  ⟨fun _ => id, rfl, fun _ _ => rfl, fun _ => .refl _, rfl, rfl, fun _ => rfl⟩

theorem setChannel (c : Fin 4) (s : State) (x : Channel) : ChannelStep c s (s.setChannel c x) :=
  ⟨fun _ => id, rfl, fun _ hd => State.channel_setChannel_of_ne s x hd, fun _ => .refl _, rfl, rfl, fun _ => rfl⟩

end ChannelStep

theorem sessionExpiry_frame (s : State) : sessionExpiry s = { s with
    acct := (sessionExpiry s).acct, status := (sessionExpiry s).status } := by
  simp only [sessionExpiry]
  split <;> rfl

theorem sessionExpiry_closes (s : State) : (sessionExpiry s).acct.session = none ∧
    (s.acct.session ≠ none → (sessionExpiry s).status.has .sessionEnded = true) := by
  simp only [sessionExpiry]
  cases hs : s.acct.session with
  | none => exact ⟨hs, fun h => absurd rfl h⟩
  | some x =>
    refine ⟨rfl, fun _ => ?_⟩
    rw [has_raise, beq_self_eq_true, Bool.or_true, Bool.true_or]

section
variable (s : State) (c : Fin 4)

theorem Quiet.channelStep {s t : State} (h : Quiet s t) (k : Passed s t) : ChannelStep c s t where
  flags := k.flags
  counts := k.counts
  others d _ := congrArg (fun tb : TimeBase => tb.channels[d]) h.tb
  slots := k.slots
  jobs := by rw [h.frame]
  pages := by rw [h.frame]
  session _ := by rw [h.frame]

theorem request_channelStep (q : StoreRequest) : ChannelStep c s (request s q).1 :=
  (request_quiet s q).channelStep c (request_passed s q)

theorem meterFlush_channelStep : ChannelStep c s (meterFlush s) := by
  have hflush : ChannelStep c s ((dirtyAccounts s).foldl
      (fun s i => commitAccount (s.modAccount i fun a => { a with sinceFlush := 0 }) i) s) :=
    .foldl _ (fun t i => .comp (request_channelStep _ c _) (.setAccount c t i _)) s
  exact .ite (.comp (request_channelStep _ c _) hflush) hflush

theorem ownerExpiry_step : ChannelStep c s (ownerExpiry s c) := by
  have hcases : c = 0 ∨ c = 1 ∨ c = 2 ∨ c = 3 := by revert c; decide
  obtain rfl | rfl | rfl | rfl := hcases
  · have hframe := sessionExpiry_frame s
    have hjobs : (sessionExpiry s).jt = s.jt := by rw [hframe]
    have hpages : (sessionExpiry s).pp = s.pp := by rw [hframe]
    have hpassed := sessionExpiry_passed s
    exact ⟨hpassed.flags, hpassed.counts, fun d _ => ownerExpiry_channel s 0 d, hpassed.slots, hjobs, hpages,
      fun h => absurd rfl h⟩
  · exact (keySweep_quiet s).channelStep 1 (keySweep_passed s)
  · exact meterFlush_channelStep s 2
  · exact (recheckExpiry_quiet s).channelStep 3 (recheckExpiry_passed s)

/-! ### One channel -/

/-- A channel that its tap ticks, and that runs (R168, R170). -/
def Channel.ticked (x : Channel) (oneShot : Bool) : Channel :=
  if x.count + 1 = x.period then x.afterExpiry oneShot
  else if x.stopPending then x.halt else { x with count := x.count + 1 }

theorem tickChannel_of_stopped (h : (s.channel c).running = false) : tickChannel s c = s := by
  refine if_pos ?_
  rw [h]
  rfl

theorem tickChannel_of_expiry (hr : (s.channel c).running = true) (hn : (s.channel c).count + 1 = (s.channel c).period) :
    tickChannel s c = channelExpiry s c := by
  have hrun : ¬(!(s.channel c).running) = true := by rw [hr]; decide
  have hexpiry : channelExpiry s c =
    expireChannel (s.setChannel c { s.channel c with count := (s.channel c).period }) c := if_pos hr
  rw [hexpiry, ← hn]
  exact (if_neg hrun).trans (if_pos hn)

theorem tickChannel_of_count (hr : (s.channel c).running = true) (hn : (s.channel c).count + 1 ≠ (s.channel c).period) :
    tickChannel s c = s.setChannel c (if (s.channel c).stopPending then (s.channel c).halt
      else { s.channel c with count := (s.channel c).count + 1 }) := by
  have hrun : ¬(!(s.channel c).running) = true := by rw [hr]; decide
  refine (if_neg hrun).trans ((if_neg hn).trans ?_)
  split <;> rfl

theorem channelExpiry_eq (hr : (s.channel c).running = true) : channelExpiry s c =
    (ownerExpiry (s.setChannel c { s.channel c with count := (s.channel c).period }) c).setChannel c
      ((s.channel c).afterExpiry (c == 0)) := by
  have hstep : ({ s.channel c with count := (s.channel c).period } : Channel).afterExpiry (c == 0) =
      (s.channel c).afterExpiry (c == 0) :=
    (Channel.afterExpiry_eq (s.channel c) (s.channel c).period _).trans
      (Channel.afterExpiry_eq (s.channel c) (s.channel c).count _).symm
  rw [← hstep, ← expireChannel_eq]
  exact if_pos hr

theorem tickChannel_step : ChannelStep c s (tickChannel s c) := by
  cases hr : (s.channel c).running with
  | false => rw [tickChannel_of_stopped s c hr]; exact .refl c s
  | true =>
    by_cases hn : (s.channel c).count + 1 = (s.channel c).period
    · rw [tickChannel_of_expiry s c hr hn, channelExpiry_eq s c hr]
      exact .comp (.setChannel c _ _) (.comp (ownerExpiry_step _ c) (.setChannel c s _))
    · rw [tickChannel_of_count s c hr hn]
      exact .setChannel c s _

theorem tickChannel_channel (hr : (s.channel c).running = true) :
    (tickChannel s c).channel c = (s.channel c).ticked (c == 0) := by
  rw [Channel.ticked]
  by_cases hn : (s.channel c).count + 1 = (s.channel c).period
  · rw [if_pos hn, tickChannel_of_expiry s c hr hn, channelExpiry_eq s c hr, State.channel_setChannel_self]
  · rw [if_neg hn, tickChannel_of_count s c hr hn, State.channel_setChannel_self]

/-- ch0 at its period closes the panel session, and keeps it before that. -/
theorem tickChannel_session :
    ((s.channel 0).running = true → (s.channel 0).count + 1 = (s.channel 0).period →
      (tickChannel s 0).acct.session = none ∧
        (s.acct.session ≠ none → (tickChannel s 0).status.has .sessionEnded = true)) ∧
    (¬((s.channel 0).running = true ∧ (s.channel 0).count + 1 = (s.channel 0).period) →
      (tickChannel s 0).acct.session = s.acct.session) := by
  refine ⟨fun hr hn => ?_, fun h => ?_⟩
  · rw [tickChannel_of_expiry s 0 hr hn, channelExpiry_eq s 0 hr]
    exact sessionExpiry_closes (s.setChannel 0 { s.channel 0 with count := (s.channel 0).period })
  · cases hr : (s.channel 0).running with
    | false => rw [tickChannel_of_stopped s 0 hr]
    | true =>
      rw [tickChannel_of_count s 0 hr fun hn => h ⟨hr, hn⟩]
      rfl

end

/-! ### The channels in order -/

/-- The work of a tick at a channel, as `tick` does it: of those whose tap ticks. -/
def channelWork (T : TimeBase) (s : State) (c : Fin 4) : State :=
  if Tap.ticks T (s.channel c).tap then tickChannel s c else s

section
variable (T : TimeBase)

theorem channelWork_step (s : State) (c : Fin 4) : ChannelStep c s (channelWork T s c) :=
  .ite (tickChannel_step s c) (.refl c s)

theorem channelWork_of_idle {s : State} {c : Fin 4} (h : ¬Tap.ticks T (s.channel c).tap = true ∨ (s.channel c).running = false) :
    channelWork T s c = s := by
  rw [channelWork]
  split
  next ht => exact tickChannel_of_stopped s c (h.resolve_left (not_not.2 ht))
  next => rfl

theorem channelWork_of_ticks {s : State} {c : Fin 4} (h : Tap.ticks T (s.channel c).tap = true) :
    channelWork T s c = tickChannel s c := if_pos h

/-- What the work of every channel leaves. -/
theorem channelsWork_keeps (l : List (Fin 4)) (s : State) :
    (∀ f, s.status.has f = true → (l.foldl (channelWork T) s).status.has f = true) ∧
    (l.foldl (channelWork T) s).tb = { s.tb with channels := (l.foldl (channelWork T) s).tb.channels } ∧
    (∀ d, (s.slot d).Stands ((l.foldl (channelWork T) s).slot d)) ∧
    (l.foldl (channelWork T) s).jt = s.jt ∧ (l.foldl (channelWork T) s).pp = s.pp ∧
    ((0 : Fin 4) ∉ l → (l.foldl (channelWork T) s).acct.session = s.acct.session) := by
  induction l generalizing s with
  | nil => exact ⟨fun _ => id, rfl, fun _ => .refl _, rfl, rfl, fun _ => rfl⟩
  | cons c l ih =>
    have k := channelWork_step T s c
    obtain ⟨hflags, hcounts, hslots, hjobs, hpages, hsession⟩ := ih (channelWork T s c)
    rw [List.foldl_cons]
    refine ⟨fun f => hflags f ∘ k.flags f, ?_, fun d => (k.slots d).trans (hslots d), hjobs.trans k.jobs,
      hpages.trans k.pages, fun h => ?_⟩
    · have kc := k.counts
      rw [hcounts, kc]
    · obtain ⟨hc, hl⟩ := not_or.1 (mt List.mem_cons.2 h)
      exact (hsession hl).trans (k.session (Ne.symm hc))

theorem channelsWork_channel_of_not_mem {l : List (Fin 4)} (s : State) {d : Fin 4} (hd : d ∉ l) :
    (l.foldl (channelWork T) s).channel d = s.channel d := by
  induction l generalizing s with
  | nil => rfl
  | cons c l ih =>
    obtain ⟨hc, hl⟩ := not_or.1 (mt List.mem_cons.2 hd)
    rw [List.foldl_cons, ih _ hl, (channelWork_step T s c).others d hc]

/-- A channel changes at its own turn alone, from what it was. -/
theorem channelsWork_channel {l : List (Fin 4)} (hl : l.Nodup) (s : State) {d : Fin 4} (hd : d ∈ l) :
    ∃ u : State, u.channel d = s.channel d ∧ (l.foldl (channelWork T) s).channel d = (channelWork T u d).channel d := by
  induction l generalizing s with
  | nil => cases hd
  | cons c l ih =>
    obtain ⟨hc, hl⟩ := List.nodup_cons.1 hl
    rw [List.foldl_cons]
    by_cases h : d = c
    · subst h
      exact ⟨s, rfl, channelsWork_channel_of_not_mem T _ hc⟩
    · obtain ⟨u, hu, hchannel⟩ := ih hl (channelWork T s c) ((List.mem_cons.1 hd).resolve_left h)
      exact ⟨u, hu.trans ((channelWork_step T s c).others d h), hchannel⟩

theorem channels_nodup : channels.Nodup := List.nodup_finRange 4

/-- Each channel, after all of them: idle, counted or expired. -/
theorem channelsWork_idle (s : State) (c : Fin 4)
    (h : ¬Tap.ticks T (s.channel c).tap = true ∨ (s.channel c).running = false) :
    (channels.foldl (channelWork T) s).channel c = s.channel c := by
  obtain ⟨u, hu, hchannel⟩ := channelsWork_channel T channels_nodup s (List.mem_finRange c)
  rw [← hu] at h ⊢
  rw [hchannel, channelWork_of_idle T h]

theorem channelsWork_ticked (s : State) (c : Fin 4) (ht : Tap.ticks T (s.channel c).tap = true)
    (hr : (s.channel c).running = true) :
    (channels.foldl (channelWork T) s).channel c = (s.channel c).ticked (c == 0) := by
  obtain ⟨u, hu, hchannel⟩ := channelsWork_channel T channels_nodup s (List.mem_finRange c)
  rw [← hu] at ht hr ⊢
  rw [hchannel, channelWork_of_ticks T ht, tickChannel_channel u c hr]

/-- The panel session, after all channels: closed where ch0 reaches its period. -/
theorem channelsWork_session (s : State) :
    (Tap.ticks T (s.channel 0).tap = true → (s.channel 0).running = true →
      (s.channel 0).count + 1 = (s.channel 0).period →
      (channels.foldl (channelWork T) s).acct.session = none ∧
        (s.acct.session ≠ none → (channels.foldl (channelWork T) s).status.has .sessionEnded = true)) ∧
    (¬(Tap.ticks T (s.channel 0).tap = true ∧ (s.channel 0).running = true ∧
        (s.channel 0).count + 1 = (s.channel 0).period) →
      (channels.foldl (channelWork T) s).acct.session = s.acct.session) := by
  have hfold : channels.foldl (channelWork T) s = [1, 2, 3].foldl (channelWork T) (channelWork T s 0) := rfl
  obtain ⟨hflags, -, -, -, -, hkept⟩ := channelsWork_keeps T [1, 2, 3] (channelWork T s 0)
  have hkept := hkept (by decide)
  rw [hfold, hkept]
  obtain ⟨hcloses, hstays⟩ := tickChannel_session s
  refine ⟨fun ht hr hn => ?_, fun h => ?_⟩
  · obtain ⟨hnone, hflag⟩ := hcloses hr hn
    rw [channelWork_of_ticks T ht] at hflags ⊢
    exact ⟨hnone, fun hs => hflags _ (hflag hs)⟩
  · rw [channelWork]
    split
    next ht => exact hstays fun hrn => h ⟨ht, hrn⟩
    next => rfl

end

end Sys2Proof.Machine

/-! PROOFS. A tick and a reference step (O50): the counts, the lines, the stall count and the channels, in that order. -/

namespace Sys2Proof.Machine

/-! ### The time counts -/

section
variable (t : TimeBase)

theorem TimeBase.tick_fields (h : t.subSecond < 1024) : t.tick = { t with
    subSecond := if t.subSecond = 1023 then 0 else t.subSecond + 1
    seconds := if t.subSecond = 1023 then min 4294967295 (t.seconds + 1) else t.seconds
    minute := if t.subSecond = 1023 then (if t.minute + 1 < 60 then t.minute + 1 else 0) else t.minute } := by
  rw [TimeBase.tick]
  by_cases hlast : t.subSecond = 1023
  · rw [if_neg (by omega), if_pos hlast, if_pos hlast, if_pos hlast]
    rfl
  · rw [if_pos (by omega), if_neg hlast, if_neg hlast, if_neg hlast]

/-- The 32/s tap ticks with every 32nd tick (R165). -/
theorem ticks_t32_iff (h : t.subSecond < 1024) : Tap.ticks t.tick .t32 = true ↔ (t.subSecond + 1) % 32 = 0 := by
  rw [TimeBase.tick_fields t h, Tap.ticks, beq_iff_eq]
  dsimp only
  split <;> omega

/-- The taps that tick, by the counts before the tick (R165). -/
theorem ticks_iff (h : t.subSecond < 1024) (hm : t.minute < 60) (tap : Tap) : Tap.ticks t.tick tap = true ↔
    tap = .t1024 ∨ (tap = .t32 ∧ (t.subSecond + 1) % 32 = 0) ∨ (tap = .t1 ∧ t.subSecond = 1023) ∨
      (tap = .t60 ∧ t.subSecond = 1023 ∧ t.minute = 59) := by
  have hsecond : t.tick.subSecond = 0 ↔ t.subSecond = 1023 := by
    rw [TimeBase.tick_fields t h]
    dsimp only
    split <;> omega
  have hminute : t.tick.subSecond = 0 ∧ t.tick.minute = 0 ↔ t.subSecond = 1023 ∧ t.minute = 59 := by
    rw [hsecond, TimeBase.tick_fields t h]
    refine and_congr_right fun hlast => ?_
    dsimp only
    rw [if_pos hlast]
    split <;> omega
  cases tap with
  | t1024 => simp [Tap.ticks]
  | t32 => rw [ticks_t32_iff t h]; simp
  | t1 => simpa [Tap.ticks] using hsecond
  | t60 => simpa [Tap.ticks] using hminute

end

/-! ### The phases of a tick -/

/-- Whether the 32/s tap ticks with the next tick. -/
def State.tap32 (s : State) : Bool := Tap.ticks s.tb.tick .t32

/-- The state after the work of a tick at the cartridge lines. -/
def tickLines (presence : Vector Bool 4) (s : State) : State := lineWork presence s.tap32 { s with tb := s.tb.tick }

/-- The state after the work of a tick at the stall count, before the channels. -/
def tickPages (presence : Vector Bool 4) (s : State) : State := stallWork s.tap32 (tickLines presence s)

section
variable (presence : Vector Bool 4) (s : State)

theorem tick_eq : tick presence s = channels.foldl (channelWork s.tb.tick) (tickPages presence s) := by
  have hphases : tick presence s = channels.foldl (channelWork s.tb.tick)
      (if s.tap32 then tickStall (slots.foldl (sampleOf presence) (slots.foldl beginCheck
        (slots.foldl tickExchange { s with tb := s.tb.tick }))) else slots.foldl tickExchange { s with tb := s.tb.tick }) := rfl
  rw [hphases, tickPages, tickLines]
  cases s.tap32 <;> rfl

theorem ticks_eq_iterate (n : Nat) : ticks presence n s = (tick presence)^[n] s := by
  induction n generalizing s with
  | zero => rfl
  | succ n ih => rw [ticks, ih, Function.iterate_succ_apply]

/-! ### The lines -/

theorem tickLines_moved : LinesMoved { s with tb := s.tb.tick } (tickLines presence s) := lineWork_moved _ _ _

theorem tickLines_pp : (tickLines presence s).pp = s.pp := by rw [(tickLines_moved presence s).frame]

theorem tickLines_jt : (tickLines presence s).jt = s.jt := by rw [(tickLines_moved presence s).frame]

theorem tickLines_li : (tickLines presence s).li = s.li := by rw [(tickLines_moved presence s).frame]

theorem tickLines_job (h : Fin 16) : (tickLines presence s).job h = s.job h := by
  rw [State.job, tickLines_jt]
  rfl

/-- The stall count runs at the lines' state as at the state before. -/
theorem stallTicks_tickLines : StallTicks s.tap32 (tickLines presence s) ↔ StallTicks s.tap32 s := by
  rw [StallTicks, StallTicks, tickLines_pp, tickLines_li]

theorem stallApart_tickLines : StallApart s.tap32 (tickLines presence s) ↔ StallApart s.tap32 s := by
  simp only [StallApart, tickLines_pp, tickLines_li, tickLines_job, stallTicks_tickLines]

/-- What the pages and the channels leave of the slots. -/
theorem tickLines_stands (c : Fin 4) : ((tickLines presence s).slot c).Stands ((tick presence s).slot c) := by
  obtain ⟨-, -, hslots, -⟩ := channelsWork_keeps s.tb.tick channels (tickPages presence s)
  rw [tick_eq]
  exact ((stallWork_passed s.tap32 _).slots c).trans (hslots c)

theorem tickLines_flags (f : Flag) (h : (tickLines presence s).status.has f = true) :
    (tick presence s).status.has f = true := by
  obtain ⟨hflags, -⟩ := channelsWork_keeps s.tb.tick channels (tickPages presence s)
  rw [tick_eq]
  exact hflags f ((stallWork_passed s.tap32 _).flags f h)

theorem tick_tb : (tick presence s).tb = { s.tb.tick with channels := (tick presence s).tb.channels } := by
  obtain ⟨-, hcounts, -⟩ := channelsWork_keeps s.tb.tick channels (tickPages presence s)
  have hpages : (tickPages presence s).tb = { (tickLines presence s).tb with channels := (tickPages presence s).tb.channels } :=
    (stallWork_passed s.tap32 _).counts
  have hlines : (tickLines presence s).tb = s.tb.tick := by rw [(tickLines_moved presence s).frame]
  rw [tick_eq, hcounts, hpages, hlines]

theorem tick_line_idle (h : s.tap32 = false) (c : Fin 4) : (s.slot c).SameLine ((tick presence s).slot c) := by
  obtain ⟨⟨hsample, hdebounce, hlevel, -⟩, -⟩ := tickLines_stands presence s c
  have hline : (s.slot c).SameLine ((tickLines presence s).slot c) := by
    rw [tickLines, h]
    exact lineWork_idle { s with tb := s.tb.tick } presence c
  exact hline.trans ⟨hsample, hdebounce, hlevel⟩

theorem tick_line_sampled (h : s.tap32 = true) (c : Fin 4) : ((tick presence s).slot c).sample = presence[c] ∧
    ((tick presence s).slot c).debounce =
      (if presence[c] = (s.slot c).level ∨ 7 ≤ (s.slot c).debounce then 0 else (s.slot c).debounce + 1) ∧
    ((tick presence s).slot c).level = if 7 ≤ (s.slot c).debounce then presence[c] else (s.slot c).level := by
  obtain ⟨⟨hsample, hdebounce, hlevel, -⟩, -⟩ := tickLines_stands presence s c
  rw [hsample, hdebounce, hlevel, tickLines, h]
  exact lineWork_samples { s with tb := s.tb.tick } presence c

/-- A slot whose line has no edge at the tick. -/
theorem tickLines_slot {c : Fin 4} (h : ¬(s.tap32 = true ∧ (s.slot c).edge presence[c])) :
    (tickLines presence s).slot c = (s.slot c).lineTicked s.tap32 presence[c] :=
  lineWork_slot { s with tb := s.tb.tick } presence c h

end

/-- A slot whose line is sampled with the 32/s tap. -/
def Cartridge.tapSampled (x : Cartridge) (tap32 line : Bool) : Cartridge := if tap32 = true then x.sampled line else x

section
variable {x : Cartridge} (tap32 line : Bool)

theorem lineTicked_of_unchecked (h : ¬(x.exchangeTicked.state = .sensed ∧ x.exchangeTicked.exchange = none)) :
    x.lineTicked tap32 line = x.exchangeTicked.tapSampled tap32 line := by
  have hsame : x.exchangeTicked.checkBegun = x.exchangeTicked := if_neg h
  rw [Cartridge.lineTicked, hsame, Cartridge.tapSampled]

/-- A slot's exchange counts whether the line is sampled or not. -/
theorem lineTicked_of_low {e : Exchange} (he : x.exchange = some e) (hn : e.elapsed + 1 < 41) :
    x.lineTicked tap32 line = { x.tapSampled tap32 line with exchange := some { e with elapsed := e.elapsed + 1 } } := by
  have hticked := exchangeTicked_of_low he hn
  rw [lineTicked_of_unchecked _ _ (by rw [hticked]; exact fun h => nomatch h.2), hticked]
  cases tap32 <;> rfl

theorem lineTicked_of_limit {e : Exchange} (he : x.exchange = some e) (hn : ¬e.elapsed + 1 < 41) :
    x.lineTicked tap32 line = { x.tapSampled tap32 line with
      state := .mute, exchange := none, writePending := false, recheckPending := false } := by
  have hticked := exchangeTicked_of_limit he hn
  rw [lineTicked_of_unchecked _ _ (by rw [hticked]; exact fun h => nomatch h.1), hticked]
  cases tap32 <;> rfl

theorem lineTicked_of_sensed (he : x.exchange = none) (hs : x.state = .sensed) : x.lineTicked tap32 line =
    if tap32 = true then
      { x.tapSampled tap32 line with state := .checking, exchange := some ⟨.identify, .check, 0⟩ }
    else x.tapSampled tap32 line := by
  have hbegun : x.checkBegun = { x with state := .checking, exchange := some ⟨.identify, .check, 0⟩ } := if_pos ⟨hs, he⟩
  rw [Cartridge.lineTicked, exchangeTicked_of_none he, hbegun]
  cases tap32 <;> rfl

theorem lineTicked_of_quiet (he : x.exchange = none) (hs : x.state ≠ .sensed) :
    x.lineTicked tap32 line = x.tapSampled tap32 line := by
  have hticked := exchangeTicked_of_none he
  rw [lineTicked_of_unchecked _ _ (by rw [hticked]; exact fun h => hs h.1), hticked]

end

/-- The whole slot, by its exchange. -/
theorem lineTicked_eq {x y : Cartridge} {tap32 line : Bool} (hy : x.tapSampled tap32 line = y) {P : Prop} [Decidable P]
    (hP : tap32 = true ↔ P) : x.lineTicked tap32 line =
    match x.exchange with
    | some e =>
      if e.elapsed + 1 < 41 then { y with exchange := some { e with elapsed := e.elapsed + 1 } }
      else { y with state := .mute, exchange := none, writePending := false, recheckPending := false }
    | none =>
      if P ∧ x.state = .sensed then { y with state := .checking, exchange := some ⟨.identify, .check, 0⟩ } else y := by
  subst hy
  cases he : x.exchange with
  | some e =>
    by_cases hn : e.elapsed + 1 < 41
    · exact (lineTicked_of_low tap32 line he hn).trans (if_pos hn).symm
    · exact (lineTicked_of_limit tap32 line he hn).trans (if_neg hn).symm
  | none =>
    by_cases hs : x.state = .sensed
    · exact (lineTicked_of_sensed tap32 line he hs).trans (if_congr (hP.trans (and_iff_left hs).symm) rfl rfl)
    · exact (lineTicked_of_quiet tap32 line he hs).trans (if_neg fun h => hs h.2).symm

section
variable (presence : Vector Bool 4) (s : State) {c : Fin 4} (h : ¬(s.tap32 = true ∧ (s.slot c).edge presence[c]))
include h

theorem tick_exchange_low {e : Exchange} (he : (s.slot c).exchange = some e) (hn : e.elapsed + 1 < 41) :
    ((tick presence s).slot c).exchange = some { e with elapsed := e.elapsed + 1 } := by
  obtain ⟨-, hexchange⟩ := tickLines_stands presence s c
  rw [tickLines_slot presence s h, lineTicked_of_low _ _ he hn] at hexchange
  exact hexchange (.inl nofun)

theorem tick_exchange_limit {e : Exchange} (he : (s.slot c).exchange = some e) (hn : 41 ≤ e.elapsed + 1) :
    ((tick presence s).slot c).state = .mute ∧ ((tick presence s).slot c).exchange = none ∧
      (tick presence s).status.has .cartridgeState = true := by
  obtain ⟨⟨-, -, -, hstate⟩, hexchange⟩ := tickLines_stands presence s c
  rw [tickLines_slot presence s h, lineTicked_of_limit _ _ he (Nat.not_lt.2 hn)] at hstate hexchange
  exact ⟨hstate, hexchange (.inr nofun), tickLines_flags presence s _
    (lineWork_limit { s with tb := s.tb.tick } presence c he hn)⟩

theorem tick_check_begins (he : (s.slot c).exchange = none) (hs : (s.slot c).state = .sensed) :
    ((tick presence s).slot c).state = (if s.tap32 = true then .checking else .sensed) ∧
    ((tick presence s).slot c).exchange = if s.tap32 = true then some ⟨.identify, .check, 0⟩ else none := by
  obtain ⟨⟨-, -, -, hstate⟩, hexchange⟩ := tickLines_stands presence s c
  rw [tickLines_slot presence s h, lineTicked_of_sensed _ _ he hs] at hstate hexchange
  have hother : (s.slot c).state ≠ .genuine := by rw [hs]; nofun
  generalize s.tap32 = tap32 at hstate hexchange ⊢
  cases tap32 with
  | false => exact ⟨hstate.trans hs, (hexchange (.inr hother)).trans he⟩
  | true => exact ⟨hstate, hexchange (.inr nofun)⟩

end

/-! ### The pages -/

section
variable (presence : Vector Bool 4) (s : State)

theorem tick_jobs : (tick presence s).jt = (tickPages presence s).jt ∧ (tick presence s).pp = (tickPages presence s).pp := by
  obtain ⟨-, -, -, hjobs, hpages, -⟩ := channelsWork_keeps s.tb.tick channels (tickPages presence s)
  rw [tick_eq]
  exact ⟨hjobs, hpages⟩

theorem tick_stall_idle (h : s.pp.openPage = none ∨ ¬StallTicks s.tap32 s) :
    (tick presence s).pp = s.pp ∧ (tick presence s).jt = s.jt := by
  obtain ⟨hjobs, hpages⟩ := tick_jobs presence s
  rw [hjobs, hpages, tickPages, stallWork_of_idle, tickLines_pp, tickLines_jt]
  · exact ⟨rfl, rfl⟩
  · rw [tickLines_pp, stallTicks_tickLines]
    exact h

section
variable {p : OpenPage} (hp : s.pp.openPage = some p) (hr : StallTicks s.tap32 s)
include hp hr

theorem tick_stall_below (hn : (s.job p.tag.job).stallLimit ≠ some (s.job p.tag.job).nextStall) :
    (tick presence s).pp = s.pp ∧ (tick presence s).jt =
      s.jt.set p.tag.job { s.job p.tag.job with stallCount := some (s.job p.tag.job).nextStall } := by
  obtain ⟨hjobs, hpages⟩ := tick_jobs presence s
  have hbelow := stallWork_of_below ((congrArg (·.openPage) (tickLines_pp presence s)).trans hp)
    ((stallTicks_tickLines presence s).2 hr) (by rw [tickLines_job]; exact hn)
  rw [hjobs, hpages, tickPages, hbelow, tickLines_job]
  exact ⟨tickLines_pp presence s, by rw [State.setJob]; dsimp only; rw [tickLines_jt]⟩

theorem tick_stall_limit (hn : (s.job p.tag.job).stallLimit = some (s.job p.tag.job).nextStall)
    (hw : ∀ w ∈ s.li.bandPosition, w.band.job ≠ p.tag.job) :
    (∀ q ∈ (tick presence s).pp.openPage, q.tag.job ≠ p.tag.job) ∧ (tick presence s).status.has .pageVoid = true ∧
    (tick presence s).job p.tag.job = { s.job p.tag.job with
      stallCount := some (s.job p.tag.job).nextStall
      counters := { (s.job p.tag.job).counters with
        voided := min 4294967295 ((s.job p.tag.job).counters.voided + 1) } } := by
  obtain ⟨hjobs, hpages⟩ := tick_jobs presence s
  obtain ⟨hflags, -⟩ := channelsWork_keeps s.tb.tick channels (tickPages presence s)
  have hvoids := stallWork_voids ((congrArg (·.openPage) (tickLines_pp presence s)).trans hp)
    ((stallTicks_tickLines presence s).2 hr) (by rw [tickLines_job]; exact hn) (by rw [tickLines_li]; exact hw)
  rw [tickLines_job] at hvoids
  obtain ⟨hpage, hflag, hjob⟩ := hvoids
  rw [State.job, hjobs, hpages]
  exact ⟨hpage, by rw [tick_eq]; exact hflags _ hflag, hjob⟩

end

/-! ### The channels -/

theorem tickPages_frame (h : StallApart s.tap32 s) : tickPages presence s = { tickLines presence s with
    jt := (tickPages presence s).jt, pp := (tickPages presence s).pp, dm := (tickPages presence s).dm
    st := (tickPages presence s).st, status := (tickPages presence s).status
    engineOut := (tickPages presence s).engineOut, li := (tickPages presence s).li } :=
  stallWork_frame ((stallApart_tickLines presence s).2 h)

theorem tickLines_channel (c : Fin 4) : (tickLines presence s).channel c = s.channel c := by
  have htb : (tickLines presence s).tb = s.tb.tick := by rw [(tickLines_moved presence s).frame]
  rw [State.channel, htb, TimeBase.tick_channels]
  rfl

/-- The channels as the work before them leaves them: ch0 where no band waits. -/
theorem tickPages_channel {c : Fin 4} (h : c ≠ 0 ∨ s.li.bandPosition = none) :
    (tickPages presence s).channel c = s.channel c := by
  refine Eq.trans ?_ (tickLines_channel presence s c)
  obtain h | h := h
  · exact (stallWork_passed s.tap32 _).channels c h
  · have htb : (tickPages presence s).tb = (tickLines presence s).tb := by rw [tickPages_frame presence s (.inl h)]
    rw [State.channel, htb]
    rfl

section
variable {c : Fin 4} (h : c ≠ 0 ∨ s.li.bandPosition = none)
include h

theorem tick_channel_idle (hi : ¬Tap.ticks s.tb.tick (s.channel c).tap = true ∨ (s.channel c).running = false) :
    (tick presence s).channel c = s.channel c := by
  rw [tick_eq, channelsWork_idle, tickPages_channel presence s h]
  rw [tickPages_channel presence s h]
  exact hi

theorem tick_channel_ticked (ht : Tap.ticks s.tb.tick (s.channel c).tap = true) (hr : (s.channel c).running = true) :
    (tick presence s).channel c = (s.channel c).ticked (c == 0) := by
  rw [← tickPages_channel presence s h] at ht hr ⊢
  rw [tick_eq, channelsWork_ticked _ _ _ ht hr]

end

/-- The panel session at a tick with no band that waits. -/
theorem tick_session (hb : s.li.bandPosition = none) :
    (Tap.ticks s.tb.tick (s.channel 0).tap = true → (s.channel 0).running = true →
      (s.channel 0).count + 1 = (s.channel 0).period →
      (tick presence s).acct.session = none ∧
        (s.acct.session ≠ none → (tick presence s).status.has .sessionEnded = true)) ∧
    (¬(Tap.ticks s.tb.tick (s.channel 0).tap = true ∧ (s.channel 0).running = true ∧
        (s.channel 0).count + 1 = (s.channel 0).period) →
      (tick presence s).acct.session = s.acct.session) := by
  have hsession : (tickPages presence s).acct.session = s.acct.session := by
    rw [tickPages_frame presence s (.inl hb)]
    dsimp only
    rw [(tickLines_moved presence s).frame]
  rw [← hsession, ← tickPages_channel presence s (c := 0) (.inr hb), tick_eq]
  exact channelsWork_session _ _

/-- What the lines and the stall count left before the channels. -/
theorem tickPages_held (h : StallApart s.tap32 s) : (tickPages presence s).kt = s.kt ∧
    (tickPages presence s).tb = s.tb.tick ∧
    ((∀ c, ¬(s.tap32 = true ∧ (s.slot c).edge presence[c])) → (tickPages presence s).ms = s.ms ∧
      (tickPages presence s).acct = s.acct ∧
      (tickPages presence s).tu = { s.tu with slots := (tickPages presence s).tu.slots } ∧
      (tickPages presence s).draws = s.draws) ∧
    ∀ c, ¬(s.tap32 = true ∧ (s.slot c).edge presence[c]) →
      (tickPages presence s).slot c = (s.slot c).lineTicked s.tap32 presence[c] := by
  have hframe := tickPages_frame presence s h
  have hkt : (tickPages presence s).kt = (tickLines presence s).kt := by rw [hframe]
  have htb : (tickPages presence s).tb = (tickLines presence s).tb := by rw [hframe]
  have hms : (tickPages presence s).ms = (tickLines presence s).ms := by rw [hframe]
  have hacct : (tickPages presence s).acct = (tickLines presence s).acct := by rw [hframe]
  have htu : (tickPages presence s).tu = (tickLines presence s).tu := by rw [hframe]
  have hdraws : (tickPages presence s).draws = (tickLines presence s).draws := by rw [hframe]
  have hmoved := (tickLines_moved presence s).frame
  rw [hkt, htb, hms, hacct, htu, hdraws]
  refine ⟨by rw [hmoved], by rw [hmoved], fun hedges => ?_, fun c hedge => ?_⟩
  · have hheld : LinesHeld { s with tb := s.tb.tick } (tickLines presence s) := lineWork_held _ _ hedges
    have hsame : tickLines presence s = _ := hheld
    exact ⟨by rw [hsame], by rw [hsame], by rw [hsame], by rw [hsame]⟩
  · rw [State.slot, htu]
    exact tickLines_slot presence s hedge

end

end Sys2Proof.Machine

/-! PROOFS. Time advances (O50). -/

namespace Sys2Proof.Machine

/-! ### A channel's own tick -/

theorem Channel.ticked_of_count {x : Channel} (h : x.count + 1 ≠ x.period) (oneShot : Bool) : x.ticked oneShot =
    if x.stopPending = true then { x with running := false, stopPending := false, count := 0 }
    else { x with count := x.count + 1 } := if_neg h

/-- ch0 stops at its period. -/
theorem Channel.ticked_oneShot {x : Channel} (h : x.count + 1 = x.period) :
    x.ticked true = { x with running := false, stopPending := false, count := 0 } := by
  refine (if_pos h).trans ((Channel.afterExpiry_eq x x.count true).trans (if_pos (.inr rfl)))

theorem Channel.ticked_recurring {x : Channel} (h : x.count + 1 = x.period) : x.ticked false =
    if x.stopPending = true then { x with running := false, stopPending := false, count := 0 }
    else match x.staged with
      | some (tap, period) => { x with tap := tap, period := period, staged := none, count := 0 }
      | none => { x with count := 0 } := by
  refine (if_pos h).trans ((Channel.afterExpiry_eq x x.count false).trans (if_congr (by simp) rfl rfl))

/-- The work of a tick at a channel, told apart by its count. -/
theorem channelWork_eq (T : TimeBase) (v : State) (c : Fin 4) (P : Prop) [Decidable P]
    (hP : Tap.ticks T (v.channel c).tap = true ↔ P) : channelWork T v c =
    if ¬P ∨ (v.channel c).running = false then v
    else if (v.channel c).count + 1 = (v.channel c).period then channelExpiry v c
    else v.setChannel c (if (v.channel c).stopPending = true then
        { v.channel c with running := false, stopPending := false, count := 0 }
      else { v.channel c with count := (v.channel c).count + 1 }) := by
  by_cases hidle : ¬P ∨ (v.channel c).running = false
  · rw [if_pos hidle, channelWork_of_idle]
    rw [hP]
    exact hidle
  · obtain ⟨hticks, hrun⟩ := not_or.1 hidle
    have hrun : (v.channel c).running = true := by simpa using hrun
    rw [if_neg hidle, channelWork_of_ticks T (hP.2 (not_not.1 hticks))]
    by_cases hn : (v.channel c).count + 1 = (v.channel c).period
    · rw [if_pos hn, tickChannel_of_expiry v c hrun hn]
    · rw [if_neg hn, tickChannel_of_count v c hrun hn]
      rfl

/-- A reference step is the ticks its accumulator holds, each taken in turn (R164). -/
theorem referenceStep_eq (s : State) (presence : Vector Bool 4) : referenceStep s presence =
    (tick presence)^[(s.tb.accumulator + (1048576 + s.tb.trim).toNat) / 1048576]
      { s with tb := { s.tb with accumulator := (s.tb.accumulator + (1048576 + s.tb.trim).toNat) % 1048576 } } :=
  ticks_eq_iterate ..

/-- A reference step takes none, one or two ticks (R164). -/
theorem referenceStep_ticks {s : State} (h : TimeInRange s) :
    (s.tb.accumulator + (1048576 + s.tb.trim).toNat) / 1048576 ≤ 2 ∧
    ((s.tb.accumulator + (1048576 + s.tb.trim).toNat) / 1048576 = 2 → 0 < s.tb.trim) ∧
    ((s.tb.accumulator + (1048576 + s.tb.trim).toNat) / 1048576 = 0 → s.tb.trim < 0) := by
  obtain ⟨hacc, -, -, hlow, hhigh⟩ := h
  refine ⟨?_, fun h => ?_, fun h => ?_⟩ <;> omega

section
variable {presence : Vector Bool 4} {s : State} {c : Fin 4} {x : Channel} (hx : s.channel c = x) {P : Prop}
  (hP : Tap.ticks s.tb.tick x.tap = true ↔ P)
include hx hP

/-- A channel before its period (R168, R170). -/
theorem tick_channel_counts (hc : c ≠ 0 ∨ s.li.bandPosition = none) :
    (¬P ∨ x.running = false → (tick presence s).channel c = x) ∧
    (P → x.running = true → x.count + 1 ≠ x.period → (tick presence s).channel c =
      if x.stopPending = true then { x with running := false, stopPending := false, count := 0 }
      else { x with count := x.count + 1 }) := by
  subst hx
  exact ⟨fun hi => tick_channel_idle presence s hc (hi.imp_left (mt hP.1)),
    fun ht hr hn => (tick_channel_ticked presence s hc (hP.2 ht) hr).trans (Channel.ticked_of_count hn _)⟩

/-- A channel but ch0 at its period. -/
theorem tick_channel_recurs (hc : c ≠ 0) (ht : P) (hr : x.running = true) (hn : x.count + 1 = x.period) :
    (tick presence s).channel c = if x.stopPending = true then
        { x with running := false, stopPending := false, count := 0 }
      else match x.staged with
        | some (tap, period) => { x with tap := tap, period := period, staged := none, count := 0 }
        | none => { x with count := 0 } := by
  subst hx
  have hticked := tick_channel_ticked presence s (.inl hc) (hP.2 ht) hr
  rw [beq_false_of_ne hc] at hticked
  exact hticked.trans (Channel.ticked_recurring hn)

end

/-- ch0 at its period stops and closes the panel session. -/
theorem tick_channel_zero {presence : Vector Bool 4} {s : State} {x : Channel} (hx : s.channel 0 = x) {P : Prop}
    (hP : Tap.ticks s.tb.tick x.tap = true ↔ P) (hb : s.li.bandPosition = none) :
    (P → x.running = true → x.count + 1 = x.period →
      (tick presence s).channel 0 = { x with running := false, stopPending := false, count := 0 } ∧
      (tick presence s).acct.session = none ∧
      (s.acct.session ≠ none → (tick presence s).status.has .sessionEnded = true)) ∧
    (¬(P ∧ x.running = true ∧ x.count + 1 = x.period) → (tick presence s).acct.session = s.acct.session) := by
  subst hx
  obtain ⟨hcloses, hstays⟩ := tick_session presence s hb
  refine ⟨fun ht hr hn => ?_, fun h => hstays fun ⟨ht, hrn⟩ => h ⟨hP.1 ht, hrn⟩⟩
  have hticked := tick_channel_ticked presence s (.inr hb) (hP.2 ht) hr
  exact ⟨hticked.trans (Channel.ticked_oneShot hn), hcloses (hP.2 ht) hr hn⟩

/-- Settles O50: the phases of a tick, each by what it shows. -/
theorem timeAdvances : Obligations.TimeAdvances := by
  intro s presence sum t second tap32 ticks edge runs
  refine ⟨fun h => ⟨congrArg Host.Outcome.next (referenceStep_eq s presence), referenceStep_ticks h⟩, fun hsub hmin => ?_⟩
  have htap : s.tap32 = true ↔ tap32 := ticks_t32_iff s.tb hsub
  have hticks (x : Channel) : Tap.ticks s.tb.tick x.tap = true ↔ ticks x := ticks_iff s.tb hsub hmin x.tap
  have hedge (c : Fin 4) : (s.tap32 = true ∧ (s.slot c).edge presence[c]) ↔ edge c := and_congr_left fun _ => htap
  have hruns : StallTicks s.tap32 s ↔ runs := and_congr_left fun _ => htap
  have ht : tick presence s = t := rfl
  have htb := tick_tb presence s
  have hcounts := TimeBase.tick_fields s.tb hsub
  refine ⟨by rw [htb, hcounts], by rw [htb, hcounts], by rw [htb, hcounts], by rw [htb, hcounts], by rw [htb, hcounts],
    fun c hidle => ?_, fun c hsampled => tick_line_sampled presence s (htap.2 hsampled) c, fun c => ?_,
    ⟨fun h => tick_stall_idle presence s (h.imp_right fun hr => mt hruns.1 hr), fun p hp hr => ?_⟩,
    fun hb => ?_, fun c hc => ?_, tickPages presence s, ?_, fun hapart => ?_⟩
  · exact tick_line_idle presence s (by simpa using mt htap.1 hidle) c
  · intro x hc
    have hc := mt (hedge c).1 hc
    refine ⟨fun e he hn => tick_exchange_low presence s hc he hn, fun e he hn => tick_exchange_limit presence s hc he hn,
      fun hs he => ?_⟩
    obtain ⟨hstate, hexchange⟩ := tick_check_begins presence s hc he hs
    exact ⟨hstate.trans (if_congr htap rfl rfl), hexchange.trans (if_congr htap rfl rfl)⟩
  · intro j n
    have hbelow := tick_stall_below presence s hp (hruns.2 hr)
    have hlimit := tick_stall_limit presence s hp (hruns.2 hr)
    rw [ht] at hbelow hlimit
    exact ⟨hbelow, hlimit⟩
  · intro x
    have hx : s.channel 0 = x := rfl
    clear_value x
    obtain ⟨hidle, hcount⟩ := tick_channel_counts hx (hticks x) (.inr hb)
    obtain ⟨hcloses, hstays⟩ := tick_channel_zero hx (hticks x) hb
    rw [ht] at hidle hcount hcloses hstays
    exact ⟨hidle, hcount, hcloses, hstays⟩
  · intro x ticked
    have hx : s.channel c = x := rfl
    have hticked : Tap.ticks s.tb.tick x.tap = true ↔ ticked := hticks x
    clear_value ticked x
    obtain ⟨hidle, hcount⟩ := tick_channel_counts hx hticked (.inl hc)
    exact ⟨hidle, hcount, tick_channel_recurs hx hticked hc⟩
  · refine (tick_eq presence s).trans ?_
    have hwork : channelWork s.tb.tick = _ :=
      funext fun v => funext fun c => channelWork_eq s.tb.tick v c (ticks (v.channel c)) (hticks _)
    rw [hwork]
    rfl
  · obtain ⟨hkt, hpages, hheld, hslot⟩ := tickPages_held presence s
      (hapart.imp_right fun hother p hp hr => hother p hp (hruns.1 hr))
    refine ⟨hkt, hpages.trans ?_, fun hnone => hheld fun c => mt (hedge c).1 (hnone c), fun c hc => ?_⟩
    · rw [htb, hcounts]
    · intro x y
      have hy : (s.slot c).tapSampled s.tap32 presence[c] = y := if_congr htap rfl rfl
      exact (hslot c (mt (hedge c).1 hc)).trans (lineTicked_eq hy htap)

end Sys2Proof.Machine
